-- ==== Sys2Proof/Word.lean ====
section
/-! DEFINITION. The word types of the CH48 (R4, R5, R11): bytes, instruction words, scalar registers, command
registers, predicates and vector elements. -/

namespace Sys2Proof

/-- One byte. -/
abbrev Byte := BitVec 8

/-- One 32-bit instruction word, link word or vector element. -/
abbrev Word := BitVec 32

/-- One 64-bit scalar register (R11). -/
abbrev DWord := BitVec 64

/-- One 128-bit command register (R11, R12). -/
abbrev KWord := BitVec 128

/-- One 1,024-bit predicate: bit `64 r + c` governs element (r, c) (R13). -/
abbrev Pred := BitVec 1024

/-- A place: row in [12:7], column in [6:0] (R31). -/
abbrev Place := BitVec 13

/-- A code-image line index (R73). -/
abbrev Line := BitVec 21

/-- A slot of a line, 1 to 15 (R73); 0 is the link word. -/
abbrev Slot := BitVec 4

end Sys2Proof
end

