-- ==== Sys2Proof/Machine/Cells.lean ====
section
/-! DEFINITION. Sparse tables of plain data: a list of (index, value) pairs, indices strictly rising, no entry equal
to the default an unlisted index reads as. Register files, memories and per-core tables are held this way. -/

namespace Sys2Proof.Machine

/-- A table indexed by `Nat`; an index not listed holds the table's default. -/
abbrev Cells (α : Type) := List (Nat × α)

/-- The value at index `i`, or `dflt` when it is not listed. -/
def Cells.get {α : Type} (dflt : α) : Cells α → Nat → α
  | [], _ => dflt
  | (j, v) :: rest, i => if j = i then v else Cells.get dflt rest i

/-- The table without index `i`. -/
def Cells.erase {α : Type} : Cells α → Nat → Cells α
  | [], _ => []
  | (j, v) :: rest, i => if j = i then Cells.erase rest i else (j, v) :: Cells.erase rest i

/-- Puts (i, v) before the first listed index above `i`. -/
def Cells.insert {α : Type} : Cells α → Nat → α → Cells α
  | [], i, v => [(i, v)]
  | (j, w) :: rest, i, v => if i < j then (i, v) :: (j, w) :: rest else (j, w) :: Cells.insert rest i v

/-- Index `i` set to `v`; setting it to the default removes the entry, so that equal tables are equal lists. -/
def Cells.set {α : Type} [DecidableEq α] (dflt : α) (c : Cells α) (i : Nat) (v : α) : Cells α :=
  if v = dflt then c.erase i else (c.erase i).insert i v

/-- Every listed index is above `n`, and the indices rise. -/
def Cells.rising {α : Type} : Option Nat → Cells α → Bool
  | _, [] => true
  | lo, (j, _) :: rest => (match lo with | none => true | some n => decide (n < j)) && Cells.rising (some j) rest

/-- The canonical form: rising indices, and no entry equal to the default. -/
def Cells.wf {α : Type} [DecidableEq α] (dflt : α) (c : Cells α) : Bool :=
  Cells.rising none c && c.all (fun e => decide (e.2 ≠ dflt))

/-- The first `n` naturals from `start`, in rising order. -/
def upto (start : Nat) : Nat → List Nat
  | 0 => []
  | n + 1 => start :: upto (start + 1) n

/-- Reads `n` consecutive bytes from `addr` of a byte table, least significant first, as one number (R5). -/
def bytesAt (m : Cells Byte) (addr : Nat) : Nat → Nat
  | 0 => 0
  | n + 1 => (m.get 0 addr).toNat + 256 * bytesAt m (addr + 1) n

/-- Stores the low `n` bytes of `v` from `addr` on, least significant first (R5). -/
def setBytes (m : Cells Byte) (addr : Nat) : Nat → Nat → Cells Byte
  | 0, _ => m
  | n + 1, v => setBytes (m.set 0 addr (BitVec.ofNat 8 v)) (addr + 1) n (v / 256)

/-- Stores those of the low `n` bytes of `v` whose bit of `keep` is 1. -/
def setBytesMasked (m : Cells Byte) (addr : Nat) : Nat → Nat → Nat → Cells Byte
  | 0, _, _ => m
  | n + 1, v, keep =>
    setBytesMasked (if keep % 2 = 1 then m.set 0 addr (BitVec.ofNat 8 v) else m) (addr + 1) n (v / 256) (keep / 2)

/-- Bits [lo + w − 1 : lo] of `v` (R8). -/
def bits (v lo w : Nat) : Nat := (v >>> lo) % 2 ^ w

/-- `v` with bits [lo + w − 1 : lo] replaced by the low `w` bits of `x`. -/
def putBits (v lo w x : Nat) : Nat := v - bits v lo w * 2 ^ lo + (x % 2 ^ w) * 2 ^ lo

/-- Bit `i` of `v`. -/
def bit (v i : Nat) : Bool := v.testBit i

/-- The low `n` bits of `v` as a two's-complement integer (R88). -/
def sextNat (v n : Nat) : Int :=
  let t := v % 2 ^ n
  if 2 ^ (n - 1) ≤ t then (t : Int) - 2 ^ n else t

/-- The low 64 bits of an exact integer. -/
def dword (x : Int) : DWord := BitVec.ofInt 64 x

/-- `x` clamped to [lo, hi] (R51). -/
def sat (x lo hi : Int) : Int := if x < lo then lo else if hi < x then hi else x

end Sys2Proof.Machine
end

