-- ==== Sys2Proof/Machine/Num.lean ====
section
/-! DEFINITION. Number formats and arithmetic (spec/02_number_formats.md, R47–R72): exact fractions, rounding, the
IEEE formats, MK8, integers, ACC40, the exponential table and the soft maximum. Every operation computes on exact
fractions and rounds where the spec calls a rounding helper (R8). -/

namespace Sys2Proof.Machine

/-! ## Exact fractions -/

/-- An exact rational: `num / den`, `den` positive. -/
structure Frac where
  num : Int
  den : Nat
  deriving DecidableEq, Repr

namespace Frac

def zero : Frac := ⟨0, 1⟩
def ofInt (n : Int) : Frac := ⟨n, 1⟩
/-- `2 ^ e`. -/
def pow2 (e : Int) : Frac := if 0 ≤ e then ⟨2 ^ e.toNat, 1⟩ else ⟨1, 2 ^ (-e).toNat⟩
def neg (x : Frac) : Frac := ⟨-x.num, x.den⟩
def add (x y : Frac) : Frac := ⟨x.num * y.den + y.num * x.den, x.den * y.den⟩
def sub (x y : Frac) : Frac := x.add y.neg
def mul (x y : Frac) : Frac := ⟨x.num * y.num, x.den * y.den⟩
/-- The quotient; callers never pass a zero divisor. -/
def div (x y : Frac) : Frac :=
  if y.num < 0 then ⟨-(x.num * y.den), x.den * y.num.natAbs⟩ else ⟨x.num * y.den, x.den * y.num.natAbs⟩
def isZero (x : Frac) : Bool := x.num == 0
def isNeg (x : Frac) : Bool := decide (x.num < 0)
def abs (x : Frac) : Frac := ⟨x.num.natAbs, x.den⟩
def lt (x y : Frac) : Bool := decide (x.num * y.den < y.num * x.den)
def le (x y : Frac) : Bool := decide (x.num * y.den ≤ y.num * x.den)
def eq (x y : Frac) : Bool := decide (x.num * y.den = y.num * x.den)
/-- The largest integer not above `x`. -/
def floor (x : Frac) : Int := x.num.fdiv x.den
/-- floor (log2 |x|) for `x ≠ 0`. -/
def floorLog2 (x : Frac) : Int :=
  let a := x.num.natAbs
  let k : Int := (Nat.log2 a : Int) - Nat.log2 x.den
  let below := if 0 ≤ k then decide (a < x.den * 2 ^ k.toNat) else decide (a * 2 ^ (-k).toNat < x.den)
  if below then k - 1 else k

end Frac

/-! ## Rounding (R49–R51) -/

/-- Rounding modes, by their field values (R49). -/
inductive Rm where
  | rne | rtz | rup | rdn
  deriving DecidableEq, Repr

def Rm.ofBits (b : BitVec 2) : Rm :=
  match b.toNat with
  | 0 => .rne
  | 1 => .rtz
  | 2 => .rup
  | _ => .rdn

/-- The non-negative fraction a / b rounded to an integer in mode `rm`; `neg` is the sign of the value it belongs to. -/
def roundNat (rm : Rm) (neg : Bool) (a b : Nat) : Nat :=
  let q := a / b
  let r := a % b
  match rm with
  | .rne => if 2 * r < b then q else if b < 2 * r then q + 1 else q + q % 2
  | .rtz => q
  | .rup => if r ≠ 0 ∧ neg = false then q + 1 else q
  | .rdn => if r ≠ 0 ∧ neg = true then q + 1 else q

/-- `x` rounded to an integer in mode `rm`. -/
def roundInt (rm : Rm) (x : Frac) : Int :=
  let m : Int := roundNat rm x.isNeg x.num.natAbs x.den
  if x.isNeg then -m else m

/-- The sticky flags of fstat, in its bit order (R20 field map, R52). -/
abbrev Flags := BitVec 6
def Flags.none : Flags := 0
def Flags.nx : Flags := 1
def Flags.uf : Flags := 2
def Flags.of : Flags := 4
def Flags.dz : Flags := 8
def Flags.nv : Flags := 16
def Flags.sv : Flags := 32
def Flags.when (c : Bool) (f : Flags) : Flags := if c then f else 0

/-- A binary format: exponent and fraction widths (R47; ACC40 in float mode, R60). -/
structure Fmt where
  expBits : Nat
  fracBits : Nat
  deriving DecidableEq, Repr

namespace Fmt
def fp32 : Fmt := ⟨8, 23⟩
def fp16 : Fmt := ⟨5, 10⟩
def bf16 : Fmt := ⟨8, 7⟩
def acc40 : Fmt := ⟨9, 30⟩
def p (f : Fmt) : Nat := f.fracBits + 1
def bias (f : Fmt) : Int := 2 ^ (f.expBits - 1) - 1
def emax (f : Fmt) : Int := f.bias
def emin (f : Fmt) : Int := 1 - f.bias
def width (f : Fmt) : Nat := f.expBits + f.fracBits + 1
def signBit (f : Fmt) : Nat := 2 ^ (f.expBits + f.fracBits)
/-- The bits of +∞. -/
def infBits (f : Fmt) : Nat := (2 ^ f.expBits - 1) * 2 ^ f.fracBits
def quietBit (f : Fmt) : Nat := 2 ^ (f.fracBits - 1)
/-- The canonical quiet NaN (R47, R60). -/
def nanBits (f : Fmt) : Nat := f.infBits + f.quietBit
def withSign (f : Fmt) (s : Bool) (b : Nat) : Nat := if s then f.signBit + b else b
/-- The largest finite magnitude. -/
def maxBits (f : Fmt) : Nat := f.infBits - 1
end Fmt

/-- A result with the flags it raises. -/
structure Res where
  bits : Nat
  flags : Flags := 0
  deriving DecidableEq, Repr

/-- round_mode(x, fmt, rm) for an exact `x ≠ 0` (R50): the rounded bits, and OF, UF, NX. -/
def roundMode (f : Fmt) (rm : Rm) (x : Frac) : Res :=
  let neg := x.isNeg
  let e := max x.floorLog2 f.emin
  let k : Int := e - f.p + 1
  let a := if 0 ≤ k then x.num.natAbs else x.num.natAbs * 2 ^ (-k).toNat
  let b := if 0 ≤ k then x.den * 2 ^ k.toNat else x.den
  let m := roundNat rm neg a b
  let exact := decide (m * b = a)
  if f.emax < e ∨ (e = f.emax ∧ m = 2 ^ f.p) then
    let toInf := match rm with | .rne => true | .rtz => false | .rup => !neg | .rdn => neg
    ⟨f.withSign neg (if toInf then f.infBits else f.maxBits), Flags.of ||| Flags.nx⟩
  else
    ⟨f.withSign neg ((e - f.emin).toNat * 2 ^ f.fracBits + m),
      Flags.when (!exact) Flags.nx ||| Flags.when (!exact && decide (x.floorLog2 < f.emin)) Flags.uf⟩

/-! ## IEEE values (R47, R48) -/

/-- A value of format `fmt`, by its bits. -/
structure Fp where
  fmt : Fmt
  bits : Nat
  deriving DecidableEq, Repr

namespace Fp
def frac (x : Fp) : Nat := x.bits % 2 ^ x.fmt.fracBits
def expo (x : Fp) : Nat := (x.bits / 2 ^ x.fmt.fracBits) % 2 ^ x.fmt.expBits
def sign (x : Fp) : Bool := x.bits.testBit (x.fmt.expBits + x.fmt.fracBits)
def isNan (x : Fp) : Bool := x.expo == 2 ^ x.fmt.expBits - 1 && x.frac != 0
def isSnan (x : Fp) : Bool := x.isNan && decide (x.frac < x.fmt.quietBit)
def isInf (x : Fp) : Bool := x.expo == 2 ^ x.fmt.expBits - 1 && x.frac == 0
def isZero (x : Fp) : Bool := x.expo == 0 && x.frac == 0
def isSubnormal (x : Fp) : Bool := x.expo == 0 && x.frac != 0
/-- The exact value of a finite number. -/
def val (x : Fp) : Frac :=
  let m : Int := if x.expo = 0 then x.frac else x.frac + 2 ^ x.fmt.fracBits
  let e : Int := (if x.expo = 0 then x.fmt.emin else (x.expo : Int) - x.fmt.bias) - x.fmt.fracBits
  (Frac.ofInt (if x.sign then -m else m)).mul (Frac.pow2 e)
end Fp

/-- `x`, a NaN, quieted in format `f`: the payload kept, cut from the low end when `f` is narrower (R48). -/
def quietTo (f : Fmt) (x : Fp) : Nat :=
  let g := x.fmt.fracBits
  let fr := if g ≤ f.fracBits then x.frac * 2 ^ (f.fracBits - g) else x.frac / 2 ^ (g - f.fracBits)
  f.withSign x.sign (f.infBits + (fr ||| f.quietBit))

/-- The first NaN operand in operand order, quieted (R48). -/
def firstNan (f : Fmt) : List Fp → Option Nat
  | [] => none
  | x :: rest => if x.isNan then some (quietTo f x) else firstNan f rest

/-- NV for a signalling operand (R52). -/
def snanFlag (xs : List Fp) : Flags := Flags.when (xs.any Fp.isSnan) Flags.nv

/-- An invalid operation: the canonical NaN with NV (R48). -/
def invalid (f : Fmt) : Res := ⟨f.nanBits, Flags.nv⟩

/-- A signed zero, infinity. -/
def zeroBits (f : Fmt) (s : Bool) : Res := ⟨f.withSign s 0, 0⟩
def infRes (f : Fmt) (s : Bool) : Res := ⟨f.withSign s f.infBits, 0⟩

/-- An exact value rounded, with the sign `zs` of an exact zero. -/
def roundOr (f : Fmt) (rm : Rm) (zs : Bool) (x : Frac) : Res :=
  if x.isZero then zeroBits f zs else roundMode f rm x

/-- The sign of an exact zero sum of terms of signs `s`, `t` (R48). -/
def zeroSumSign (rm : Rm) (s t : Bool) : Bool := if s = t then s else decide (rm = .rdn)

/-- x × y + z with one rounding to `f`; `exactZero z` is used for a plain product. NaN operands are ranked `ops`,
0 × ∞ raises NV whatever z is (R48). `pz` tells whether `z` takes part (a sum) or not (a product). -/
def fmaWith (f : Fmt) (rm : Rm) (ops : List Fp) (x y : Fp) (negProd : Bool) (z : Option Fp) (negZ : Bool) : Res :=
  let ps := (x.sign != y.sign) != negProd
  let badProd := (x.isZero && y.isInf) || (x.isInf && y.isZero)
  let nvs := snanFlag ops ||| Flags.when badProd Flags.nv
  match firstNan f ops with
  | some n => ⟨n, nvs⟩
  | none =>
    if badProd then invalid f
    else
      let prodInf := x.isInf || y.isInf
      match z with
      | none =>
        if prodInf then infRes f ps else roundOr f rm ps (let p := x.val.mul y.val; if negProd then p.neg else p)
      | some z =>
        let zsgn := z.sign != negZ
        if prodInf && z.isInf then (if ps = zsgn then infRes f ps else invalid f)
        else if prodInf then infRes f ps
        else if z.isInf then infRes f zsgn
        else
          let p := x.val.mul y.val
          let p := if negProd then p.neg else p
          let zv := if negZ then z.val.neg else z.val
          roundOr f rm (zeroSumSign rm ps zsgn) (p.add zv)

/-- a + b, or a − b with `negB` (R48). -/
def fpAdd (f : Fmt) (rm : Rm) (a b : Fp) (negB : Bool := false) : Res :=
  match firstNan f [a, b] with
  | some n => ⟨n, snanFlag [a, b]⟩
  | none =>
    let bs := b.sign != negB
    if a.isInf && b.isInf then (if a.sign = bs then infRes f a.sign else invalid f)
    else if a.isInf then infRes f a.sign
    else if b.isInf then infRes f bs
    else roundOr f rm (zeroSumSign rm a.sign bs) (if negB then a.val.sub b.val else a.val.add b.val)

/-- a × b. -/
def fpMul (f : Fmt) (rm : Rm) (a b : Fp) : Res := fmaWith f rm [a, b] a b false none false

/-- a × b + c, or its negated forms, rounded once, in operand order a, b, c. -/
def fpFma (f : Fmt) (rm : Rm) (a b c : Fp) (negProd negC : Bool := false) : Res :=
  fmaWith f rm [a, b, c] a b negProd (some c) negC

/-- a / b (DZ for a finite non-zero number divided by zero, R52). -/
def fpDiv (f : Fmt) (rm : Rm) (a b : Fp) : Res :=
  let s := a.sign != b.sign
  match firstNan f [a, b] with
  | some n => ⟨n, snanFlag [a, b]⟩
  | none =>
    if (a.isInf && b.isInf) || (a.isZero && b.isZero) then invalid f
    else if a.isInf then infRes f s
    else if b.isZero then ⟨f.withSign s f.infBits, Flags.dz⟩
    else if b.isInf || a.isZero then zeroBits f s
    else roundMode f rm (a.val.div b.val)

/-- A fraction that rounds as the square root of `x > 0` does: the root cut far below the last place, with a sticky
bit when it is not exact. -/
def sqrtSticky (x : Frac) : Frac :=
  let n := x.num.natAbs * x.den * 2 ^ 400
  let r := Nat.sqrt n
  ⟨(2 * r + (if r * r = n then 0 else 1) : Nat), 2 * x.den * 2 ^ 200⟩

/-- The square root of a. -/
def fpSqrt (f : Fmt) (rm : Rm) (a : Fp) : Res :=
  match firstNan f [a] with
  | some n => ⟨n, snanFlag [a]⟩
  | none =>
    if a.isZero then zeroBits f a.sign
    else if a.sign then invalid f
    else if a.isInf then infRes f false
    else roundMode f rm (sqrtSticky a.val)

/-- Value order of two numbers, −0 equal to +0 (neither a NaN). -/
def fpLt (a b : Fp) : Bool :=
  if a.isInf then a.sign && !(b.isInf && b.sign)
  else if b.isInf then !b.sign
  else a.val.lt b.val
def fpEq (a b : Fp) : Bool :=
  if a.isInf || b.isInf then a.isInf && b.isInf && a.sign == b.sign else a.val.eq b.val

/-- IEEE 754-2019 maximum and minimum, −0 below +0 (R72). -/
def fpMax (f : Fmt) (a b : Fp) : Res :=
  match firstNan f [a, b] with
  | some n => ⟨n, snanFlag [a, b]⟩
  | none => if fpLt a b || (fpEq a b && a.sign) then ⟨b.bits, 0⟩ else ⟨a.bits, 0⟩
def fpMin (f : Fmt) (a b : Fp) : Res :=
  match firstNan f [a, b] with
  | some n => ⟨n, snanFlag [a, b]⟩
  | none => if fpLt b a || (fpEq a b && b.sign) then ⟨b.bits, 0⟩ else ⟨a.bits, 0⟩

/-- Conversion between IEEE formats: exact when widening, rounded by `rm` when narrowing (R59). -/
def fpConvert (f : Fmt) (rm : Rm) (a : Fp) : Res :=
  match firstNan f [a] with
  | some n => ⟨n, snanFlag [a]⟩
  | none => if a.isInf then infRes f a.sign else roundOr f rm a.sign a.val

/-- An integer rounded to a format (R57). -/
def fpOfInt (f : Fmt) (rm : Rm) (n : Int) : Res := roundOr f rm false (Frac.ofInt n)

/-- A result of int_from: an integer and the flags it raises. -/
structure IntRes where
  val : Int
  flags : Flags := 0
  deriving DecidableEq, Repr

/-- An exact value narrowed to [lo, hi] by int_from (R57). -/
def intOfFrac (lo hi : Int) (rm : Rm) (x : Frac) : IntRes :=
  let n := roundInt rm x
  if n < lo ∨ hi < n then ⟨sat n lo hi, Flags.sv⟩
  else ⟨n, Flags.when (!(x.eq (Frac.ofInt n))) Flags.nx⟩

/-- int_from(x, w, rm) for a signed width `w` (R57). -/
def intFrom (w : Nat) (rm : Rm) (a : Fp) : IntRes :=
  let lo : Int := -2 ^ (w - 1)
  let hi : Int := 2 ^ (w - 1) - 1
  if a.isNan then ⟨0, Flags.nv⟩
  else if a.isInf then ⟨if a.sign then lo else hi, Flags.nv⟩
  else intOfFrac lo hi rm a.val

/-! ## MK8 (R53–R55) -/

/-- The magnitude of MK8 code `c` (1 to 127) in units of 2^−17 (R53); 0 for c = 0. -/
def mk8Scaled (c : Nat) : Nat :=
  let k := Nat.log2 c
  let t := c % 2 ^ k
  let go (e : Int) (fr ff : Nat) : Nat := (2 ^ ff + fr) * 2 ^ (e + 17).toNat / 2 ^ ff
  if c = 0 then 0
  else match k with
    | 6 => go ((t / 16 : Nat) - 1) (t % 16) 4
    | 5 => go (if t / 4 < 4 then ((t / 4 : Nat) : Int) - 5 else ((t / 4 : Nat) : Int) - 1) (t % 4) 2
    | 4 => go (if t / 2 < 4 then ((t / 2 : Nat) : Int) - 9 else ((t / 2 : Nat) : Int) + 3) (t % 2) 1
    | 3 => go (if t < 4 then (t : Int) - 13 else (t : Int) + 7) 0 0
    | 2 => go (if t < 2 then (t : Int) - 15 else (t : Int) + 13) 0 0
    | 1 => go (if t = 0 then -16 else 17) 0 0
    | _ => go (-17) 0 0

/-- mk8_value: the exact value of an MK8 byte, `none` for the NaN 0x80 (R53). -/
def mk8Value (b : Nat) : Option Frac :=
  let c := b % 128
  if c = 0 then (if b.testBit 7 then none else some Frac.zero)
  else
    let m : Int := mk8Scaled c
    some ⟨if b.testBit 7 then -m else m, 2 ^ 17⟩

/-- The code of the largest MK8 magnitude not above a, and of the smallest not below a (0 where there is none). -/
def mk8Around (a : Frac) : Nat × Nat :=
  (upto 1 127).foldl (fun (lo, hi) c =>
    let v : Frac := ⟨mk8Scaled c, 2 ^ 17⟩
    (if v.le a && decide (mk8Scaled lo < mk8Scaled c) then c else lo,
     if a.le v && (hi == 0 || decide (mk8Scaled c < mk8Scaled hi)) then c else hi)) (0, 0)

/-- mk8_from of an exact value: nearest magnitude, ties away from zero (R55). -/
def mk8OfFrac (x : Frac) : Res :=
  let a := x.abs
  let s := if x.isNeg then 128 else 0
  if (Frac.pow2 17).lt a then ⟨s + 3, Flags.sv ||| Flags.nx⟩
  else if a.isZero then ⟨0, 0⟩
  else
    let (lo, hi) := mk8Around a
    let lv : Frac := ⟨mk8Scaled lo, 2 ^ 17⟩
    let hv : Frac := ⟨mk8Scaled hi, 2 ^ 17⟩
    let m := if (a.sub lv).lt (hv.sub a) then lo else hi
    let exact := (Frac.mk (mk8Scaled m) (2 ^ 17)).eq a
    let fl := Flags.when (!exact) (Flags.nx ||| Flags.when (a.lt (Frac.pow2 (-17))) Flags.uf)
    if m = 0 then ⟨0, fl⟩ else ⟨s + m, fl⟩

/-- mk8_from of an IEEE value (R55). -/
def mk8From (a : Fp) : Res :=
  if a.isNan then ⟨0x80, snanFlag [a]⟩
  else if a.isInf then ⟨if a.sign then 0x83 else 0x03, Flags.nv⟩
  else mk8OfFrac a.val

/-- An MK8 byte rounded to an IEEE format or to ACC40; exact but for FP16's two largest (R59). -/
def fpOfMk8 (f : Fmt) (rm : Rm) (b : Nat) : Res :=
  match mk8Value b with
  | none => ⟨f.nanBits, 0⟩
  | some x => roundOr f rm false x

/-- int_from of an MK8 byte (R57). -/
def intOfMk8 (lo hi : Int) (rm : Rm) (b : Nat) : IntRes :=
  match mk8Value b with
  | none => ⟨0, Flags.nv⟩
  | some x => intOfFrac lo hi rm x

/-! ## ACC40 (R60–R62) -/

/-- The two accumulator modes (R61). -/
inductive AccMode where
  | float | int
  deriving DecidableEq, Repr

/-- A 40-bit accumulator value. -/
abbrev Acc := BitVec 40

def accNan : Acc := 0x7FE0000000#40
def accFp (a : Acc) : Fp := ⟨Fmt.acc40, a.toNat⟩
/-- The normal form of float mode: one NaN, no negative zero (R61). -/
def accNorm (a : Acc) : Acc :=
  if (accFp a).isNan then accNan else if (accFp a).isZero then 0 else a
/-- round_rne(x, ACC40) of an exact value; an exact zero, and a result that rounds to zero, is +0 (R61). -/
def accRound (x : Frac) : Acc :=
  if x.isZero then 0 else accNorm (BitVec.ofNat 40 (roundMode Fmt.acc40 .rne x).bits)
def accInf (s : Bool) : Acc := BitVec.ofNat 40 (Fmt.acc40.withSign s Fmt.acc40.infBits)

/-- An extended real: what enters an ACC40 addition. -/
inductive Ext where
  | nan
  | inf (s : Bool)
  | fin (x : Frac)
  deriving DecidableEq, Repr

def extOfFp (a : Fp) : Ext := if a.isNan then .nan else if a.isInf then .inf a.sign else .fin a.val
def extOfMk8 (b : Nat) : Ext := match mk8Value b with | none => .nan | some x => .fin x
def Ext.isZero : Ext → Bool
  | .fin x => x.isZero
  | _ => false
def Ext.neg? : Ext → Bool
  | .nan => false
  | .inf s => s
  | .fin x => x.isNeg
/-- An exact product; 0 × ∞ and any NaN operand give NaN (R62). -/
def Ext.mul (a b : Ext) : Ext :=
  match a, b with
  | .nan, _ => .nan
  | _, .nan => .nan
  | .fin x, .fin y => .fin (x.mul y)
  | a, b => if a.isZero || b.isZero then .nan else .inf (a.neg? != b.neg?)
/-- An extended real rounded to ACC40 float. -/
def accOfExt : Ext → Acc
  | .nan => accNan
  | .inf s => accInf s
  | .fin x => accRound x

/-- An integer of 40 bits, read and formed. -/
def accInt (a : Acc) : Int := a.toInt
def accOfInt (n : Int) : Acc := BitVec.ofInt 40 n

/-- acc_add of an accumulator and an extended real, in float mode (R62). -/
def accAddExt (a : Acc) (b : Ext) : Acc :=
  match extOfFp (accFp a), b with
  | .nan, _ => accNan
  | _, .nan => accNan
  | .inf s, .inf t => if s = t then accInf s else accNan
  | .inf s, _ => accInf s
  | _, .inf t => accInf t
  | .fin x, .fin y => accRound (x.add y)

/-- acc_add in float mode. -/
def accAddF (a b : Acc) : Acc := accAddExt a (extOfFp (accFp b))

/-- An integer sum saturated to 40 bits, and whether it saturated (status 0x12, R61). -/
def accAddI (a : Acc) (n : Int) : Acc × Bool :=
  let t := accInt a + n
  (accOfInt (sat t (-2 ^ 39) (2 ^ 39 - 1)), decide (t < -2 ^ 39 ∨ 2 ^ 39 - 1 < t))

/-- acc_add (R62): the sum, and whether it saturated. -/
def accAdd (mode : AccMode) (a b : Acc) : Acc × Bool :=
  match mode with
  | .float => (accAddF a b, false)
  | .int => accAddI a (accInt b)

/-- round_rne(a × x, ACC40). -/
def accScale (a : Acc) (x : Ext) : Acc := accOfExt ((extOfFp (accFp a)).mul x)

/-- A container's accumulator: bits [63:40] are ignored, and −0 is read as +0 in float mode (R60, R61). -/
def accLoad (mode : AccMode) (v : Nat) : Acc :=
  match mode with
  | .float => accNorm (BitVec.ofNat 40 v)
  | .int => BitVec.ofNat 40 v
/-- The 8-byte container of an accumulator (R60). -/
def accStore (mode : AccMode) (a : Acc) : Nat :=
  match mode with
  | .float => a.toNat
  | .int => (BitVec.signExtend 64 a).toNat

/-! ## The exponential table (R67) -/

/-- The significands of tab[0] … tab[64] in units of 2^−23: round_rne(2^(i/64), FP32). -/
def expTab : List Nat :=
  [8388608, 8479954, 8572295, 8665641, 8760003, 8855394, 8951823, 9049301, 9147842, 9247455, 9348154, 9449948, 9552851] ++
  [9656875, 9762032, 9868333, 9975792, 10084422, 10194234, 10305242, 10417458, 10530897, 10645571, 10761494, 10878679, 10997140] ++
  [11116891, 11237946, 11360319, 11484025, 11609078, 11735492, 11863283, 11992466, 12123055, 12255067, 12388516, 12523418, 12659789] ++
  [12797645, 12937002, 13077877, 13220286, 13364245, 13509772, 13656884, 13805598, 13955931, 14107901, 14261526, 14416824, 14573813] ++
  [14732511, 14892937, 15055111, 15219050, 15384775, 15552304, 15721658, 15892855, 16065917, 16240863, 16417715, 16596492, 16777216]

/-- exp2_seg for a finite FP32 value `y` in [−126, 128): the FP32 bits (R67). -/
def exp2Core (y : Frac) : Nat :=
  let n := y.floor
  let u64 := (y.sub (Frac.ofInt n)).mul (Frac.ofInt 64)
  let i := u64.floor
  let t := u64.sub (Frac.ofInt i)
  let lo : Int := expTab.getD i.toNat 0
  let hi : Int := expTab.getD (i.toNat + 1) 0
  let v := (Frac.ofInt lo).add ((Frac.ofInt (hi - lo)).mul t)
  let m := roundMode Fmt.fp32 .rne (v.mul (Frac.pow2 (-23)))
  (roundMode Fmt.fp32 .rne ((Fp.mk Fmt.fp32 m.bits).val.mul (Frac.pow2 n))).bits

def fp32 (b : Nat) : Fp := ⟨Fmt.fp32, b⟩
def fp32Nan : Nat := 0x7FC00000
def fp32Inf : Nat := 0x7F800000
def fp32NegInf : Nat := 0xFF800000
def fp32One : Nat := 0x3F800000

/-- exp2_seg(y), on FP32 bits (R67). -/
def exp2Seg (yb : Nat) : Nat :=
  let y := fp32 yb
  if y.isNan then fp32Nan
  else if y.isInf then (if y.sign then 0 else fp32Inf)
  else if y.val.lt (Frac.ofInt (-126)) then 0
  else if (Frac.ofInt 128).le y.val then fp32Inf
  else exp2Core y.val

/-- landing_exp(x), on FP32 bits (R67). -/
def landingExp (xb : Nat) : Nat :=
  exp2Seg (fpMul Fmt.fp32 .rne (fp32 xb) (fp32 0x3FB8AA3B)).bits

/-! ## Soft maximum (R69, R70) -/

/-- A soft-maximum triple: the maximum (FP32 bits), the sum, the output row. -/
structure Triple where
  m : Nat
  s : Acc
  o : List Acc
  deriving DecidableEq, Repr

/-- smax_merge (R69). -/
def smaxMerge (a b : Triple) : Triple :=
  let n := max a.o.length b.o.length
  if (fp32 a.m).isNan || (fp32 b.m).isNan then ⟨fp32Nan, accNan, List.replicate n accNan⟩
  else
    let m := (fpMax Fmt.fp32 (fp32 a.m) (fp32 b.m)).bits
    if m = fp32NegInf then ⟨fp32NegInf, 0, List.replicate n 0⟩
    else
      let f1 := extOfFp (fp32 (landingExp (fpAdd Fmt.fp32 .rne (fp32 a.m) (fp32 m) true).bits))
      let f2 := extOfFp (fp32 (landingExp (fpAdd Fmt.fp32 .rne (fp32 b.m) (fp32 m) true).bits))
      let mix (x y : Acc) : Acc := accAddF (accScale x f1) (accScale y f2)
      ⟨m, mix a.s b.s, (upto 0 n).map (fun j => mix (a.o.getD j 0) (b.o.getD j 0))⟩

/-- The identity triple over `n` columns (R69). -/
def smaxIdentity (n : Nat) : Triple := ⟨fp32NegInf, 0, List.replicate n 0⟩

/-- An ACC40 float value rounded to an IEEE format. -/
def fpOfAcc (f : Fmt) (rm : Rm) (a : Acc) : Res :=
  let x := accFp a
  if x.isNan then ⟨f.nanBits, 0⟩
  else if x.isInf then infRes f x.sign
  else roundOr f rm false x.val

/-- mk8_from of an ACC40 float value. -/
def mk8OfAcc (a : Acc) : Res :=
  let x := accFp a
  if x.isNan then ⟨0x80, 0⟩
  else if x.isInf then ⟨if x.sign then 0x83 else 0x03, Flags.nv⟩
  else mk8OfFrac x.val

/-! ## Ranking (R71) -/

/-- Candidate (a, i) ranks before (b, j): the larger value first, then the lower index, NaNs last (R71). -/
def ranksBefore (a : Ext) (i : Nat) (b : Ext) (j : Nat) : Bool :=
  match a, b with
  | .nan, .nan => decide (i < j)
  | .nan, _ => false
  | _, .nan => true
  | a, b =>
    let lt (x y : Ext) : Bool := match x, y with
      | .inf s, .inf t => s && !t
      | .inf s, _ => s
      | _, .inf t => !t
      | .fin u, .fin v => u.lt v
      | _, _ => false
    if lt b a then true else if lt a b then false else decide (i < j)

end Sys2Proof.Machine
end

