-- ==== Sys2Proof/Config.lean ====
section
/-! DEFINITION. What the configuration image fixes (R245, R323–R325, R350, R361, R369, R370), as plain data held in the
state, and the free values the spec leaves open. -/

namespace Sys2Proof

open Sys2Proof.Machine

/-- A host queue's access window (R325). -/
structure QWindow where
  base : Nat
  size : Nat
  space : Nat
  writable : Bool
  deriving DecidableEq, Repr

/-- A host queue descriptor (R325). -/
structure QueueDesc where
  en : Bool
  part : BitVec 3
  be : Nat
  t1 : Nat
  hdr : Nat
  image : Word
  stream : Word
  windows : List QWindow
  deriving DecidableEq, Repr

def QueueDesc.off : QueueDesc := ⟨false, 0, 12, 200, 0, 0, 0, []⟩

/-- An inbound host window (R369): an adapter offset range mapped to .G addresses of an address space. -/
structure HostIn where
  /-- First adapter offset of the range. -/
  off : Nat
  size : Nat
  base : Nat
  asid : BitVec 12
  readable : Bool
  writable : Bool
  deriving DecidableEq, Repr

/-- An outbound host window (R370). -/
structure HostOut where
  hbase : Nat
  size : Nat
  target : Nat
  writable : Bool
  deriving DecidableEq, Repr

/-- A partition as the configuration image describes it (R323). -/
structure PartCfg where
  en : Bool
  parkMode : Bool
  asid : BitVec 12
  rect : BitVec 25
  root : Nat
  spare : BitVec 25
  qmask : DWord
  deriving DecidableEq, Repr

def PartCfg.off : PartCfg := ⟨false, false, 0, 0, 0, 0, 0⟩

/-- The P fields of a group block (R290, R291). -/
structure GroupCfg where
  en : Bool
  b1 : Bool
  acommit : Bool
  nslot : Nat
  part : BitVec 3
  nExp : Nat
  inMax : Nat
  kvres : Nat
  nfl : Nat
  fltab : DWord
  stage : DWord
  deriving DecidableEq, Repr

def GroupCfg.off : GroupCfg := ⟨false, false, false, 0, 0, 0, 0, 0, 0, 0, 0⟩

/-- What the image sets of a fabric port's control register (R359). -/
structure PortCfg where
  en : Bool
  wt : BitVec 24
  thr : Nat
  deriving DecidableEq, Repr

/-- The defaults of R359; `en` of a port the image does not mention is the model's choice (DESIGN CHOICE, log 68). -/
def PortCfg.default : PortCfg := ⟨true, 0x184481#24, 256⟩

/-- An inbound fabric window (R361); disabled where the image does not set it (DESIGN CHOICE, log 68). -/
structure FWindow where
  base : DWord
  size : DWord
  attr : DWord
  srect : DWord
  deriving DecidableEq, Repr

def FWindow.reset : FWindow := ⟨0, 0, 0, 0⟩

/-- A copy of the configuration image or of the firmware in the module flash (R375). -/
structure FlashCopy where
  magic : Nat
  version : Nat
  length : Nat
  secver : Word
  body : List Byte
  digest : BitVec 512
  signature : List Byte
  deriving DecidableEq, Repr

def FlashCopy.blank : FlashCopy := ⟨0, 0, 0, 0, [], 0, []⟩

/-- The values the signed configuration image sets, and what lies in the module flash beside it. -/
structure Cfg where
  /-- Placed rows per shaft (R245). -/
  placedRows : Nat
  /-- Cellar rows (R245, R340). -/
  cellarRows : Nat
  /-- The shafts marked absent in the defect map (R31). -/
  absent : List Nat
  /-- Identity of the defect map (R93). -/
  placeId : DWord
  /-- Partitions (R323). -/
  parts : Cells PartCfg
  /-- Host queue descriptors (R325). -/
  queues : Cells QueueDesc
  /-- P fields of the group blocks at boot (R290). -/
  groups : Cells GroupCfg
  /-- Address of group 0's block in address space 0; group g's is 256 g further on (R290). -/
  groupBlocks : Nat
  /-- Physical address of group 0's block where address space 0 has a root, whose tables map `groupBlocks` there. -/
  groupPhys : Nat
  /-- Level-0 table of address space 0; `none`: its addresses are physical ones. -/
  root0 : Option Nat
  /-- Package coordinates, extents, wrap bits (R350). -/
  x : Nat
  y : Nat
  wx : Nat
  wy : Nat
  wrapX : Bool
  wrapY : Bool
  /-- Port towards the time parent; `none` at the time root (R373). -/
  timeParent : Option Nat
  /-- Fabric management base and telemetry base, in address space 0 (R350, R381). -/
  fabBase : Nat
  telBase : Nat
  /-- Fabric timer in ns (R364). -/
  timer : Nat
  /-- Event area of the porch of each die, in address space 0 (R328). -/
  eventArea : Nat
  /-- Partition table, in address space 0 (R323). -/
  partTable : Nat
  /-- Port controls and inbound windows of the fabric (R359, R361). -/
  ports : Cells PortCfg
  inbound : Cells FWindow
  /-- Contents of placed and pooled memory that the image loads (R46). -/
  placedImage : Cells Byte
  pooledImage : Cells Byte
  /-- Asymmetry of the host link in ns (R372). -/
  asym : Int
  /-- Limits of a die's temperature in units of 0.125 °C and of the package power in mW (R380). -/
  tempLimit : Nat
  powerLimit : Nat
  hostIn : Cells HostIn
  hostOut : List HostOut
  /-- Base and size of the sump in host memory (R349). -/
  sumpBase : Nat
  sumpSize : Nat
  /-- The copies in the flash (R375): 0 and 1 configuration image A and B, 2 and 3 firmware A and B. -/
  flash : Cells FlashCopy
  /-- The certificate of the identity key (R377). -/
  certificate : List Byte
  deriving DecidableEq, Repr

/-- The default configuration: the default memory split and cellar (R245, R340), nothing absent, a one-package fabric. The
other values are the model's (DESIGN CHOICE, log 4). -/
def Cfg.default : Cfg where
  placedRows := 65536
  cellarRows := 128
  absent := []
  placeId := 0
  parts := [(0, { PartCfg.off with
    en := true, asid := 1, rect := BitVec.ofNat 25 (31 * 2 ^ 13 + 63 * 2 ^ 18), root := 0x100000, qmask := 1 })]
  queues := [(0, { QueueDesc.off with en := true, hdr := 0x4000, image := 1 })]
  groups := []
  groupBlocks := 0x1000
  groupPhys := 0x1000
  root0 := none
  x := 0
  y := 0
  wx := 1
  wy := 1
  wrapX := false
  wrapY := false
  timeParent := none
  fabBase := 0x10000
  telBase := 0x20000
  timer := 200000
  eventArea := 0x30000
  partTable := 0x2000
  ports := []
  inbound := []
  placedImage := []
  pooledImage := []
  asym := 0
  tempLimit := 840
  powerLimit := 2000000
  hostIn := []
  hostOut := []
  sumpBase := 0
  sumpSize := 0
  flash := []
  certificate := []

namespace Config

/-- The bytes of a header in the flash (R375 names its fields, not their layout), a free value (log 30). -/
opaque headerBytes : FlashCopy → List Byte

/-- The public key of the boot ROM (R375), a free value (log 30). -/
opaque romKey : List Byte

/-- ML-DSA-65 verification of a signature over a digest under a public key (R375; FIPS 204 is outside the spec), a free
value (log 30). -/
opaque mldsaVerify : List Byte → BitVec 512 → List Byte → Bool

/-- The physically unclonable seed of die 0 (R377), a free value (log 30). -/
opaque seed : BitVec 256

/-- ML-DSA-65 key generation from ξ: the public key, 1,952 bytes (R377; FIPS 204 is outside the spec), a free value
(log 30). -/
opaque mldsaPublic : List Byte → List Byte

/-- ML-DSA-65 signature of a digest by the key generated from ξ, 3,309 bytes (R378), a free value (log 30). -/
opaque mldsaSign : List Byte → BitVec 512 → List Byte

/-- A column sum that enters an array whose macro computes in the other accumulator mode: into integer mode or not, and the
sum (R214 does not say), a free value (log 14). -/
opaque mixedSum : Bool → Acc → Acc

/-- Byte of the plane area of a saved core context: its layout is not given (R340), a free value of the clk and the offset
(log 27). -/
opaque planeByte : Nat → Nat → Byte

/-- Byte of a sump section whose layout the spec does not give (R349), a free value of the section kind and the offset
(log 27). -/
opaque sumpByte : Nat → Nat → Byte

/-- The number of masks KVEVICT passes over for the page list at an address whose header cannot be read (R229; DESIGN CHOICE,
log 77). -/
opaque lostPages : Nat → BitVec 16

/-- The code of a store that a rewritten strand context shows as faulted (R340 gives the entry no code), a free value of the
clk (DESIGN CHOICE, log 51). -/
opaque storeFault : Nat → BitVec 8

end Config

end Sys2Proof
end

