-- ==== Sys2Proof/Syntax.lean ====
section
/-! DEFINITION. The syntax of the CH48: the instruction formats (R82, R83) and `Instr`, one constructor per row of
spec/opcode_table.json: the instructions a strand or the porch fetches, the engine commands (the macros of R202, as
"the engine performs its next unit of that macro"), and the events of the package. -/

namespace Sys2Proof

/-- A core of the package, row-major over 4 rows of 8 columns (R2). -/
abbrev CoreId := BitVec 5

/-- A strand context of a core (R11). -/
abbrev StrandId := BitVec 3

/-- An engine queue of a core (R33). -/
abbrev QueueId := BitVec 4

/-- A batch group. -/
abbrev GroupId := BitVec 4

/-- A base die, numbered row-major over the 2 by 2 mosaic (R1). -/
abbrev DieId := BitVec 2

/-- A fabric port, 0 to 11. -/
abbrev PortId := BitVec 4

/-- A host queue, served by one porch strand (R325). -/
abbrev HostQueueId := BitVec 6

/-- A partition (R323). -/
abbrev PartId := BitVec 3

/-- Who issues instructions: a strand of a core, or the porch strand of a host queue (R11, R325). -/
inductive Agent where
  | strand (c : CoreId) (s : StrandId)
  | porch (q : HostQueueId)
  deriving DecidableEq, Repr

/-- A fabric packet: its 128-bit header (R354) and its payload, byte 0 first (R353). -/
structure Packet where
  header : BitVec 128
  payload : List Byte
  deriving DecidableEq, Repr

/-- The four time stamps of one timing exchange, in ns, and the link's asymmetry correction (R372, R373). -/
structure TimeStamps where
  t1 : DWord
  t2 : DWord
  t3 : DWord
  t4 : DWord
  deriving DecidableEq, Repr

/-- A host access through an inbound host window (R369): a read of some bytes, or a write of these. -/
inductive HostOp where
  | read (n : Nat)
  | write (data : List Byte)
  deriving DecidableEq, Repr

/-- A code image the porch is given to load: its identity, the physical address its lines go to, the partition that runs it,
its data base in that partition's address space, the physical address the data goes to and memory for page tables (R79), and
its lines, line 0 first, each as 16 words. -/
structure ImageFile where
  ident : Word
  base : Nat
  part : PartId
  dataBase : Nat
  dataPhys : Nat
  tables : List Nat
  lines : List (List Word)
  deriving DecidableEq, Repr

/-- Format A (R82): destination, two sources, 4-bit guard. -/
structure FA where
  d : BitVec 5
  a : BitVec 5
  b : BitVec 5
  g : BitVec 4
  deriving DecidableEq, Repr

/-- Format F (R82): format A with a rounding field. -/
structure FF where
  d : BitVec 5
  a : BitVec 5
  b : BitVec 5
  g : BitVec 4
  rm : BitVec 2
  deriving DecidableEq, Repr

/-- Format F with the rm field used up by the choice of FMAX or FMIN (R117). -/
structure FMinMax where
  d : BitVec 5
  a : BitVec 5
  b : BitVec 5
  g : BitVec 4
  deriving DecidableEq, Repr

/-- Format F with the b field used up by the FCVT kind (R117). -/
structure FCvt where
  d : BitVec 5
  a : BitVec 5
  g : BitVec 4
  rm : BitVec 2
  deriving DecidableEq, Repr

/-- Format I (R82): destination, source, imm11, 4-bit guard. -/
structure FI where
  d : BitVec 5
  a : BitVec 5
  imm : BitVec 11
  g : BitVec 4
  deriving DecidableEq, Repr

/-- Format I with the immediate amount in imm11[5:0] (R114). -/
structure FShift where
  d : BitVec 5
  a : BitVec 5
  amt : BitVec 6
  g : BitVec 4
  deriving DecidableEq, Repr

/-- Format I with the wid field index in imm11[2:0] (R116). -/
structure FWid where
  d : BitVec 5
  a : BitVec 5
  i : BitVec 3
  g : BitVec 4
  deriving DecidableEq, Repr

/-- Format J (R82): an absolute target. -/
structure FJ where
  line : BitVec 21
  slot : BitVec 4
  deriving DecidableEq, Repr

/-- Format M (R82): short loads and stores. -/
structure FM where
  d : BitVec 5
  a : BitVec 5
  sz : BitVec 2
  xc : BitVec 1
  cls : BitVec 4
  g : BitVec 4
  off : BitVec 4
  deriving DecidableEq, Repr

/-- Format S (R82): special-register moves. -/
structure FS where
  d : BitVec 5
  sreg : BitVec 5
  g : BitVec 4
  deriving DecidableEq, Repr

/-- Format W (R82): waits, with the 17-bit argument. -/
structure FW where
  arg : BitVec 17
  g : BitVec 4
  deriving DecidableEq, Repr

/-- Format W of the short fences (R150): scope in op[1:0], class mask in arg17. -/
structure FFence where
  scope : BitVec 2
  arg : BitVec 17
  g : BitVec 4
  deriving DecidableEq, Repr

/-- Format Q (R82): short ring instructions. -/
structure FQ where
  q : BitVec 5
  a : BitVec 5
  cnt : BitVec 9
  g : BitVec 4
  deriving DecidableEq, Repr

/-- Format E (R82): PUSH. -/
structure FE where
  queue : BitVec 4
  k : BitVec 4
  n : BitVec 2
  g : BitVec 4
  deriving DecidableEq, Repr

/-- Format K (R82): KINS. -/
structure FK where
  k : BitVec 4
  a : BitVec 5
  pos : BitVec 7
  width : BitVec 6
  deriving DecidableEq, Repr

/-- Format V (R82): short vector forms. -/
structure FV where
  vd : BitVec 6
  va : BitVec 6
  vb : BitVec 6
  g : BitVec 4
  deriving DecidableEq, Repr

/-- Format BC (R83): conditional and guarded branches. -/
structure FBC where
  g : BitVec 7
  a : BitVec 5
  b : BitVec 5
  line : BitVec 21
  slot : BitVec 4
  deriving DecidableEq, Repr

/-- Format L (R83): imm32. -/
structure FL where
  g : BitVec 7
  d : BitVec 5
  a : BitVec 5
  imm : BitVec 32
  deriving DecidableEq, Repr

/-- Format P (R83): places and rectangles. -/
structure FP where
  g : BitVec 7
  d : BitVec 5
  a : BitVec 5
  pos : BitVec 7
  cols : BitVec 7
  rows : BitVec 5
  place : BitVec 13
  deriving DecidableEq, Repr

/-- Format SY (R83): imm24. -/
structure FSY where
  g : BitVec 7
  d : BitVec 5
  a : BitVec 5
  b : BitVec 5
  imm : BitVec 24
  deriving DecidableEq, Repr

/-- Format ML (R83): long loads and stores. -/
structure FML where
  g : BitVec 7
  d : BitVec 5
  a : BitVec 5
  space : BitVec 3
  sz : BitVec 2
  xc : BitVec 1
  cls : BitVec 4
  scope : BitVec 2
  off : BitVec 24
  deriving DecidableEq, Repr

/-- Format AT (R83): atomics. -/
structure FAT where
  g : BitVec 7
  d : BitVec 5
  a : BitVec 5
  b : BitVec 5
  space : BitVec 3
  sz : BitVec 2
  xc : BitVec 1
  cls : BitVec 4
  scope : BitVec 2
  ord : BitVec 2
  c : BitVec 5
  deriving DecidableEq, Repr

/-- Format VL (R83): long vector forms. -/
structure FVL where
  g : BitVec 7
  vd : BitVec 6
  va : BitVec 6
  vb : BitVec 6
  vc : BitVec 6
  rm : BitVec 2
  ty : BitVec 3
  imm : BitVec 13
  deriving DecidableEq, Repr

/-- Format VM (R83): vector loads and stores. -/
structure FVM where
  g : BitVec 7
  v : BitVec 6
  a : BitVec 5
  q : BitVec 5
  mode : BitVec 2
  cls : BitVec 4
  off : BitVec 24
  deriving DecidableEq, Repr

/-- Every step of the CH48: one constructor per row of the opcode table. -/
inductive Instr where
  /-- R107: Does nothing; any non-zero bit in [24:0] is fault 0x02. -/
  | nop
  /-- R108: x[d] := x[a] + x[b] modulo 2^64. -/
  | add (f : FA)
  /-- R108: x[d] := x[a] - x[b]. -/
  | sub (f : FA)
  /-- R108: Bitwise AND of x[a] and x[b]. -/
  | and (f : FA)
  /-- R108: Bitwise OR of x[a] and x[b]. -/
  | or (f : FA)
  /-- R108: Bitwise XOR of x[a] and x[b]. -/
  | xor (f : FA)
  /-- R108: x[a] AND NOT x[b]. -/
  | andn (f : FA)
  /-- R108: x[a] OR NOT x[b]. -/
  | orn (f : FA)
  /-- R108: NOT (x[a] XOR x[b]). -/
  | xnor (f : FA)
  /-- R108: Shift x[a] left by x[b][5:0]. -/
  | sll (f : FA)
  /-- R108: Logical shift right by x[b][5:0]. -/
  | srl (f : FA)
  /-- R108: Arithmetic shift right by x[b][5:0]. -/
  | sra (f : FA)
  /-- R108: Rotate x[a] right by x[b][5:0]. -/
  | ror (f : FA)
  /-- R108: Low 64 bits of the signed product. -/
  | mul (f : FA)
  /-- R108: High 64 bits of the signed 128-bit product. -/
  | mulh (f : FA)
  /-- R108: High 64 bits of the unsigned product. -/
  | mulhu (f : FA)
  /-- R108: High 64 bits of the signed-by-unsigned product. -/
  | mulhsu (f : FA)
  /-- R109: Signed quotient toward zero; never traps. -/
  | div (f : FA)
  /-- R109: Unsigned quotient; divide by zero gives all ones. -/
  | divu (f : FA)
  /-- R109: Signed remainder with the sign of the dividend. -/
  | rem (f : FA)
  /-- R109: Unsigned remainder. -/
  | remu (f : FA)
  /-- R108: 32-bit add, sign-extended. -/
  | addw (f : FA)
  /-- R108: 32-bit subtract, sign-extended. -/
  | subw (f : FA)
  /-- R108: 32-bit multiply, sign-extended. -/
  | mulw (f : FA)
  /-- R108: Signed saturating add. -/
  | adds (f : FA)
  /-- R108: Signed saturating subtract. -/
  | subs (f : FA)
  /-- R108: Unsigned saturating add. -/
  | addus (f : FA)
  /-- R108: Unsigned saturating subtract. -/
  | subus (f : FA)
  /-- R108: Rotate x[a] left by x[b][5:0]. -/
  | rol (f : FA)
  /-- R110: x[d] := 1 if x[a] = x[b]. -/
  | seq (f : FA)
  /-- R110: x[d] := 1 if x[a] differs from x[b]. -/
  | sne (f : FA)
  /-- R110: Signed less-than compare. -/
  | slt (f : FA)
  /-- R110: Unsigned less-than compare. -/
  | sltu (f : FA)
  /-- R110: Signed greater-or-equal compare. -/
  | sge (f : FA)
  /-- R110: Unsigned greater-or-equal compare. -/
  | sgeu (f : FA)
  /-- R110: Signed minimum of bit patterns. -/
  | min (f : FA)
  /-- R110: Unsigned minimum. -/
  | minu (f : FA)
  /-- R110: Signed maximum of bit patterns. -/
  | max (f : FA)
  /-- R110: Unsigned maximum. -/
  | maxu (f : FA)
  /-- R110: x[d] := x[a] when x[b] is non-zero. -/
  | cmovnz (f : FA)
  /-- R110: x[d] := x[a] when x[b] is zero. -/
  | cmovz (f : FA)
  /-- R110: 1 when x[a] AND x[b] is non-zero. -/
  | tstnz (f : FA)
  /-- R110: 1 when x[a] AND x[b] is zero. -/
  | tstz (f : FA)
  /-- R110: Bitwise select of x[a] and x[b] under mask x[d]. -/
  | selb (f : FA)
  /-- R110: -1, 0 or 1 by signed comparison. -/
  | cmps (f : FA)
  /-- R111: Count leading zero bits. -/
  | clz (f : FA)
  /-- R111: Count trailing zero bits. -/
  | ctz (f : FA)
  /-- R111: Count one bits. -/
  | popc (f : FA)
  /-- R111: Reverse the eight bytes of x[a]. -/
  | bswap (f : FA)
  /-- R111: Extract an unsigned bit field described by x[b]. -/
  | bext (f : FA)
  /-- R111: Extract a signed bit field described by x[b]. -/
  | bexts (f : FA)
  /-- R111: Insert a bit field of x[a] into x[d]. -/
  | bins (f : FA)
  /-- R111: (x[a] << 1) + x[b]. -/
  | sh1add (f : FA)
  /-- R111: (x[a] << 2) + x[b]. -/
  | sh2add (f : FA)
  /-- R111: (x[a] << 3) + x[b]. -/
  | sh3add (f : FA)
  /-- R111: (x[a] << 4) + x[b]. -/
  | sh4add (f : FA)
  /-- R111: (x[a] << 6) + x[b]. -/
  | sh6add (f : FA)
  /-- R112: Forms a .W address from a place and an offset, unchecked. -/
  | plw (f : FA)
  /-- R112: Forms a .Q address from a record index and byte. -/
  | qaddr (f : FA)
  /-- R112: Forms a .F address from package, window and offset. -/
  | faddr (f : FA)
  /-- R111: Rounds x[a] up to a multiple of 2^x[b][5:0]. -/
  | alignup (f : FA)
  /-- R117: Scalar FP32 addition rounded by rm. -/
  | fadd (f : FF)
  /-- R117: Scalar FP32 multiplication rounded by rm. -/
  | fmul (f : FF)
  /-- R117: Fused FP32 multiply-add with x[d] as addend. -/
  | fma (f : FF)
  /-- R117: IEEE 754-2019 maximum of FP32 operands. -/
  | fmax (f : FMinMax)
  /-- R117: IEEE 754-2019 minimum of FP32 operands. -/
  | fmin (f : FMinMax)
  /-- R117: Converts a signed 64-bit integer to FP32. -/
  | fcvtF32I64 (f : FCvt)
  /-- R117: Converts an unsigned 64-bit integer to FP32. -/
  | fcvtF32U64 (f : FCvt)
  /-- R117: Converts FP32 to a 64-bit integer by int_from. -/
  | fcvtI64F32 (f : FCvt)
  /-- R117: Converts FP32 to a 32-bit integer, sign-extended. -/
  | fcvtI32F32 (f : FCvt)
  /-- R118: Reads a special register into x[d]. -/
  | mfs (f : FS)
  /-- R118: Writes x register to a special register with its write behaviour. -/
  | mts (f : FS)
  /-- R113: Adds a sign-extended 11-bit immediate. -/
  | addi (f : FI)
  /-- R113: ANDs a sign-extended 11-bit immediate. -/
  | andi (f : FI)
  /-- R113: ORs a sign-extended 11-bit immediate. -/
  | ori (f : FI)
  /-- R113: XORs a sign-extended 11-bit immediate. -/
  | xori (f : FI)
  /-- R114: Immediate shift left. -/
  | slli (f : FShift)
  /-- R114: Immediate logical shift right. -/
  | srli (f : FShift)
  /-- R114: Immediate arithmetic shift right. -/
  | srai (f : FShift)
  /-- R114: Immediate rotate right. -/
  | rori (f : FShift)
  /-- R116: Extracts wid field i and adds x[a]. -/
  | widf (f : FWid)
  /-- R122: Unconditional branch to an absolute line and slot. -/
  | b (f : FJ)
  /-- R123: Writes the link to x31 and branches. -/
  | call (f : FJ)
  /-- R126: Closes a software-pipelined loop: advances rotation, recomputes stage predicates and branches while executions remain. -/
  | bloop (f : FJ)
  /-- R124: Branches to the address in x[a]. -/
  | br (f : FA)
  /-- R124: Writes the link and branches to the old x[a]. -/
  | callr (f : FA)
  /-- R124: Branches to x[a] (default x31) and pops the return predictor. -/
  | ret (f : FA)
  /-- R128: Gives up the issue slot once and ends the block. -/
  | yield (f : FW)
  /-- R128: Parks until ring q has at least n filled slots. -/
  | waitRing (f : FW)
  /-- R128: Parks until ring q has at least n free slots. -/
  | waitFree (f : FW)
  /-- R165: Parks until every masked queue has completed the macros counted by its marker. -/
  | waitJoin (f : FW)
  /-- R129: Parks until a later step of the strand's batch group opens. -/
  | waitStep (f : FW)
  /-- R128: Parks until the time base reaches x[a]. -/
  | waitTime (f : FW)
  /-- R128: Parks for n clk. -/
  | waitClk (f : FW)
  /-- R131: Reports pending store faults, then ends the strand. -/
  | halt (f : FW)
  /-- R141: Loads 2^sz bytes from scratchpad. -/
  | ldS (f : FM)
  /-- R141: Stores 2^sz bytes to scratchpad. -/
  | stS (f : FM)
  /-- R141: Loads from placed memory. -/
  | ldW (f : FM)
  /-- R141: Stores to placed memory. -/
  | stW (f : FM)
  /-- R141: Loads from global memory at .core scope. -/
  | ldG (f : FM)
  /-- R141: Stores to global memory at .core scope. -/
  | stG (f : FM)
  /-- R141: Loads from a request record. -/
  | ldQ (f : FM)
  /-- R142: Stores to a request record under field ownership rules. -/
  | stQ (f : FM)
  /-- R158: Claims n free slots of a ring. -/
  | rclaim (f : FQ)
  /-- R158: Commits n claimed slots with owner flips, or n barrier arrivals. -/
  | rcommit (f : FQ)
  /-- R158: Releases n filled slots with owner flips. -/
  | rrelease (f : FQ)
  /-- R157: Returns a snapshot of the ring's counters. -/
  | rstat (f : FQ)
  /-- R150: Full fence at the scope of op for the masked classes; a report point. -/
  | fenceShort (f : FFence)
  /-- R164: Records per-queue markers of macros accepted so far. -/
  | mark (f : FW)
  /-- R168: Arms a scratchpad monitor and waits for the condition. -/
  | mwaitS (f : FW)
  /-- R168: Arms a global-memory monitor at the line's controller and waits. -/
  | mwaitG (f : FW)
  /-- R168: Arms a record-store monitor and waits. -/
  | mwaitQ (f : FW)
  /-- R204: Checks and enqueues a macro snapshot; interlocks on a full queue. -/
  | push (f : FE)
  /-- R204: Waiting form of PUSH; parks on a full queue and ends the block. -/
  | pushW (f : FE)
  /-- R201: Inserts a field of x[a] into the macro starting at kj. -/
  | kins (f : FK)
  /-- R195: Short form of VADD.f32. -/
  | vaddShort (f : FV)
  /-- R195: Short form of VSUB.f32. -/
  | vsubShort (f : FV)
  /-- R195: Short form of VMUL.f32. -/
  | vmulShort (f : FV)
  /-- R195: Short form of VFMA.f32 with vc := vd. -/
  | vfmaShort (f : FV)
  /-- R195: Short form of VMAX.f32. -/
  | vmaxShort (f : FV)
  /-- R195: Short form of VMIN.f32. -/
  | vminShort (f : FV)
  /-- R195: Short form of VEXP.f32. -/
  | vexpShort (f : FV)
  /-- R195: Short form of VSIGM.f32. -/
  | vsigmShort (f : FV)
  /-- R195: Short form of VIADD.i32. -/
  | viaddShort (f : FV)
  /-- R195: Short form of VISUB.i32. -/
  | visubShort (f : FV)
  /-- R195: Short form of VIMUL.i32. -/
  | vimulShort (f : FV)
  /-- R195: Short form of VAND. -/
  | vandShort (f : FV)
  /-- R195: Short form of VOR. -/
  | vorShort (f : FV)
  /-- R195: Short form of VXOR. -/
  | vxorShort (f : FV)
  /-- R195: Short form of VIMAX.i32. -/
  | vimaxShort (f : FV)
  /-- R195: Short form of VIMIN.i32. -/
  | viminShort (f : FV)
  /-- R195: Short form of VCMPEQ.f32 into p0-p63. -/
  | vcmpeqF32Short (f : FV)
  /-- R195: Short form of VCMPLT.f32. -/
  | vcmpltF32Short (f : FV)
  /-- R195: Short form of VCMPLE.f32. -/
  | vcmpleF32Short (f : FV)
  /-- R195: Short form of VCMPEQ.i32. -/
  | vcmpeqI32Short (f : FV)
  /-- R195: Short form of VCMPLT.i32. -/
  | vcmpltI32Short (f : FV)
  /-- R195: Short form of VCMPLTU.i32. -/
  | vcmpltuI32Short (f : FV)
  /-- R195: Short form of PAND. -/
  | pandShort (f : FV)
  /-- R195: Short form of PNOT. -/
  | pnotShort (f : FV)
  /-- R195: Short form of VMOV. -/
  | vmovShort (f : FV)
  /-- R195: Short form of VPERMB. -/
  | vpermbShort (f : FV)
  /-- R195: Short form of VGATHR. -/
  | vgathrShort (f : FV)
  /-- R195: Short form of VREDR.FADD.f32. -/
  | vredrFaddShort (f : FV)
  /-- R195: Short form of VREDR.FMAX.f32. -/
  | vredrFmaxShort (f : FV)
  /-- R195: Short form of VBCX. -/
  | vbcxShort (f : FV)
  /-- R195: Short form of VREDC.FADD.f32. -/
  | vredcFaddShort (f : FV)
  /-- R195: Short form of VIOTA with immediate 0. -/
  | viotaShort (f : FV)
  /-- R122: Guarded unconditional branch, BC cond 0. -/
  | bGuarded (f : FBC)
  /-- R122: Branches when x[a] = x[b] and the guard is set. -/
  | beq (f : FBC)
  /-- R122: Branches when x[a] differs from x[b]. -/
  | bne (f : FBC)
  /-- R122: Branches on signed less-than. -/
  | blt (f : FBC)
  /-- R122: Branches on signed greater-or-equal. -/
  | bge (f : FBC)
  /-- R122: Branches on unsigned less-than. -/
  | bltu (f : FBC)
  /-- R122: Branches on unsigned greater-or-equal. -/
  | bgeu (f : FBC)
  /-- R113: Loads a sign-extended 32-bit immediate. -/
  | li (f : FL)
  /-- R113: Sets the high 32 bits from an immediate and keeps the low half of x[a]. -/
  | lih (f : FL)
  /-- R113: Adds a sign-extended 32-bit immediate. -/
  | addiWide (f : FL)
  /-- R113: ANDs a sign-extended 32-bit immediate. -/
  | andiWide (f : FL)
  /-- R113: ORs a sign-extended 32-bit immediate. -/
  | oriWide (f : FL)
  /-- R113: XORs a sign-extended 32-bit immediate. -/
  | xoriWide (f : FL)
  /-- R87: Loads a checked place into x[d]. -/
  | lip (f : FP)
  /-- R87: Loads a checked rectangle into x[d]. -/
  | lir (f : FP)
  /-- R87: Forms a .W address from a checked place and x[a]. -/
  | liw (f : FP)
  /-- R87: Writes a checked place into a macro field. -/
  | kpl (f : FP)
  /-- R87: Writes a checked rectangle into a macro field. -/
  | krl (f : FP)
  /-- R125: Sets lc, ec, bases and stage predicates for a pipelined loop. -/
  | loopset (f : FSY)
  /-- R123: Guarded call, SY fn 1. -/
  | callGuarded (f : FSY)
  /-- R120: Writes a whole predicate from a scalar comparison. -/
  | pcmp (f : FSY)
  /-- R120: Copies row 0 of a predicate into x[d]. -/
  | mpx (f : FSY)
  /-- R120: Writes x[a] into every row of a predicate. -/
  | mxp (f : FSY)
  /-- R120: Selects x[a] or x[b] by bit 0 of a predicate. -/
  | selp (f : FSY)
  /-- R115: Multiplies by a 24-bit immediate. -/
  | muli (f : FSY)
  /-- R115: Signed less-than against an immediate. -/
  | slti (f : FSY)
  /-- R115: Unsigned less-than against an immediate. -/
  | sltiu (f : FSY)
  /-- R115: Equality against an immediate. -/
  | seqi (f : FSY)
  /-- R115: Signed minimum with an immediate. -/
  | mini (f : FSY)
  /-- R115: Signed maximum with an immediate. -/
  | maxi (f : FSY)
  /-- R115: Immediate unsigned bit-field extract. -/
  | bexti (f : FSY)
  /-- R115: Immediate signed bit-field extract. -/
  | bextsi (f : FSY)
  /-- R115: Immediate bit-field insert. -/
  | binsi (f : FSY)
  /-- R115: Adds an immediate shifted left by 24. -/
  | addhi (f : FSY)
  /-- R140: 64-bit load in any space with scope and class. -/
  | ld (f : FML)
  /-- R148: Load that is an acquire at its scope. -/
  | lda (f : FML)
  /-- R140: 64-bit store in any space with scope and class. -/
  | st (f : FML)
  /-- R149: Store that is a release at its scope and a report point. -/
  | stl (f : FML)
  /-- R154: Atomic swap returning the old value. -/
  | amoSwap (f : FAT)
  /-- R154: Atomic add returning the old value. -/
  | amoAdd (f : FAT)
  /-- R154: Atomic AND. -/
  | amoAnd (f : FAT)
  /-- R154: Atomic OR. -/
  | amoOr (f : FAT)
  /-- R154: Atomic XOR. -/
  | amoXor (f : FAT)
  /-- R154: Atomic signed minimum of patterns. -/
  | amoMin (f : FAT)
  /-- R154: Atomic signed maximum of patterns. -/
  | amoMax (f : FAT)
  /-- R154: Atomic unsigned minimum. -/
  | amoMinu (f : FAT)
  /-- R154: Atomic unsigned maximum. -/
  | amoMaxu (f : FAT)
  /-- R156: Atomic FP32 add, no flags. -/
  | amoFadd (f : FAT)
  /-- R156: Atomic IEEE FP32 maximum. -/
  | amoFmax (f : FAT)
  /-- R156: Atomic IEEE FP32 minimum. -/
  | amoFmin (f : FAT)
  /-- R154: Atomic wrapping increment. -/
  | amoIncw (f : FAT)
  /-- R154: Atomic wrapping decrement. -/
  | amoDecw (f : FAT)
  /-- R154: Atomic unsigned saturating add. -/
  | amoAddus (f : FAT)
  /-- R154: Atomic unsigned saturating subtract. -/
  | amoSubus (f : FAT)
  /-- R154: Compare-and-swap on bit patterns, returning the old value. -/
  | cas (f : FAT)
  /-- R154: No-return atomic swap. -/
  | redSwap (f : FAT)
  /-- R154: No-return atomic add. -/
  | redAdd (f : FAT)
  /-- R154: No-return atomic AND. -/
  | redAnd (f : FAT)
  /-- R154: No-return atomic OR. -/
  | redOr (f : FAT)
  /-- R154: No-return atomic XOR. -/
  | redXor (f : FAT)
  /-- R154: No-return signed minimum. -/
  | redMin (f : FAT)
  /-- R154: No-return signed maximum. -/
  | redMax (f : FAT)
  /-- R154: No-return unsigned minimum. -/
  | redMinu (f : FAT)
  /-- R154: No-return unsigned maximum. -/
  | redMaxu (f : FAT)
  /-- R156: No-return FP32 add. -/
  | redFadd (f : FAT)
  /-- R156: No-return IEEE FP32 maximum. -/
  | redFmax (f : FAT)
  /-- R156: No-return IEEE FP32 minimum. -/
  | redFmin (f : FAT)
  /-- R154: No-return wrapping increment. -/
  | redIncw (f : FAT)
  /-- R154: No-return wrapping decrement. -/
  | redDecw (f : FAT)
  /-- R154: No-return unsigned saturating add. -/
  | redAddus (f : FAT)
  /-- R154: No-return unsigned saturating subtract. -/
  | redSubus (f : FAT)
  /-- R151: Long full fence with class mask and scope. -/
  | fence (f : FSY)
  /-- R151: Acquire fence for the masked classes. -/
  | fenceAcq (f : FSY)
  /-- R151: Release fence for the masked classes. -/
  | fenceRel (f : FSY)
  /-- R167: Scratchpad monitor wait with timeout. -/
  | mwaittS (f : FSY)
  /-- R167: Global monitor wait with timeout. -/
  | mwaittG (f : FSY)
  /-- R167: Record monitor wait with timeout. -/
  | mwaittQ (f : FSY)
  /-- R170: Prefetches a line for reading; never faults. -/
  | cpref (f : FSY)
  /-- R170: Prefetches a line for writing. -/
  | cprefw (f : FSY)
  /-- R171: Writes a dirty line out, keeping it valid. -/
  | cclean (f : FSY)
  /-- R171: Writes a line out and invalidates it. -/
  | cflush (f : FSY)
  /-- R171: Invalidates a line, discarding dirty data. -/
  | cinv (f : FSY)
  /-- R171: Cleans every line of a range. -/
  | ccleanr (f : FSY)
  /-- R171: Flushes every line of a range. -/
  | cflushr (f : FSY)
  /-- R171: Invalidates every line of a range. -/
  | cinvr (f : FSY)
  /-- R171: Cleans every line of the levels in scope. -/
  | ccleana (f : FSY)
  /-- R171: Flushes every line of the levels in scope. -/
  | cflusha (f : FSY)
  /-- R161: Writes a ring descriptor, resetting counters and owner bits. -/
  | rcfg (f : FSY)
  /-- R160: Reads one half of a ring descriptor. -/
  | rdesc (f : FSY)
  /-- R160: Returns the scratchpad address of a ring slot. -/
  | raddr (f : FSY)
  /-- R162: Loads from a filled or claimed ring slot. -/
  | rld (f : FSY)
  /-- R162: Stores into a claimed ring slot. -/
  | rst (f : FSY)
  /-- R160: Claims n slots and returns the first slot's address. -/
  | rclaima (f : FSY)
  /-- R160: Returns the owner bit of a slot. -/
  | rown (f : FSY)
  /-- R163: Barrier arrival on a barrier ring and wait for its generation. -/
  | rbar (f : FSY)
  /-- R180: Lane-wise floating add. -/
  | vadd (f : FVL)
  /-- R180: Lane-wise floating subtract. -/
  | vsub (f : FVL)
  /-- R180: Lane-wise floating multiply. -/
  | vmul (f : FVL)
  /-- R180: Lane-wise fused multiply-add. -/
  | vfma (f : FVL)
  /-- R180: Lane-wise fused multiply-subtract. -/
  | vfms (f : FVL)
  /-- R180: Lane-wise c - a*b with one rounding. -/
  | vfnma (f : FVL)
  /-- R180: Lane-wise division. -/
  | vdiv (f : FVL)
  /-- R180: Lane-wise square root. -/
  | vsqrt (f : FVL)
  /-- R180: Lane-wise IEEE maximum. -/
  | vmax (f : FVL)
  /-- R180: Lane-wise IEEE minimum. -/
  | vmin (f : FVL)
  /-- R180: Clears the sign bit. -/
  | vabs (f : FVL)
  /-- R180: Inverts the sign bit. -/
  | vneg (f : FVL)
  /-- R180: Copies the sign of b onto a. -/
  | vcpsgn (f : FVL)
  /-- R181: Rounds to an integral value by rm. -/
  | vrint (f : FVL)
  /-- R181: Scales by a power of two. -/
  | vldexp (f : FVL)
  /-- R181: Lane-wise reciprocal. -/
  | vrcp (f : FVL)
  /-- R181: Lane-wise reciprocal square root. -/
  | vrsqrt (f : FVL)
  /-- R182: Landing-table exponential. -/
  | vexp (f : FVL)
  /-- R182: Table power of two. -/
  | vexp2 (f : FVL)
  /-- R183: Table base-2 logarithm. -/
  | vlog2 (f : FVL)
  /-- R182: Hyperbolic tangent from landing_exp. -/
  | vtanh (f : FVL)
  /-- R182: Logistic sigmoid. -/
  | vsigm (f : FVL)
  /-- R182: SiLU activation. -/
  | vsilu (f : FVL)
  /-- R182: GELU activation by sigmoid approximation. -/
  | vgelu (f : FVL)
  /-- R184: Lane-for-lane conversion between types. -/
  | vcvt (f : FVL)
  /-- R185: Narrows a register group into one register. -/
  | vcvtn (f : FVL)
  /-- R186: Widens one register into a group. -/
  | vcvtw (f : FVL)
  /-- R181: IEEE maximumNumber. -/
  | vmaxnum (f : FVL)
  /-- R181: IEEE minimumNumber. -/
  | vminnum (f : FVL)
  /-- R181: Two-lane dot product into FP32 with one rounding. -/
  | vdot2 (f : FVL)
  /-- R180: Squared difference plus c, one rounding. -/
  | vsqd (f : FVL)
  /-- R180: Linear interpolation, one rounding. -/
  | vlerp (f : FVL)
  /-- R187: Lane-wise integer add. -/
  | viadd (f : FVL)
  /-- R187: Lane-wise integer subtract. -/
  | visub (f : FVL)
  /-- R187: Lane-wise integer multiply, low bits. -/
  | vimul (f : FVL)
  /-- R187: Lane-wise signed high multiply. -/
  | vimulh (f : FVL)
  /-- R187: Lane-wise multiply-add. -/
  | vimad (f : FVL)
  /-- R187: Signed saturating add. -/
  | viadds (f : FVL)
  /-- R187: Signed saturating subtract. -/
  | visubs (f : FVL)
  /-- R187: Unsigned saturating add. -/
  | viaddus (f : FVL)
  /-- R187: Unsigned saturating subtract. -/
  | visubus (f : FVL)
  /-- R187: Signed minimum. -/
  | vimin (f : FVL)
  /-- R187: Signed maximum. -/
  | vimax (f : FVL)
  /-- R187: Unsigned minimum. -/
  | viminu (f : FVL)
  /-- R187: Unsigned maximum. -/
  | vimaxu (f : FVL)
  /-- R187: Integer absolute value. -/
  | viabs (f : FVL)
  /-- R187: Bitwise AND. -/
  | vand (f : FVL)
  /-- R187: Bitwise OR. -/
  | vor (f : FVL)
  /-- R187: Bitwise XOR. -/
  | vxor (f : FVL)
  /-- R187: a AND NOT b. -/
  | vandn (f : FVL)
  /-- R187: Bitwise NOT. -/
  | vnot (f : FVL)
  /-- R187: Shift left by register amount. -/
  | vsll (f : FVL)
  /-- R187: Logical shift right by register amount. -/
  | vsrl (f : FVL)
  /-- R187: Arithmetic shift right by register amount. -/
  | vsra (f : FVL)
  /-- R187: Shift left by immediate. -/
  | vslli (f : FVL)
  /-- R187: Logical shift right by immediate. -/
  | vsrli (f : FVL)
  /-- R187: Arithmetic shift right by immediate. -/
  | vsrai (f : FVL)
  /-- R187: Population count per lane. -/
  | vpopc (f : FVL)
  /-- R187: Leading zeros per lane. -/
  | vclz (f : FVL)
  /-- R187: Four-way INT8 dot product into .i32. -/
  | vdot4 (f : FVL)
  /-- R187: Adds a sign-extended immediate. -/
  | vaddi (f : FVL)
  /-- R187: ANDs a sign-extended immediate. -/
  | vandi (f : FVL)
  /-- R187: Rounding arithmetic shift right. -/
  | vsrar (f : FVL)
  /-- R187: Clamps a between b and c. -/
  | vclamp (f : FVL)
  /-- R189: Element equality into a predicate. -/
  | vcmpeq (f : FVL)
  /-- R189: Element inequality into a predicate. -/
  | vcmpne (f : FVL)
  /-- R189: Less-than into a predicate. -/
  | vcmplt (f : FVL)
  /-- R189: Less-or-equal into a predicate. -/
  | vcmple (f : FVL)
  /-- R189: Greater-than into a predicate. -/
  | vcmpgt (f : FVL)
  /-- R189: Greater-or-equal into a predicate. -/
  | vcmpge (f : FVL)
  /-- R189: Unsigned less-than into a predicate. -/
  | vcmpltu (f : FVL)
  /-- R189: Unsigned greater-or-equal into a predicate. -/
  | vcmpgeu (f : FVL)
  /-- R189: Unordered test into a predicate. -/
  | vcmpun (f : FVL)
  /-- R189: Floating class test into a predicate. -/
  | vftest (f : FVL)
  /-- R188: Predicate AND. -/
  | pand (f : FVL)
  /-- R188: Predicate OR. -/
  | por (f : FVL)
  /-- R188: Predicate XOR. -/
  | pxor (f : FVL)
  /-- R188: Predicate AND NOT. -/
  | pandn (f : FVL)
  /-- R188: Predicate OR NOT. -/
  | porn (f : FVL)
  /-- R188: Predicate NOT. -/
  | pnot (f : FVL)
  /-- R188: Sets a predicate to all ones. -/
  | pset (f : FVL)
  /-- R188: Clears a predicate. -/
  | pclr (f : FVL)
  /-- R188: Column mask from per-element lengths. -/
  | plen (f : FVL)
  /-- R188: Row mask from per-element lengths. -/
  | plenr (f : FVL)
  /-- R188: Keeps only the lowest set bit. -/
  | pfirst (f : FVL)
  /-- R188: Keeps the lowest set bit of each row. -/
  | pfirstr (f : FVL)
  /-- R188: Counts set predicate bits into a vector. -/
  | pcnt (f : FVL)
  /-- R188: Counts set bits per row. -/
  | pcntr (f : FVL)
  /-- R188: Selects elements of va or vb by a predicate. -/
  | vsel (f : FVL)
  /-- R188: Predicate to 0/1 vector. -/
  | vptov (f : FVL)
  /-- R188: Vector non-zero test into a predicate. -/
  | vtop (f : FVL)
  /-- R188: All ones when any bit is set. -/
  | pany (f : FVL)
  /-- R188: All ones when every bit is set. -/
  | pall (f : FVL)
  /-- R188: Per-row any. -/
  | panyr (f : FVL)
  /-- R188: Rotates predicate columns. -/
  | protr (f : FVL)
  /-- R188: Broadcasts predicate row 0. -/
  | prowb (f : FVL)
  /-- R190: Copies a vector register. -/
  | vmov (f : FVL)
  /-- R190: Loads a sign-extended immediate into elements. -/
  | vli (f : FVL)
  /-- R190: Broadcasts x[b][31:0]. -/
  | vbcx (f : FVL)
  /-- R190: Inserts x[b] into one element. -/
  | vins (f : FVL)
  /-- R190: Extracts one element into x[d]. -/
  | vext (f : FVL)
  /-- R190: Writes element indices plus an immediate. -/
  | viota (f : FVL)
  /-- R190: Rotates along rows. -/
  | vrotr (f : FVL)
  /-- R190: Rotates along columns. -/
  | vrotc (f : FVL)
  /-- R190: Shifts along rows with zero fill. -/
  | vshr (f : FVL)
  /-- R190: Shifts along columns with zero fill. -/
  | vshc (f : FVL)
  /-- R190: Reverses each row. -/
  | vrev (f : FVL)
  /-- R190: Reverses each column. -/
  | vrevc (f : FVL)
  /-- R190: Transposes each 16 x 16 block. -/
  | vtr16 (f : FVL)
  /-- R190: Broadcasts row k. -/
  | vbcr (f : FVL)
  /-- R190: Broadcasts column k. -/
  | vbcc (f : FVL)
  /-- R190: Gathers along rows by index. -/
  | vgathr (f : FVL)
  /-- R190: Gathers along columns by index. -/
  | vgathc (f : FVL)
  /-- R190: Byte permute within 16-byte groups. -/
  | vpermb (f : FVL)
  /-- R190: Swaps 16-bit halves. -/
  | vswaph (f : FVL)
  /-- R190: Reverses bytes of each element. -/
  | vbswap (f : FVL)
  /-- R192: Compresses active elements of each row, writing all of vd. -/
  | vcompr (f : FVL)
  /-- R192: Expands elements into active columns. -/
  | vexpd (f : FVL)
  /-- R191: Tree reduction along each row. -/
  | vredr (f : FVL)
  /-- R191: Tree reduction along each column. -/
  | vredc (f : FVL)
  /-- R191: Reduction of the whole register. -/
  | vreda (f : FVL)
  /-- R191: Inclusive scan along rows. -/
  | vscanr (f : FVL)
  /-- R191: Inclusive scan along columns. -/
  | vscanc (f : FVL)
  /-- R190: Exclusive count of predicate bits along rows. -/
  | vpscan (f : FVL)
  /-- R190: Exclusive count of predicate bits over the register. -/
  | vpscana (f : FVL)
  /-- R193: Selects the k best elements per row with indices. -/
  | vtopk (f : FVL)
  /-- R194: Returns the first column above a threshold. -/
  | vsamp (f : FVL)
  /-- R190: Row sum of squares. -/
  | vsumsqr (f : FVL)
  /-- R197: Loads a 4 KiB row-major image, addressed or ring-relative. -/
  | vld (f : FVM)
  /-- R196: Loads a transposed image. -/
  | vldT (f : FVM)
  /-- R196: Loads one row into every row. -/
  | vldRowb (f : FVM)
  /-- R196: Loads one column into every column. -/
  | vldColb (f : FVM)
  /-- R196: Loads bytes zero-extended. -/
  | vldN8 (f : FVM)
  /-- R196: Loads halfwords zero-extended. -/
  | vldN16 (f : FVM)
  /-- R196: Loads bytes sign-extended. -/
  | vldN8s (f : FVM)
  /-- R196: Loads halfwords sign-extended. -/
  | vldN16s (f : FVM)
  /-- R197: Stores a 4 KiB row-major image. -/
  | vst (f : FVM)
  /-- R196: Stores a transposed image. -/
  | vstT (f : FVM)
  /-- R196: Stores row 0 only. -/
  | vstRow0 (f : FVM)
  /-- R196: Stores column 0 only. -/
  | vstCol0 (f : FVM)
  /-- R196: Stores low bytes. -/
  | vstN8 (f : FVM)
  /-- R196: Stores low halfwords. -/
  | vstN16 (f : FVM)
  /-- R196: Stores bytes with saturation. -/
  | vstN8s (f : FVM)
  /-- R196: Stores halfwords with saturation. -/
  | vstN16s (f : FVM)
  /-- R200: Loads a zero-extended immediate into k[d]. -/
  | kli (f : FL)
  /-- R200: Writes one 32-bit word of k[d]. -/
  | kliw (f : FL)
  /-- R200: Moves x[a] into one half of k[d]. -/
  | kmvx (f : FL)
  /-- R200: Clears one to four command registers. -/
  | kclr (f : FL)
  /-- R40: Porch moves a FREE record to WAITING or FAULTED after checks. -/
  | rsubmit (f : FSY)
  /-- R294: Records a pending park of a request and its gang. -/
  | rpark (f : FSY)
  /-- R294: Records a pending resume of a PARKED request. -/
  | rresume (f : FSY)
  /-- R294: Records a pending cancellation retiring the request as DONE. -/
  | rcancel (f : FSY)
  /-- R235: Returns a finished record to FREE, zeroing bytes 0x00-0xDF. -/
  | rfree (f : FSY)
  /-- R236: Emits a token to a slot's output ring with duplicate suppression and stop detection. -/
  | remit (f : FSY)
  /-- R321: Raises a per-request fault on a slot. -/
  | rflt (f : FSY)
  /-- R235: Returns the record index of a slot this step. -/
  | rrec (f : FSY)
  /-- R237: Returns the time of the group's next tick. -/
  | tnext (f : FSY)
  /-- R237: Sets a group's tick period and lag. -/
  | tcfg (f : FSY)
  /-- R237: Starts or stops a group's ticks. -/
  | tarm (f : FSY)
  /-- R237: Returns the PTP stamp at a slot's ingest read position. -/
  | tstamp (f : FSY)
  /-- R238: PLANE then SWAPT for an operator record; completes when it retires. -/
  | launch (f : FSY)
  /-- R335: Fills shadow configuration planes from an operator record. -/
  | plane (f : FSY)
  /-- R335: Posts the swap token to a core rectangle. -/
  | swapt (f : FSY)
  /-- R339: Starts the pre-emption ladder for a queue's partition. -/
  | preempt (f : FSY)
  /-- R341: Resumes a saved partition according to its rung. -/
  | resumePartition (f : FSY)
  /-- R238: Resumes a parked engine queue at lo or by dropping its macro. -/
  | resumeQueue (f : FSY)
  /-- R296: Commits the current step of a batch group once it drains. -/
  | commit (f : FSY)
  /-- R240: Raises a precise software trap with a code 0x80-0xFF. -/
  | trap (f : FSY)
  /-- R242: Returns from trap, performing or discarding held stores. -/
  | rtt (f : FSY)
  /-- R243: Halts the strand for the debugger when attached. -/
  | brk (f : FSY)
  /-- R239: Reads a system register. -/
  | mfsr (f : FSY)
  /-- R239: Writes a system register, W1C fields clearing. -/
  | mtsr (f : FSY)
  /-- R240: Resumes this core's faulted queue at lo or by dropping the macro. -/
  | qres (f : FSY)
  /-- R240: Reads half a queue's micro-program counter. -/
  | qmpc (f : FSY)
  /-- R240: Reads a word of the last fault record. -/
  | rdfr (f : FSY)
  /-- R210: Fills shadow latches from a DRAM row of each array's shaft. -/
  | alatch (c : CoreId) (q : QueueId)
  /-- R211: Waits for shadow fills and exchanges active and shadow latches. -/
  | aswap (c : CoreId) (q : QueueId)
  /-- R214: Runs the loop nest of matrix units, passing sums down chains to the landing. -/
  | amac (c : CoreId) (q : QueueId)
  /-- R215: Runs the loop nest with squared differences instead of products. -/
  | adist (c : CoreId) (q : QueueId)
  /-- R211: Sets shadow latches to tagged zeros. -/
  | azero (c : CoreId) (q : QueueId)
  /-- R212: Waits for other row queues and sets the chain starts of each column. -/
  | achain (c : CoreId)
  /-- R212: Waits and sets the landing bypass of columns to the south core. -/
  | abypass (c : CoreId)
  /-- R223: Applies an elementwise vector operation over ring images. -/
  | vapply (c : CoreId)
  /-- R217: Converts landing rows and stores them to a ring or memory, optionally clearing. -/
  | edrain (c : CoreId)
  /-- R218: Replaces landing elements by landing_exp. -/
  | eexp (c : CoreId)
  /-- R219: Scales scores, takes row maxima, exponentiates and sums a pass. -/
  | esmaxPass (c : CoreId)
  /-- R219: Merges the pending pass into the running soft-maximum triple. -/
  | esmaxMerge (c : CoreId)
  /-- R219: Divides outputs by the running sum, setting row-empty bits. -/
  | esmaxFinish (c : CoreId)
  /-- R219: Clears the soft-maximum state and o rows. -/
  | esmaxReset (c : CoreId)
  /-- R220: Ranks landing columns and writes top-k entries to a ring. -/
  | etopk (c : CoreId)
  /-- R218: Folds set column blocks into the lowest. -/
  | efold (c : CoreId)
  /-- R221: Turns landing rows into activation vectors in a ring. -/
  | eturn (c : CoreId)
  /-- R222: Applies BF16 group scales to stage values. -/
  | escale (c : CoreId)
  /-- R225: Copies bytes by a five-level affine pattern, ring or addressed. -/
  | cpy (c : CoreId) (q : QueueId)
  /-- R227: Appends new tokens to slots' page lists, popping pages. -/
  | kvappend (c : CoreId)
  /-- R228: Translates positions to packed survivor indices. -/
  | kvpos (c : CoreId)
  /-- R229: Clears survivor bits below the window cut and frees empty pages. -/
  | kvevictWindow (c : CoreId)
  /-- R229: ANDs page bitmaps with masks from a ring. -/
  | kvevictMask (c : CoreId)
  /-- R230: Pins the first n entries of lists. -/
  | kvpin (c : CoreId)
  /-- R230: Pushes every pushable page of lists to free lists. -/
  | kvfreeList (c : CoreId)
  /-- R230: Pushes one page to a named free list. -/
  | kvfreePage (c : CoreId)
  /-- R231: Copies a spilled page back from the host with CRC check. -/
  | kvpromotePromotion (c : CoreId)
  /-- R231: Copies a page out to the host with CRC and frees it. -/
  | kvpromoteDemotion (c : CoreId)
  /-- R232: Sends data to a peer in sequenced packets. -/
  | fxsend (c : CoreId)
  /-- R365: Multicasts data to a package rectangle. -/
  | fxmcast (c : CoreId)
  /-- R234: Contributes local data to an armed reduction window. -/
  | fxred (c : CoreId)
  /-- R233: Arms a reduction window for a generation. -/
  | fxwin (c : CoreId)
  /-- R216: Chain sums reach a landing row, adding or setting and raising its arrival count. -/
  | landingArrival (c : CoreId) (col : BitVec 3)
  /-- R248: A latch fill's final beat lands, setting summary bit and tag. -/
  | latchFillComplete (c : CoreId) (array : BitVec 6) (fresh : BitVec 16)
  /-- R249: A pending swap takes effect once its fill has completed. -/
  | latchSwap (c : CoreId) (q : QueueId)
  /-- R250: A due mitigation window opens, stopping activations and transfers in the shaft. -/
  | mitigationWindow (p : Place)
  /-- R250: The mitigation window closes with every bank closed. -/
  | mitigationWindowEnd (p : Place)
  /-- R143: A load's value returns and a strand in memory switch becomes ready. -/
  | loadDataReturn (c : CoreId) (s : StrandId) (d : BitVec 5)
  /-- R146: A store-queue entry is performed or faults delayed-precisely, holding its class. -/
  | storePerform (a : Agent) (n : BitVec 5)
  /-- R276: A dirty L1 line is written back to L2 by eviction. -/
  | l1Eviction (c : CoreId) (n : BitVec 10)
  /-- R283: A store to a watched page-table entry retries a parked walk. -/
  | translationRetry (a : Agent)
  /-- R283: A parked translation raises fault 0x06 after 1 ms. -/
  | translationParkTimeout (a : Agent)
  /-- R129: A ring update makes a parked WAIT.RING or WAIT.FREE condition hold. -/
  | ringWaitWake (c : CoreId) (s : StrandId)
  /-- R129: The time base reaches a WAIT.TIME value. -/
  | waitTimeReached (a : Agent)
  /-- R127: A WAIT.CLK count runs out. -/
  | waitClkExpiry (a : Agent)
  /-- R165: Queue completions satisfy a parked WAIT.JOIN, clearing its markers. -/
  | joinComplete (c : CoreId) (s : StrandId)
  /-- R163: A completed barrier generation wakes parked RBAR parties. -/
  | barrierWake (c : CoreId) (s : StrandId)
  /-- R168: A store to watched bytes satisfies a monitor condition. -/
  | monitorWake (a : Agent)
  /-- R167: An MWAITT timeout expires, writing 1 to x[d]. -/
  | mwaittTimeout (a : Agent)
  /-- R204: A queue entry frees and a parked PUSH.W enqueues its macro. -/
  | pushEntryFreed (c : CoreId) (s : StrandId)
  /-- R132: The watchdog count reaches 2^lim and fault 0x09 is raised. -/
  | watchdogExpiry (c : CoreId) (s : StrandId)
  /-- R336: The core selects a ready strand for the free issue slot by pressure and round robin. -/
  | issueSelect (c : CoreId)
  /-- R241: An engine fault record is taken by the pushing strand at its next boundary. -/
  | engineFaultDelivery (c : CoreId) (q : QueueId)
  /-- R308: A group's tick fires, counting overruns. -/
  | tick (g : GroupId)
  /-- R304: The vestibule opens a step: consumes input, writes slot tables, completes WAIT.STEP. -/
  | stepOpen (g : GroupId)
  /-- R313: A HOLD slot's grace time ends and the step opens short. -/
  | holdGraceExpiry (g : GroupId)
  /-- R296: A drained step commits, advancing cstep, and settles. -/
  | stepCommit (g : GroupId)
  /-- R328: A porch strand starts a queue-program run for an event or entry. -/
  | porchRunStart (q : HostQueueId)
  /-- R332: A run exceeds its instruction budget: fault 0x10 stops the queue. -/
  | porchBudgetExpiry (q : HostQueueId)
  /-- R327: The host publishes a queue entry by a release of wr. -/
  | hostQueuePublish (q : HostQueueId) (entry : List Byte)
  /-- R332: Host writes qctl.restart, clearing stopped and restarting the queue with reason 5. -/
  | qctlRestart (q : HostQueueId)
  /-- R335: Configuration planes of all cores flip at their drain point. -/
  | planeSwap (rect : BitVec 25)
  /-- R335: An operator retires, writing the LAUNCH completion word. -/
  | operatorRetire (c : CoreId)
  /-- R339: All operators reach their drain point within T1; the ladder rises or ends. -/
  | preemptDrainComplete (p : PartId)
  /-- R339: T1 expires before drain: cancel or go to save. -/
  | preemptT1Expiry (p : PartId)
  /-- R340: Core contexts are written to the cellar. -/
  | preemptSaveComplete (p : PartId)
  /-- R339: The save exceeds T2 and the ladder goes to reset. -/
  | preemptT2Expiry (p : PartId)
  /-- R345: An uncorrectable core error fences the core and abandons open steps. -/
  | coreFence (c : CoreId)
  /-- R346: The porch re-places a partition onto its spare rectangle. -/
  | rePlacement (p : PartId)
  /-- R347: A step re-runs from its opening after page-list rollback. -/
  | stepRerun (g : GroupId)
  /-- R349: A fatal error halts every core and writes the sump. -/
  | fatalError (die : DieId) (core : BitVec 8) (code : BitVec 8)
  /-- R46: Package reset sets the reset state and boots. -/
  | packageReset
  /-- R79: The porch loads a code image, copying data chains. -/
  | imageLoad (img : ImageFile)
  /-- R378: The security engine writes a signed attestation report. -/
  | attestationRequest (nonce : BitVec 256) (dest : DWord)
  /-- R352: A router takes a packet and routes it dimension-ordered. -/
  | packetRoute (port : PortId) (pkt : Packet)
  /-- R357: An output port grants a ready head by promotion or weighted round robin. -/
  | outputGrant (port : PortId)
  /-- R360: A kind-0 write packet is checked and performed at the target. -/
  | write (vc : BitVec 3)
  /-- R360: An acknowledgement performs the source's write at .sys. -/
  | writeAcknowledgement (vc : BitVec 3)
  /-- R362: A read request is checked and answered. -/
  | readRequest (vc : BitVec 3)
  /-- R360: A read response completes a .F load. -/
  | readResponse (vc : BitVec 3)
  /-- R360: An atomic request is performed indivisibly at the target. -/
  | atomicRequest (vc : BitVec 3)
  /-- R360: An atomic response completes a .F atomic. -/
  | atomicResponse (vc : BitVec 3)
  /-- R367: A kind-6 reduction packet arrives for a window, waiting if not armed. -/
  | reduction (vc : BitVec 3)
  /-- R366: A chunk with all contributions is combined and forwarded or delivered. -/
  | chunkCombine (win : BitVec 4) (chunk : Word)
  /-- R373: A fabric time message is exchanged with the time parent. -/
  | time (stamps : TimeStamps)
  /-- R355: A management packet between porches is received. -/
  | management (vc : BitVec 3)
  /-- R362: An error response delivers the target check code to the source. -/
  | errorResponse (vc : BitVec 3)
  /-- R365: A kind-10 multicast packet is replicated and delivered. -/
  | multicastWrite (vc : BitVec 3)
  /-- R364: A request timer expires: fault 0x0E at the sender. -/
  | fabricTimeout (seq : Nat)
  /-- R363: A fabric lane fails and the link retrains or goes down. -/
  | laneFailure (port : PortId) (lanes : BitVec 4)
  /-- R368: A UCIe module fails and the edge retrains without it. -/
  | edgeModuleFailure (edge : BitVec 2) (module : BitVec 6)
  /-- R369: The Mynto Link degrades to 8 or 4 lanes. -/
  | hostLinkLaneFailure (lanes : BitVec 5)
  /-- R369: A host access through an inbound window is performed at L2. -/
  | hostAccess (win : BitVec 3) (offset : DWord) (access : HostOp)
  /-- R359: Porch writes a port control register, effective at the next grant. -/
  | fabricPortControlWrite (port : PortId) (value : DWord)
  /-- R361: Porch rewrites an inbound fabric window, applying to later packets. -/
  | inboundWindowWrite (win : BitVec 4) (base size attr srect : DWord)
  /-- R372: A PTP exchange over the host link disciplines the time base. -/
  | ptpSync (stamps : TimeStamps)
  /-- R372: Two seconds without messages puts time into holdover. -/
  | holdoverTimeout
  /-- R379: Porch writes the power state word, entering a state if allowed. -/
  | pstateWrite (state : BitVec 2)
  /-- R380: The device raises or lowers the throttle level on temperature or power; the two Booleans say which cause it saw. -/
  | throttleChange (level : BitVec 3) (temperature pw : Bool)
  /-- R371: A debugger attaches, setting dbg on every core. -/
  | debugAttach
  /-- R371: The debugger detaches, clearing dbg and releasing halted strands. -/
  | debugDetach
  /-- R243: The debug path releases a halted strand. -/
  | debugRelease (c : CoreId) (s : StrandId)
  /-- R85: An instruction word with a reserved major, or an undefined minor value within a defined major, is fetched and takes fault 0x01 precisely. -/
  | reservedEncoding (w0 w1 : Word)
  /-- R350: A fabric port completes training and comes up, or stays down and is counted, depending on whether the neighbour reports the same extents and wrap bits. -/
  | portComesUp (port : PortId) (wx wy : BitVec 5) (wraps : BitVec 2)
  /-- R286: An L2 evicts a line on its own, writing back dirty data to memory and dropping its synonym remap filter entry. -/
  | l2Eviction (n : BitVec 32)
  /-- R238: An asynchronous PLANE finishes filling the shadow planes and writes its completion word at offset 0xF8 of the operator record. -/
  | planeCompletion (record : DWord)
  /-- R345: T1 of the partition's first bound queue expires after a core is fenced, and cores that have not reached the drain point are reset as at rung 3. -/
  | fenceDrainT1Expiry (p : PartId)
  /-- R379: The return from P2 or P3 to P0 completes after 20 us or 2 ms, with clocks running and DRAM active again. -/
  | powerStateReturn
  /-- R363: A receiver detects a corrupted flit by its CRC and the link replays it from the replay buffer, counting the event in telemetry. -/
  | corruptedFlitReplay (port : PortId)
  deriving DecidableEq, Repr

end Sys2Proof
end

