-- ==== Sys2Proof/Machine/State.lean ====
section
/-! DEFINITION. The state of one CH48 package (spec/01_machine_state.md and the chapters each part names), as plain
data: 32 cores with their strands, rings, queues, arrays and landing; the request records and the vestibule; the porch;
the memories and caches; the fabric router; time, power and debug; and the agenda, which holds what happens next. -/

namespace Sys2Proof.Machine

/-! ## Faults -/

/-- A fault record (R90, R342). `where` gives pc, strand, core and slot; the porch's is source 14. -/
structure FaultRecord where
  code : BitVec 8
  info : BitVec 40
  source : BitVec 4
  cls : BitVec 4
  prec : BitVec 2
  addr : DWord
  lo : BitVec 128
  hi : BitVec 128
  place : DWord
  time : DWord
  deriving DecidableEq, Repr

def FaultRecord.none : FaultRecord := ⟨0, 0, 0, 0, 0, 0, 0, 0, 0, 0⟩

/-! ## Strands -/

/-- A monitor armed by MWAIT or MWAITT (R166–R168): the watched bytes at the observation point, the condition, the
latched success, and for MWAITT the destination and the time at which it gives up. -/
structure Monitor where
  space : BitVec 3
  addr : Nat
  sz : BitVec 2
  cond : BitVec 2
  operand : DWord
  hit : Bool
  dest : Option (BitVec 5)
  deadline : Option DWord
  deriving DecidableEq, Repr

/-- Where a ring wait stands (R129): its condition is looked at after each update of the ring, and has held, or the ring has
become unfit for it. -/
inductive RingWatch where
  | waiting | met | broken
  deriving DecidableEq, Repr

/-- What a parked strand waits for (R127–R130, R163, R166, R204, R283). -/
inductive WaitFor where
  | ring (q : BitVec 5) (n : Nat) (watch : RingWatch)
  | free (q : BitVec 5) (n : Nat) (watch : RingWatch)
  | join (mask : BitVec 14)
  | step
  | time (t : DWord)
  | clk (left : Nat)
  | barrier (q : BitVec 5) (t : BitVec 9) (watch : RingWatch)
  | monitor (m : Monitor)
  /-- A PUSH.W at a full queue, with the macro as it stood at issue (R204). -/
  | push (queue : BitVec 4) (macroBits : BitVec 512) (len : Nat)
  | translation (va : Nat) (cls : BitVec 4) (deadline : Nat)
  /-- The vestibule's access for TSTAMP to a slot's ingest ring, whose fault is the slot's own (R237, R283, R311, R320). -/
  | ingest (va : Nat) (deadline : Nat) (slot : Nat) (dest : BitVec 5)
  deriving DecidableEq, Repr

/-- The run state of a strand (R11, R128, R131, R143, R241, R243). -/
inductive Run where
  | absent
  | ready
  | parked (w : WaitFor)
  /-- A memory switch: the registers whose values the strand needs (R143). -/
  | memory (need : List (BitVec 5))
  | halted
  | trapped
  | debugged
  deriving DecidableEq, Repr

/-- What a store-queue entry does when it is performed (R146). -/
inductive StoreKind where
  | store
  | atomic (op : BitVec 4)
  | cache (op : BitVec 4) (count : Nat)
  deriving DecidableEq, Repr

/-- A store-queue entry (R146, R340). `keep` has one bit per byte stored; `fault` is set when it has faulted
delayed-precisely; `sent` numbers the fabric request it waits on. -/
structure StoreEntry where
  kind : StoreKind
  space : BitVec 3
  addr : Nat
  size : Nat
  data : Nat
  keep : Nat
  cls : BitVec 4
  scope : BitVec 2
  fault : Option (BitVec 8)
  sent : Option Nat
  /-- In park mode, the address whose translation it waits for, and the time at which that becomes fault 0x06 (R283). -/
  retry : Option (Nat × Nat)
  /-- Its fault has been reported and the handler has not yet returned (R147). -/
  told : Bool
  /-- A RED with .rel: performed after every earlier access (R155). -/
  rel : Bool
  /-- Its place in program order among the accesses of the strand that are not performed (R134). -/
  order : Nat
  deriving DecidableEq, Repr

/-- A load or atomic that has not been performed when the strand issues on (R143): one of the fabric whose answer has not come
(R360), or a load that waits behind another access of the strand (R134). Its register, its pc, what it accesses, whether it
is an acquire, and the fault that has come of it. -/
structure FarLoad where
  /-- Its request by the model's number, once that has left. -/
  id : Option Nat
  dest : BitVec 5
  pc : BitVec 25
  space : BitVec 3
  addr : Nat
  size : Nat
  cls : BitVec 4
  /-- Its scope is .die or wider. -/
  wide : Bool
  acquire : Bool
  /-- It was issued inside the handler. -/
  handler : Bool
  failed : Option (BitVec 8)
  /-- Its place in program order, as that of a store-queue entry. -/
  order : Nat
  /-- The strand's own stores to its bytes that were held when its request left (R147). -/
  own : List StoreEntry
  /-- In park mode, as of a store-queue entry. -/
  retry : Option (Nat × Nat)
  deriving DecidableEq, Repr

/-- What the current code of a strand passes over once (R75, R243): the breakpoint at the address where the debugger released it, and
the instruction at an address that has been executed and ends its chain, where fault 0x01 is due. -/
structure Passing where
  bpt : Option (BitVec 25)
  ended : Option (BitVec 25)
  deriving DecidableEq, Repr

def Passing.none : Passing := ⟨Option.none, Option.none⟩

/-- A strand context (R11–R23, R239–R243), of a core or of the porch. -/
structure Strand where
  run : Run
  /-- x1–x31 by number; x0 is read as zero (R12). -/
  x : Cells DWord
  k : Cells KWord
  /-- Predicates by physical number; p0 is read as all ones (R13, R15). -/
  p : Cells Pred
  wid : DWord
  line : Line
  slot : Slot
  lc : DWord
  ec : DWord
  vbase : BitVec 5
  pbase : BitVec 6
  fstat : Flags
  fault : DWord
  wcount : BitVec 33
  wlim : BitVec 6
  cls : BitVec 4
  /-- Widths of wid fields 0 to 5 (R19). -/
  widths : List Nat
  wv : Nat
  vn : Nat
  pn : Nat
  stage : BitVec 3
  pen : Bool
  pq : BitVec 5
  /-- Registers whose load has not returned (R143). -/
  inflight : List (BitVec 5)
  /-- Loads and atomics under way, oldest first (R143). -/
  far : List FarLoad
  storeq : List StoreEntry
  /-- Markers by queue (R164). -/
  markers : Cells (Option Word)
  trapEn : Bool
  trapIn : Bool
  tvec : BitVec 25
  tpc : BitVec 25
  bpt : Cells DWord
  record : FaultRecord
  queued : List FaultRecord
  /-- What is passed over, until the next instruction has been executed. -/
  pass : Passing
  /-- The same of the code that the handler has interrupted, to which it returns (R242). -/
  outer : Passing
  deriving DecidableEq, Repr

/-- A strand context before any launch: nothing resident (R46); register values DESIGN CHOICE (log 6). -/
def Strand.reset : Strand where
  run := .absent
  x := []
  k := []
  p := []
  wid := 0
  line := 0
  slot := 0
  lc := 0
  ec := 0
  vbase := 0
  pbase := 0
  fstat := 0
  fault := 0
  wcount := 0
  wlim := 24
  cls := 0
  widths := [0, 0, 0, 0, 0, 0]
  wv := 0
  vn := 0
  pn := 0
  stage := 0
  pen := false
  pq := 0
  inflight := []
  far := []
  storeq := []
  markers := []
  trapEn := false
  trapIn := false
  tvec := 0
  tpc := 0
  bpt := []
  record := FaultRecord.none
  queued := []
  pass := Passing.none
  outer := Passing.none

/-! ## Rings and engine queues -/

/-- A ring descriptor with its owner bits (R24, R27). -/
structure Ring where
  claim : BitVec 9
  tail : BitVec 9
  head : BitVec 9
  en : Bool
  mode : BitVec 3
  sstride : BitVec 8
  bcols : BitVec 6
  brows : BitVec 4
  fmt : BitVec 4
  sgroup : BitVec 4
  scount : BitVec 8
  ssize : BitVec 8
  base : BitVec 22
  owners : BitVec 256
  deriving DecidableEq, Repr

def Ring.reset : Ring := ⟨0, 0, 0, false, 0, 0, 0, 0, 0, 0, 0, 0, 0, 0⟩

/-- A queue entry (R204): macro bits, length in command registers, pushing strand, acceptance number. For ACHAIN and
ABYPASS, `gate` holds how many macros queues 0 to 7 had accepted (R212). -/
structure Command where
  bits : BitVec 512
  len : Nat
  strand : BitVec 3
  seq : Word
  gate : List Word
  deriving DecidableEq, Repr

/-- A queue parked on a fault (R45, R207): the record, and whether it has been delivered. -/
structure Parked where
  record : FaultRecord
  delivered : Bool
  deriving DecidableEq, Repr

/-- An engine queue with its micro-program counter (R43, R44, R204, R205). `mseq` counts the macros accepted, `left` those
that have left the queue. `started` tells that the current macro has made its start checks and claims; `base` is the
counter of the first slot it claimed; `mark` counts bytes its streams have passed; `wActive` and `wShadow` name the weight
rows a streaming AMAC has put into the latches; `ended` that the counters have run past what 80 bits hold, so that every unit has run (R209); `late` the fabric requests it
still waits for, each with its packet and destination; `retry` the address whose translation is waited for in park mode, and
the time at which that becomes a fault (R283). -/
structure Queue where
  entries : List Command
  mseq : Word
  left : Word
  phase : BitVec 4
  espec : BitVec 8
  ctr : BitVec 80
  ended : Bool
  started : Bool
  base : BitVec 9
  mark : Nat
  wActive : Option Nat
  wShadow : Option Nat
  late : List (Nat × Nat × Nat)
  /-- Bytes a fabric macro has read and not yet sent or contributed. -/
  bytes : List Byte
  /-- Sequence numbers of the packets a fabric macro has sent (R45). -/
  seqs : List (BitVec 20)
  retry : Option (Nat × Nat)
  parked : Option Parked
  deriving DecidableEq, Repr

def Queue.reset : Queue := ⟨[], 0, 0, 0, 0, 0, false, false, 0, 0, none, none, [], [], [], none, none⟩

/-! ## Arrays and landing -/

/-- A weight latch: 1,024 bytes, the format tag, the summary bit (R64, R210). -/
structure Latch where
  tile : BitVec 8192
  tag : BitVec 3
  summary : Bool
  deriving DecidableEq, Repr

def Latch.reset : Latch := ⟨0, 0, false⟩

/-- A fill in progress (R248, R251): the row, the half of an INT4 fill, the format, the row's bytes when the fill began, the
beats transferred so far by number, and the acceptance number of the ALATCH that began it. -/
structure Fill where
  row : Nat
  half : Bool
  fmt : BitVec 3
  old : BitVec 8192
  beats : Cells (BitVec 512)
  seq : Option Word
  deriving DecidableEq, Repr

/-- Column sums handed from array to array (R214): the macro kind, the mode, the 32 sums, and whether one saturated. -/
structure Sums where
  dist : Bool
  mode : AccMode
  vals : List Acc
  sat : Bool
  deriving DecidableEq, Repr

/-- One array with its latches (R252), the fill of its shadow, and the sums waiting at its north port. -/
structure ArrayUnit where
  active : Latch
  shadow : Latch
  fill : Option Fill
  north : Option Sums
  deriving DecidableEq, Repr

def ArrayUnit.reset : ArrayUnit := ⟨Latch.reset, Latch.reset, none, none⟩

/-- One landing row of one column block: the mode tag and 32 accumulators (R216, R257). -/
structure Block where
  tag : AccMode
  vals : List Acc
  deriving DecidableEq, Repr

def Block.reset : Block := ⟨.float, List.replicate 32 0⟩

/-- The soft-maximum pairs of one landing row (R219), and the o row the most recent ESMAX paired with it (R384). -/
structure SoftMax where
  m : Word
  s : Acc
  pm : Word
  ps : Acc
  orow : Option Nat
  deriving DecidableEq, Repr

def SoftMax.reset : SoftMax := ⟨0, 0, 0, 0, none⟩

/-- A delivery of column sums on its way to the landing (R214, R216): the row, lmode, and the sums, none for a skipped
unit. -/
structure Delivery where
  row : Nat
  lmode : BitVec 2
  sums : Option Sums
  deriving DecidableEq, Repr

/-! ## Configuration planes -/

/-- One strand entry of a launch header (R34). -/
structure StrandEntry where
  cls : BitVec 4
  wdx : BitVec 6
  pen : Bool
  pq : BitVec 5
  stage : BitVec 3
  pn : Nat
  vn : Nat
  wv : Nat
  eslot : Slot
  eline : Line
  deriving DecidableEq, Repr

/-- A configuration plane (R334). -/
structure Plane where
  mask : BitVec 8
  entries : List StrandEntry
  widths : List Nat
  roles : List Nat
  widt : DWord
  args : List DWord
  presets : List (Nat × Ring)
  wid5 : DWord
  group : Option (BitVec 4)
  sbase : Nat
  sstride : Nat
  part : BitVec 3
  asid : BitVec 12
  image : Word
  record : Nat
  rerun : Bool
  /-- Whether LAUNCH filled the plane, so that its completion word waits for the operator to retire (R335). -/
  launch : Bool
  start : List Nat
  fromNorth : BitVec 8
  bypass : BitVec 8
  deriving DecidableEq, Repr

/-! ## Caches -/

/-- An L1 data line (R273, R276): masks with one bit per byte, the class set, the classes of the loads that have returned
its dirty bytes (R136), and the 64 bytes. -/
structure L1Line where
  asid : BitVec 12
  vline : Nat
  pline : Nat
  valid : BitVec 64
  dirty : BitVec 64
  classes : BitVec 16
  readBy : BitVec 16
  data : BitVec 512
  deriving DecidableEq, Repr

/-- A die's entry for a line its L2 holds (R273, R285): the canonical address under which the line entered it. -/
structure Holder where
  die : Nat
  asid : BitVec 12
  vline : Nat
  deriving DecidableEq, Repr

/-- A line held by L2s (R273, R274, R285): one coherent copy per physical line, the entry of each die that holds it, and the
die that holds it for writing. -/
structure L2Line where
  pline : Nat
  holders : List Holder
  writer : Option Nat
  dirty : Bool
  data : BitVec 512
  deriving DecidableEq, Repr

/-! ## Cores -/

/-- A vector register: 16 × 64 elements of 32 bits, element (r, c) at 64 r + c (R11, R13). -/
abbrev VReg := Vector Word 1024

/-- A core (R11, R24, R33, R239, R252–R257, R334). -/
structure Core where
  strands : Cells Strand
  holder : Option (BitVec 3)
  rr : BitVec 3
  vfile : Cells VReg
  rings : Cells Ring
  queues : Cells Queue
  scratch : Cells Byte
  arrays : Cells ArrayUnit
  rows : Cells Block
  stage : Cells Block
  arrivals : Cells (BitVec 8)
  smax : Cells SoftMax
  /-- Merges since the last ESMAX reset (R44, R219). -/
  pass : BitVec 16
  deliveries : Cells (List Delivery)
  lstat : BitVec 8
  lempty : BitVec 128
  vstat : BitVec 7
  fxstat : BitVec 7
  dbg : Bool
  l1 : List L1Line
  active : Option Plane
  shadow : Option Plane
  token : Bool
  fenced : Bool
  /-- The code of the first fault that halted a strand of the current operator (R335). -/
  opFault : BitVec 8
  deriving DecidableEq, Repr

def Core.reset : Core where
  strands := []
  holder := none
  rr := 0
  vfile := []
  rings := []
  queues := []
  scratch := []
  arrays := []
  rows := []
  stage := []
  arrivals := []
  smax := []
  pass := 0
  deliveries := []
  lstat := 0
  lempty := 0
  vstat := 0
  fxstat := 0
  dbg := false
  l1 := []
  active := none
  shadow := none
  token := false
  fenced := false
  opFault := 0

/-! ## The vestibule -/

/-- A slot of a group's open step (R41): what the opening wrote, and what the step has done. -/
structure SlotInfo where
  record : Nat
  masked : Bool
  gap : Bool
  late : Bool
  inCount : Nat
  kvLen : Nat
  pos : DWord
  startSeq : DWord
  emitted : Nat
  stopHit : Bool
  /-- The stamp of the latest token taken, and the entries dropped, which the opening will write to the record (R40, R312). -/
  last : DWord
  drop : Nat
  deriving DecidableEq, Repr

/-- Where a group stands between steps (R296, R304, R313). -/
inductive GroupPhase where
  | idle
  | hold
  | open
  | abandoned
  deriving DecidableEq, Repr

/-- A slot whose input the opening still waits for: the tokens taken in the window and in all; the time at which a HOLD slot's
grace ends, once its window has been found short (R313); the address whose translation the vestibule waits for in park mode,
and the time at which that becomes fault 0x06 (R283). -/
structure Hold where
  slot : Nat
  w : Nat
  cnt : Nat
  due : Option Nat
  missed : Option (Nat × Nat)
  deriving DecidableEq, Repr

/-- A batch group (R289–R313). -/
structure Group where
  cfg : GroupCfg
  period : Nat
  lag : Nat
  /-- Periods and lags to come, with the tick from which they hold (R237, R308). -/
  pending : List (Nat × Nat × Nat)
  ticking : Bool
  /-- A TARM stop waits for the current step (R237). -/
  stopping : Bool
  nextTick : Nat
  /-- Number and time of the latest tick fired. -/
  tickNo : Nat
  tickTime : Nat
  /-- A fired tick whose step has not opened (R309). -/
  waiting : Bool
  phase : GroupPhase
  /-- Number and time of the tick of the current step. -/
  stepTick : Nat
  stepTime : Nat
  /-- Number and time of the tick of the opening under way (R304). -/
  openTick : Nat
  openTime : Nat
  tOpen : Nat
  /-- Upper end and length in ns of the input window of the step being opened (R312). -/
  winHi : Int
  winP : Nat
  cstep : DWord
  stepNs : Nat
  overrun : Nat
  lateEv : Nat
  nAdm : Nat
  nEvict : Nat
  nRet : Nat
  nRfault : Nat
  ccmpl : DWord
  commitAsked : Bool
  slots : Cells (Option SlotInfo)
  /-- The slots that the opening waits for (R283, R313). -/
  holds : List Hold
  /-- Some slot's window was short at the tick of the opening (R313). -/
  short : Bool
  /-- The step in progress is to be re-run from its opening (R339, R347). -/
  rerun : Bool
  deriving DecidableEq, Repr

def Group.reset : Group where
  cfg := GroupCfg.off
  period := 0
  lag := 0
  pending := []
  ticking := false
  stopping := false
  nextTick := 0
  tickNo := 0
  tickTime := 0
  waiting := false
  phase := .idle
  stepTick := 0
  stepTime := 0
  openTick := 0
  openTime := 0
  tOpen := 0
  winHi := 0
  winP := 0
  cstep := 0
  stepNs := 0
  overrun := 0
  lateEv := 0
  nAdm := 0
  nEvict := 0
  nRet := 0
  nRfault := 0
  ccmpl := 0
  commitAsked := false
  slots := []
  holds := []
  short := false
  rerun := false

/-- A pending action on a record (R294). -/
inductive Act where
  | park
  /-- The parking of a gang's other members when one has faulted, or when the gang fails (R293). -/
  | gang
  | resume
  | cancel
  deriving DecidableEq, Repr

/-! ## The porch -/

/-- An event of a partition (R328): the reason and the fault record. -/
structure Event where
  reason : Nat
  record : FaultRecord
  deriving DecidableEq, Repr

/-- A host queue's porch strand (R325–R332). -/
structure PorchQueue where
  strand : Strand
  running : Bool
  issued : Nat
  /-- The nearest LOOPSET rule is the loader's; the streams of this queue passed it (R330). -/
  verified : Bool
  stopped : Bool
  pfault : BitVec 8
  rung : BitVec 2
  saved : Bool
  pcode : BitVec 8
  pdone : BitVec 8
  /-- A run is due to start with reason 5 (R332). -/
  restart : Bool
  deriving DecidableEq, Repr

def PorchQueue.reset : PorchQueue := ⟨Strand.reset, false, 0, true, false, 0, 0, false, 0, 0, false⟩

/-- Where a partition's pre-emption ladder stands (R339). -/
inductive Ladder where
  | none
  | drain (queue : BitVec 6) (max : BitVec 2) (start : Nat)
  | save (queue : BitVec 6) (max : BitVec 2) (start : Nat)
  deriving DecidableEq, Repr

/-- A partition table entry (R323), with the ladder and the events held for it. -/
structure Part where
  en : Bool
  parkMode : Bool
  asid : BitVec 12
  rect : BitVec 25
  root : Nat
  spare : BitVec 25
  qmask : DWord
  pstate : BitVec 3
  ladder : Ladder
  saved : Bool
  rung : BitVec 2
  /-- Cores whose operator rung 3 marked for relaunch, by record address (R339). -/
  relaunch : List (Nat × Nat)
  /-- A fence waits for the other cores until this time (R345). -/
  fencing : Option Nat
  events : List Event
  deriving DecidableEq, Repr

def Part.off : Part := ⟨false, false, 0, 0, 0, 0, 0, 0, .none, false, 0, [], none, []⟩

/-- A PLANE or LAUNCH accepted and not yet complete (R238): operator record, rectangle, partition, and whether the swap
follows. -/
structure PlaneJob where
  record : Nat
  rect : BitVec 25
  part : BitVec 3
  launch : Bool
  deriving DecidableEq, Repr

/-- A loaded code image (R73, R78, R79): line l at physical `base` + 64 l. -/
structure Image where
  ident : Word
  base : Nat
  nlines : Nat
  dirLine : Nat
  dirCount : Nat
  placed : Bool
  placeId : DWord
  dataBase : Nat
  deriving DecidableEq, Repr

/-! ## The fabric -/

/-- A fabric port (R351, R353–R359, R363). -/
structure Port where
  up : Bool
  lanes : Nat
  en : Bool
  wt : BitVec 24
  thr : Nat
  cred : List Nat
  cur : Nat
  /-- Sent and not yet acknowledged: what a port that goes down resends (R363). -/
  unacked : List Packet
  flitsOut : Nat
  flitsIn : Nat
  promotions : Nat
  replays : Nat
  drops : Nat
  timeouts : Nat
  deriving DecidableEq, Repr

/-- The weights of channels 0 to 5 (R359). -/
def portWeights (wt : BitVec 24) : List Nat := [0, 1, 2, 3, 4, 5].map (fun v => wt.toNat / 2 ^ (4 * v) % 16)

/-- A port as boot leaves it (R359): its control as the image sets it. -/
def Port.ofCfg (c : PortCfg) : Port := ⟨false, 8, c.en, c.wt, c.thr, portWeights c.wt, 0, [], 0, 0, 0, 0, 0, 0⟩

def Port.reset : Port := Port.ofCfg PortCfg.default

/-- Who sent a fabric request and what its answer does (R360, R364). -/
inductive Waiter where
  | load (a : Agent)
  | store (a : Agent)
  | engine (c : BitVec 5)
  /-- A combined chunk on its way to the parent, of a window that this core armed (R366). -/
  | chunk (c : BitVec 5)
  /-- A read of the porch on the management channel (R355). -/
  | manage
  deriving DecidableEq, Repr

/-- A request, write or contribution waiting for its answer (R364). -/
structure Pending where
  id : Nat
  dst : BitVec 8
  vc : BitVec 3
  seq : BitVec 20
  deadline : Nat
  waiter : Waiter
  cls : BitVec 4
  addr : DWord
  deriving DecidableEq, Repr

/-- A reduction window (R233, R366): the arming macro, the core that armed it, the elements the package's own macros
have covered, the packets of each child by chunk, and the chunks done. -/
structure RWindow where
  armed : Bool
  core : BitVec 5
  op : BitVec 2
  home : BitVec 8
  parent : BitVec 4
  children : BitVec 12
  isLocal : Bool
  cols : Nat
  base : DWord
  nelem : Nat
  gen : Word
  own : Cells (List Byte)
  fromChild : Cells (List Byte)
  doneChunks : List Nat
  /-- Chunks whose delivery waits for a translation in park mode: its address, and the time at which that becomes fault 0x06
  (R283). -/
  missed : Cells (Option (Nat × Nat))
  deriving DecidableEq, Repr

def RWindow.reset : RWindow := ⟨false, 0, 0, 0, 0, 0, false, 0, 0, 0, 0, [], [], [], []⟩

/-- A packet ejected at this package, with the inbound window it names as it stood then (R361). -/
structure Arrived where
  pkt : Packet
  win : FWindow
  deriving DecidableEq, Repr

/-- The package's router and its end of the fabric (R350–R367). `bufs` holds the input buffers by 8 × port + channel, port
12 the local one, 13 + p what the combining unit sends on port p, and what is to be sent again after port p went down (R363);
`inbox` what was ejected here, by channel, reductions at
16 + the port they came by; `sent` what left on each port. -/
structure Fabric where
  ports : Cells Port
  bufs : Cells (List Packet)
  age : Cells Nat
  promoted : Cells Bool
  inbox : Cells (List Arrived)
  sent : Cells (List Packet)
  seqOut : Cells (BitVec 20)
  /-- Sequence numbers accepted from each stream, newest first (R363). -/
  seqIn : Cells (List (BitVec 20))
  pending : List Pending
  nextId : Nat
  windows : Cells RWindow
  inbound : Cells FWindow
  deriving DecidableEq, Repr

/-! ## Time, power, debug -/

/-- The time servo (R372, R373). -/
structure Servo where
  /-- 0 unaligned, 1 locked, 2 holdover, 3 slewing (R381). -/
  status : BitVec 2
  offset : Int
  lastMsg : Nat
  /-- Since when |offset| has stayed below 100 ns. -/
  goodSince : Option Nat
  /-- What slewing has still to add to the time base, and the ns that have passed since its last whole step. -/
  slew : Int
  rest : Nat
  /-- Port towards the time parent, as the image or later the porch names it; `none` at the time root (R373). -/
  parent : Option Nat
  /-- Time of the last exchange with the time parent (R373). -/
  parentMsg : Option Nat
  /-- The link to the time parent has gone down since the parent was named (R373). -/
  lost : Bool
  deriving DecidableEq, Repr

/-- Power state and the device's telemetry of it (R379–R381). -/
structure Power where
  pstate : BitVec 2
  /-- A return to P0 is under way (R379). -/
  returning : Bool
  level : BitVec 3
  temperature : Bool
  powerCause : Bool
  edges : Cells (BitVec 48)
  hostLanes : Nat
  hostReplays : Nat
  /-- What the sensors read (R380, R381): 0 the package power in mW over the last 1 ms, 1 the energy in mJ, 2 + d the
  temperature of die d in 0.125 °C. -/
  sensed : Cells Nat
  deriving DecidableEq, Repr

/-- Mitigation and fill telemetry of a shaft (R250, R381), with the latest grid point whose window has opened and the time
in ns at which it did. -/
structure ShaftTel where
  windows : Word
  lost : Word
  open_ : Bool
  grid : Nat
  since : Nat
  deriving DecidableEq, Repr

/-! ## The package -/

/-- What the outside world, or a part of the device that is no instruction of the table, does to the package. -/
inductive Input where
  /-- A DRAM row, by shaft number and row, can no longer be read without error, or can again (R144, R320, R346). -/
  | rowError (shaft row : Nat) (bad : Bool)
  /-- One beat of a latch fill is transferred (R251). -/
  | beat (c : BitVec 5) (array : BitVec 6) (n : BitVec 4)
  /-- The host link replays a flit (R369, R381). -/
  | hostReplay
  /-- The porch rewrites an inbound host window (R369). -/
  | hostWindow (n : BitVec 3) (w : HostIn)
  /-- The porch names another time parent (R373). -/
  | timeParent (port : Option (BitVec 4))
  /-- A sensor reads a value (R380, R381). -/
  | sense (n value : Nat)
  /-- The debug path reads or writes a halted strand at an offset of the strand context table (R340, R371). -/
  | debugRead (c : BitVec 5) (k : BitVec 3) (offset n : Nat)
  | debugWrite (c : BitVec 5) (k : BitVec 3) (offset n data : Nat)
  /-- The debug path reads a core of a halted strand at an offset of its context (R25, R340). -/
  | debugCore (c : BitVec 5) (k : BitVec 3) (offset n : Nat)
  /-- An access of an inbound host window that waits for a translation is tried again (R283). -/
  | hostRetry (win : BitVec 3)
  /-- The porch sends a management packet to a package, or reads `n` bytes there through a window (R355). -/
  | manage (dst : BitVec 8) (data : List Byte)
  | manageRead (dst : BitVec 8) (win : BitVec 4) (offset n : Nat)
  deriving DecidableEq, Repr

/-- An access through an inbound host window that waits for a translation in park mode, or behind one that does (R283, R369): the
address, and the time at which it is given up. -/
structure HostWait where
  win : BitVec 3
  offset : DWord
  access : HostOp
  missed : Option (Nat × Nat)
  deriving DecidableEq, Repr

/-- What happens next: time passes, an event or an input occurs, or another agent takes its turn (log 1). -/
inductive Agendum where
  | clocks (n : Nat)
  | event (i : Instr)
  | input (x : Input)
  | turn (a : Agent)
  /-- An agent of another core, or of the porch, acts in the clk that has begun (R3). -/
  | also (a : Agent)
  deriving DecidableEq, Repr

/-- The state of the package. -/
structure State where
  cfg : Cfg
  /-- The agent whose instruction the next step issues when the agenda is empty. -/
  cur : Agent
  agenda : List Agendum
  /-- The agents that have acted in the clk that has begun. -/
  acted : List Agent
  /-- Who has run in it, by core and place in the order of R28: strand k has place k, engine queue q place 8 + q. -/
  units : List (Nat × Nat)
  /-- Main-clock periods since reset (R3). -/
  clk : Nat
  /-- True time since reset, in units of 1/72 ns: the clk period at throttle level L is 5 (8 + L) of them (R3, R380). -/
  up : Nat
  /-- The device time base, TAI ns (R372). -/
  tai : Nat
  cores : Cells Core
  placed : Cells Byte
  pooled : Cells Byte
  host : Cells Byte
  records : Cells Byte
  /-- DRAM rows that cannot be read without error: 2 ^ 17 × shaft number + row (R144). -/
  bad : Cells Bool
  l2 : List L2Line
  /-- Physical lines from which a walker has read an entry: line, address space, level, virtual base and bytes mapped
  below the entry (R284). -/
  walked : List (Nat × BitVec 12 × Nat × Nat)
  images : List Image
  parts : Cells Part
  porch : Cells PorchQueue
  jobs : List PlaneJob
  /-- The rectangles whose swap token is posted and not yet taken (R335). -/
  swaps : List (BitVec 25)
  /-- What the porch has reported of images it refused to load, newest first (R78). -/
  refused : List FaultRecord
  groups : Cells Group
  pendingActs : List (Nat × Act)
  /-- Staged input entries kept for a request whose step was given up (R346), by record. -/
  kept : Cells (List (BitVec 128))
  arrSeq : DWord
  admSeq : DWord
  /-- Contexts saved in the cellar, by core (R340). -/
  saved : Cells (Option Core)
  fabric : Fabric
  servo : Servo
  power : Power
  shafts : Cells ShaftTel
  /-- The inbound host windows (R369). -/
  hostIn : Cells HostIn
  /-- Clks each row sequencer (8 core + row) has spent in phase 4 (R249, R381). -/
  swait : Cells DWord
  /-- A debugger is attached (R371). -/
  debugger : Bool
  /-- Boot verified both items (R376), and whether each, image then firmware, is its copy B. -/
  booted : Bool
  copyB : BitVec 2
  /-- The item that failed at boot (R376): 0 none, 1 the configuration image, 2 the firmware. -/
  bootFail : BitVec 2
  /-- The code-image measurement (R378). -/
  measure : BitVec 512
  /-- A fatal error has stopped the package (R349). -/
  stopped : Bool
  /-- Host values read through inbound windows, newest first (R369). -/
  hostReads : List (List Byte)
  /-- Host accesses that wait for a translation, oldest first (R283). -/
  hostWaits : List HostWait
  /-- Values read on the debug path, newest first (R371). -/
  debugReads : List (List Byte)
  /-- What the porch has received on the management channel, packets and answers to its reads, newest first (R355). -/
  managed : List (List Byte)
  deriving DecidableEq, Repr

/-- Why the machine stops. -/
inductive Fault where
  /-- Raised by the step after a fatal error: the package runs nothing until reset (R349). Safe. -/
  | packageStopped
  deriving DecidableEq, Repr

/-- Why a step is refused. -/
inductive Refusal where
  /-- Raised by an arm of `exec` whose instruction has no meaning yet, by its mnemonic. Safe. -/
  | notModelled (mnemonic : String)
  deriving DecidableEq, Repr

/-- What a step of this machine answers. -/
abbrev Out := Host.Outcome State Fault Refusal

/-- The fabric as boot leaves it: port controls and inbound windows as the image sets them (R359, R361). -/
def Fabric.ofCfg (cfg : Cfg) : Fabric :=
  ⟨cfg.ports.foldl (fun m e => m.set Port.reset e.1 (Port.ofCfg e.2)) [], [], [], [], [], [], [], [], [], 0, [],
    cfg.inbound.foldl (fun m e => m.set FWindow.reset e.1 e.2) []⟩

def Servo.ofCfg (cfg : Cfg) : Servo := ⟨0, 0, 0, none, 0, 0, cfg.timeParent, none, false⟩

def Power.reset : Power := ⟨0, false, 0, false, false, [], 16, 0, []⟩

/-- A partition as boot builds it (R323). -/
def Part.ofCfg (c : PartCfg) : Part :=
  { Part.off with
    en := c.en, parkMode := c.parkMode, asid := c.asid, rect := c.rect, root := c.root, spare := c.spare, qmask := c.qmask }

/-- The P fields of a group block as stored (R290). -/
def groupBlockBytes (c : GroupCfg) : Nat :=
  c.en.toNat + 2 * c.b1.toNat + 4 * c.acommit.toNat + 2 ^ 32 * c.nslot + 2 ^ 48 * c.part.toNat + 2 ^ 56 * c.nExp +
    2 ^ 64 * c.inMax + 2 ^ 80 * c.kvres + 2 ^ 96 * c.nfl + 2 ^ 128 * c.fltab.toNat + 2 ^ 192 * c.stage.toNat

/-- Pooled memory as the image loads it (R46): its contents, and the group blocks with their V fields and reserved bytes
zero (R290), at the physical addresses that address space 0 has for them (log 4). -/
def bootMemory (cfg : Cfg) : Cells Byte :=
  let base := match cfg.root0 with | none => cfg.groupBlocks | some _ => cfg.groupPhys
  cfg.groups.foldl (fun m e => setBytes m (base + 256 * e.1) 256 (groupBlockBytes e.2))
    (cfg.pooledImage.foldl (fun m e => m.set 0 e.1 e.2) [])

/-- The package right after a reset with a configuration image that boot accepts (R46). -/
def State.boot (cfg : Cfg) : State where
  cfg := cfg
  cur := .strand 0 0
  agenda := []
  acted := []
  units := []
  clk := 0
  up := 0
  tai := 0
  cores := []
  placed := cfg.placedImage.foldl (fun m e => m.set 0 e.1 e.2) []
  pooled := bootMemory cfg
  host := []
  records := []
  bad := []
  l2 := []
  walked := []
  images := []
  parts := cfg.parts.map (fun e => (e.1, Part.ofCfg e.2))
  porch := []
  jobs := []
  swaps := []
  refused := []
  groups := cfg.groups.map (fun e => (e.1, { Group.reset with cfg := e.2 }))
  pendingActs := []
  kept := []
  arrSeq := 1
  admSeq := 1
  saved := []
  fabric := Fabric.ofCfg cfg
  servo := Servo.ofCfg cfg
  power := Power.reset
  shafts := []
  hostIn := cfg.hostIn
  swait := []
  debugger := false
  booted := true
  copyB := 0
  bootFail := 0
  measure := 0
  stopped := false
  hostReads := []
  hostWaits := []
  debugReads := []
  managed := []

/-- The package right after reset (R46), with the default configuration image. -/
def State.reset : State := State.boot Cfg.default

end Sys2Proof.Machine
end

