-- ==== Sys2Proof/Machine/Geometry.lean ====
section
/-! DEFINITION. Places, rectangles, dies, cores and pooled addresses (R29–R32, R92, R244, R245, R265, R266, R271), and
access to the parts of the state by name. -/

namespace Sys2Proof.Machine

/-! ## Cores, strands and the current agent -/

def State.core (s : State) (c : Nat) : Core := s.cores.get Core.reset c
def State.setCore (s : State) (c : Nat) (k : Core) : State := { s with cores := s.cores.set Core.reset c k }
def State.modCore (s : State) (c : Nat) (f : Core → Core) : State := s.setCore c (f (s.core c))

def Core.strand (k : Core) (i : Nat) : Strand := k.strands.get Strand.reset i
def Core.setStrand (k : Core) (i : Nat) (t : Strand) : Core := { k with strands := k.strands.set Strand.reset i t }
def Core.ring (k : Core) (q : Nat) : Ring := k.rings.get Ring.reset q
def Core.setRing (k : Core) (q : Nat) (r : Ring) : Core := { k with rings := k.rings.set Ring.reset q r }
def Core.queue (k : Core) (q : Nat) : Queue := k.queues.get Queue.reset q
def Core.setQueue (k : Core) (q : Nat) (u : Queue) : Core := { k with queues := k.queues.set Queue.reset q u }
def Core.array (k : Core) (a : Nat) : ArrayUnit := k.arrays.get ArrayUnit.reset a
def Core.setArray (k : Core) (a : Nat) (u : ArrayUnit) : Core := { k with arrays := k.arrays.set ArrayUnit.reset a u }

def State.porchQueue (s : State) (q : Nat) : PorchQueue := s.porch.get PorchQueue.reset q
def State.setPorchQueue (s : State) (q : Nat) (p : PorchQueue) : State :=
  { s with porch := s.porch.set PorchQueue.reset q p }
def State.part (s : State) (p : Nat) : Part := s.parts.get Part.off p
def State.setPart (s : State) (p : Nat) (v : Part) : State := { s with parts := s.parts.set Part.off p v }
def State.group (s : State) (g : Nat) : Group := s.groups.get Group.reset g
def State.setGroup (s : State) (g : Nat) (v : Group) : State := { s with groups := s.groups.set Group.reset g v }
def State.queueDesc (s : State) (q : Nat) : QueueDesc := s.cfg.queues.get QueueDesc.off q

/-- The strand context of an agent. -/
def State.strandOf (s : State) : Agent → Strand
  | .strand c k => (s.core c.toNat).strand k.toNat
  | .porch q => (s.porchQueue q.toNat).strand

def State.setStrandOf (s : State) (a : Agent) (t : Strand) : State :=
  match a with
  | .strand c k => s.modCore c.toNat (fun co => co.setStrand k.toNat t)
  | .porch q => s.setPorchQueue q.toNat { s.porchQueue q.toNat with strand := t }

/-- The strand context of the current agent. -/
def State.me (s : State) : Strand := s.strandOf s.cur
def State.setMe (s : State) (t : Strand) : State := s.setStrandOf s.cur t
def State.modMe (s : State) (f : Strand → Strand) : State := s.setMe (f s.me)

/-- The core of the current agent; porch strands have none and read as core 0's number, which nothing then uses. -/
def State.myCore (s : State) : Nat :=
  match s.cur with
  | .strand c _ => c.toNat
  | .porch _ => 0

/-- The strand number of the current agent. -/
def State.myStrand (s : State) : Nat :=
  match s.cur with
  | .strand _ k => k.toNat
  | .porch q => q.toNat % 16

def State.isPorch (s : State) : Bool :=
  match s.cur with
  | .strand _ _ => false
  | .porch _ => true

/-- The active plane of the current agent's core (R334). -/
def State.myPlane (s : State) : Option Plane :=
  match s.cur with
  | .strand c _ => (s.core c.toNat).active
  | .porch _ => none

/-- The partition an agent works for (R323, R325, R334). -/
def State.partOf (s : State) : Agent → Nat
  | .strand c _ => match (s.core c.toNat).active with | some p => p.part.toNat | none => 0
  | .porch q => (s.queueDesc q.toNat).part.toNat

/-- The batch group of a core's operator, if it is a step program (R333). -/
def State.groupOfCore (s : State) (c : Nat) : Option Nat :=
  match (s.core c).active with
  | some p => p.group.map BitVec.toNat
  | none => none

def State.myGroup (s : State) : Option Nat :=
  match s.cur with
  | .strand c _ => s.groupOfCore c.toNat
  | .porch _ => none

/-- The image an agent fetches from (R73, R325, R334). -/
def State.imageOf (s : State) : Agent → Option Image
  | .strand c _ => match (s.core c.toNat).active with
      | some p => s.images.find? (fun i => i.ident == p.image)
      | none => none
  | .porch q => s.images.find? (fun i => i.ident == (s.queueDesc q.toNat).image)

/-! ## Places (R31, R32) -/

def placeRow (p : Nat) : Nat := bits p 7 6
def placeCol (p : Nat) : Nat := bits p 0 7

/-- A place that names a present shaft (R31). -/
def State.present (s : State) (p : Nat) : Bool :=
  decide (placeRow p ≤ 31) && decide (placeCol p ≤ 63) && !(s.cfg.absent.contains p)

/-- A rectangle in the layout of R32. -/
structure Rect where
  row : Nat
  col : Nat
  rows : Nat
  cols : Nat
  deriving DecidableEq, Repr

def Rect.ofBits (v : Nat) : Rect := ⟨bits v 7 6, bits v 0 7, bits v 13 5 + 1, bits v 18 7 + 1⟩
/-- The rectangle lies within rows 0–31 and columns 0–63 (R32). -/
def Rect.fits (r : Rect) : Bool := decide (r.row + r.rows ≤ 32) && decide (r.col + r.cols ≤ 64)
def Rect.holds (r : Rect) (p : Nat) : Bool :=
  decide (r.row ≤ placeRow p) && decide (placeRow p < r.row + r.rows) &&
    decide (r.col ≤ placeCol p) && decide (placeCol p < r.col + r.cols)
/-- A rectangle of whole cores (R238). -/
def Rect.wholeCores (r : Rect) : Bool :=
  r.fits && r.row % 8 == 0 && r.col % 8 == 0 && r.rows % 8 == 0 && r.cols % 8 == 0
def Rect.within (a b : Rect) : Bool :=
  decide (b.row ≤ a.row) && decide (a.row + a.rows ≤ b.row + b.rows) &&
    decide (b.col ≤ a.col) && decide (a.col + a.cols ≤ b.col + b.cols)

/-- North-west array of core `c`: 8 d + 4 r + c (R266). -/
def coreOrigin (c : Nat) : Nat × Nat :=
  let d := c / 8
  (16 * (d / 2) + 8 * (c / 4 % 2), 32 * (d % 2) + 8 * (c % 4))

/-- The core that holds a place (R265, R266). -/
def coreOfPlace (row col : Nat) : Nat :=
  let d := 2 * (row / 16) + col / 32
  8 * d + 4 * (row % 16 / 8) + col % 32 / 8

/-- Place of array (i, j) of core `c` (R210, R266). -/
def corePlace (c i j : Nat) : Nat :=
  let o := coreOrigin c
  (o.1 + i) * 128 + (o.2 + j)

/-- The cores of a rectangle of whole cores, row-major from its north-west core (R35). -/
def Rect.cores (r : Rect) : List Nat :=
  (upto 0 (r.rows / 8)).flatMap (fun i => (upto 0 (r.cols / 8)).map (fun j => coreOfPlace (r.row + 8 * i) (r.col + 8 * j)))

/-- Index of core `c` within a partition's rectangle (R35, role 2). -/
def Rect.coreIndex (r : Rect) (c : Nat) : Nat :=
  let o := coreOrigin c
  (o.1 - r.row) / 8 * (r.cols / 8) + (o.2 - r.col) / 8

/-- The core south of core `c`, if the package has one (R212). -/
def southCore (c : Nat) : Option Nat :=
  let o := coreOrigin c
  if o.1 + 8 ≤ 31 then some (coreOfPlace (o.1 + 8) o.2) else none
def northCore (c : Nat) : Option Nat :=
  let o := coreOrigin c
  if 8 ≤ o.1 then some (coreOfPlace (o.1 - 8) o.2) else none

def dieOfCore (c : Nat) : Nat := c / 8

def State.partRect (s : State) (p : Nat) : Rect := Rect.ofBits (s.part p).rect.toNat

/-! ## Placed and pooled memory (R29, R244, R245, R271) -/

def State.placedBytes (s : State) : Nat := s.cfg.placedRows * 1024
def State.cellarBase (s : State) : Nat := (s.cfg.placedRows - s.cfg.cellarRows) * 1024
/-- The key of a placed byte: the .W address layout (R29). -/
def placedKey (place off : Nat) : Nat := place * 2 ^ 27 + off

/-- Number of a shaft in the order of R265: die by die, row-major. -/
def shaftIndex (p : Nat) : Nat :=
  512 * (2 * (placeRow p / 16) + placeCol p / 32) + 32 * (placeRow p % 16) + placeCol p % 32
/-- Place of a shaft by that number. -/
def shaftPlace (n : Nat) : Nat :=
  (16 * (n / 1024) + n % 512 / 32) * 128 + (32 * (n / 512 % 2) + n % 32)
def ShaftTel.reset : ShaftTel := ⟨0, 0, false, 0, 0⟩
def State.shaft (s : State) (n : Nat) : ShaftTel := s.shafts.get ShaftTel.reset n
def State.setShaft (s : State) (n : Nat) (t : ShaftTel) : State := { s with shafts := s.shafts.set ShaftTel.reset n t }

/-- Present shafts of a die (R265). -/
def State.presentShafts (s : State) (d : Nat) : Nat :=
  512 - (s.cfg.absent.filter (fun p => 2 * (placeRow p / 16) + placeCol p / 32 == d)).length
/-- A pooled physical address exists (R271). -/
def State.pooledOk (s : State) (pa : Nat) : Bool :=
  decide (pa < 2 ^ 38) &&
    decide (bits pa 0 36 < s.presentShafts (pa / 2 ^ 36) * ((98304 - s.cfg.placedRows) * 1024))

/-- The present shafts of a die, row-major (R265, R271). -/
def State.dieShafts (s : State) (d : Nat) : List Nat := (upto (512 * d) 512).filter (fun n => s.present (shaftPlace n))

/-- locate (R271): the shaft, the row and the byte in it of a pooled physical address. -/
def State.locate (s : State) (pa : Nat) : Option (Nat × Nat × Nat) :=
  if s.pooledOk pa then
    let shafts := s.dieShafts (bits pa 36 2)
    let n := shafts.length
    let b := bits pa 0 36
    let o := b / (256 * n) * 256 + b % 256
    shafts[b / 256 % n]?.map (fun k => (k, s.cfg.placedRows + o / 1024, o % 1024))
  else none

/-! ## Rows that cannot be read (R144, R320, R346) -/

/-- Row `row` of shaft number `n` has an uncorrectable error. -/
def State.badRow (s : State) (n row : Nat) : Bool := s.bad.get false (n * 2 ^ 17 + row)

/-- Some row of placed bytes [off, off + n) of a place has one. -/
def State.badPlaced (s : State) (place off n : Nat) : Bool :=
  !s.bad.isEmpty && (upto (off / 1024) ((off + n - 1) / 1024 - off / 1024 + 1)).any (s.badRow (shaftIndex place))

/-- The row of pooled bytes [pa, pa + n), which lie in one granule, has one. -/
def State.badPooled (s : State) (pa : Nat) : Bool :=
  !s.bad.isEmpty && (match s.locate pa with | some (k, row, _) => s.badRow k row | none => false)

/-- Home die of a pooled physical address (R271). -/
def homeDie (pa : Nat) : Nat := bits pa 36 2

/-! ## The coherent copy of a pooled byte (R274, R285): the L2s' line, else memory -/

def lineByte (d : BitVec 512) (i : Nat) : Byte := BitVec.ofNat 8 (d.toNat >>> (8 * i))
def setLineByte (d : BitVec 512) (i : Nat) (b : Byte) : BitVec 512 :=
  BitVec.ofNat 512 (putBits d.toNat (8 * i) 8 b.toNat)

def State.l2Line (s : State) (pline : Nat) : Option L2Line := s.l2.find? (fun l => l.pline == pline)

/-- One pooled byte as every party at .die or wider sees it. -/
def State.physByte (s : State) (pa : Nat) : Byte :=
  match s.l2Line (pa / 64) with
  | some l => lineByte l.data (pa % 64)
  | none => s.pooled.get 0 pa

/-- The bits of byte `off` of a group block that hold something; the others are reserved and read zero (R290). -/
def blockBits (off : Nat) : Nat := if off = 0 then 7 else if off < 4 ∨ 0x70 ≤ off then 0 else 255

/-- Where group 0's block lies in pooled memory (R290, log 4). -/
def blocksAt (c : Cfg) : Nat := match c.root0 with | none => c.groupBlocks | some _ => c.groupPhys

/-- `n` bytes stored at `pa`, without what falls on reserved bits of a group block (R7, R290). -/
def State.blockValue (s : State) (pa v : Nat) : Nat → Nat
  | 0 => 0
  | n + 1 =>
    let o := pa - blocksAt s.cfg
    let mine := decide (blocksAt s.cfg ≤ pa) && s.cfg.groups.any (fun e => e.1 == o / 256)
    (if mine then v % 256 &&& blockBits (o % 256) else v % 256) + 256 * s.blockValue (pa + 1) (v / 256) n

/-- `n` pooled bytes from `pa`, as a number. -/
def State.physNat (s : State) (pa : Nat) : Nat → Nat
  | 0 => 0
  | n + 1 => (s.physByte pa).toNat + 256 * s.physNat (pa + 1) n

/-- One byte written where the coherent copy is: the L2 line, which becomes dirty, else memory. -/
def State.setPhysByte (s : State) (pa : Nat) (b : Byte) : State :=
  match s.l2Line (pa / 64) with
  | some _ => { s with l2 := s.l2.map (fun l =>
      if l.pline == pa / 64 then { l with data := setLineByte l.data (pa % 64) b, dirty := true } else l) }
  | none => { s with pooled := s.pooled.set 0 pa b }

/-- The bytes of `v` whose bit of `keep` is 1, written from `pa` on. -/
def State.setPhys (s : State) (pa : Nat) : Nat → Nat → Nat → State
  | 0, _, _ => s
  | n + 1, v, keep =>
    (if keep % 2 = 1 then s.setPhysByte pa (BitVec.ofNat 8 v) else s).setPhys (pa + 1) n (v / 256) (keep / 2)

/-- The mask that keeps `n` bytes. -/
def allBytes (n : Nat) : Nat := 2 ^ n - 1

end Sys2Proof.Machine
end

