-- ==== Sys2Proof/Machine/Translate.lean ====
section
/-! DEFINITION. Address translation, shootdown, monitors and the performing of a pooled store (R168, R274, R280–R286). -/

namespace Sys2Proof.Machine

/-! ## Monitors (R166–R168) -/

/-- cond 0 .ne, 1 .eq, 2 .geu, 3 .ltu on zero-extended values (R166). -/
def monitorCond (cond : BitVec 2) (v w : Nat) : Bool :=
  match cond.toNat with
  | 0 => v != w
  | 1 => v == w
  | 2 => decide (w ≤ v)
  | _ => decide (v < w)

/-- The value a monitor compares with (R166). -/
def Monitor.want (m : Monitor) : Nat := m.operand.toNat % 2 ^ (8 * 2 ^ m.sz.toNat)

/-- A strand with the success of its monitor latched, when it watches some byte of [addr, addr + n) of `space` and its
condition holds on the bytes as `read` gives them: a wait completes on any value the bytes hold after arming (R168). -/
def Strand.note (space addr n : Nat) (read : Nat → Nat → Nat) (t : Strand) : Strand :=
  match t.run with
  | .parked (.monitor m) =>
    let k := 2 ^ m.sz.toNat
    if m.space.toNat = space ∧ m.addr < addr + n ∧ addr < m.addr + k ∧ monitorCond m.cond (read m.addr k) m.want then
      { t with run := .parked (.monitor { m with hit := true }) }
    else t
  | _ => t

def Core.note (space addr n : Nat) (read : Nat → Nat → Nat) (k : Core) : Core :=
  { k with strands := k.strands.map (fun e => (e.1, e.2.note space addr n read)) }

/-- Stores performed on scratchpad bytes of core `c` seen by its monitors. -/
def State.noteScratch (s : State) (c addr n : Nat) : State :=
  s.modCore c (fun k => k.note 0 addr n (fun a m => bytesAt k.scratch a m))

/-- Stores performed at .pkg on bytes of `space` (2 .G by physical address, 5 .Q) seen by every monitor. -/
def State.notePackage (s : State) (space addr n : Nat) (read : Nat → Nat → Nat) : State :=
  { s with
    cores := s.cores.map (fun e => (e.1, e.2.note space addr n read))
    porch := s.porch.map (fun e => (e.1, { e.2 with strand := e.2.strand.note space addr n read })) }

/-! ## Caches and shootdown (R273–R278, R284) -/

def dieBit (d : Nat) : BitVec 4 := BitVec.ofNat 4 (2 ^ d)

/-- The dies whose L2 holds a line, one bit each. -/
def L2Line.dies (l : L2Line) : BitVec 4 := l.holders.foldl (fun m h => m ||| dieBit h.die) 0

/-- The entry of a die, if its L2 holds the line. -/
def L2Line.holder (l : L2Line) (die : Nat) : Option Holder := l.holders.find? (fun h => h.die == die)

/-- A die's L2 takes a line that an L2 holds; alone when it takes it for writing (R274). A read by another die ends the
right to write. -/
def L2Line.take (l : L2Line) (h : Holder) (write : Bool) : L2Line :=
  let own := (l.holder h.die).getD h
  if write then { l with holders := [own], writer := some h.die }
  else
    { l with
      holders := if (l.holder h.die).isSome then l.holders else l.holders ++ [h]
      writer := if l.writer = some h.die then l.writer else none }

/-- The 64 bytes of a physical line at the L2s, or in memory when none holds it. -/
def State.l2Data (s : State) (pline : Nat) : BitVec 512 :=
  match s.l2Line pline with
  | some l => l.data
  | none => BitVec.ofNat 512 (bytesAt s.pooled (pline * 64) 64)

/-- The L2 of a die takes a line, filling it on a miss, under the address of the access (R274, R285). -/
def State.l2Take (s : State) (die : Nat) (asid : BitVec 12) (vline pline : Nat) (write : Bool) : State :=
  match s.l2Line pline with
  | some _ => { s with l2 := s.l2.map (fun l => if l.pline == pline then l.take ⟨die, asid, vline⟩ write else l) }
  | none =>
    { s with l2 := s.l2 ++ [⟨pline, [⟨die, asid, vline⟩], if write then some die else none, false, s.l2Data pline⟩] }

/-- The bytes of `l` whose bit of `mask` is 1, written to the coherent copy of its physical line. -/
def State.writeBytes (s : State) (pline : Nat) (data : BitVec 512) (mask : Nat) : State :=
  s.setPhys (pline * 64) 64 data.toNat mask

/-- The dirty bytes of an L1 line of core `c` taken by its die's L2 for writing (R274, R276), where they enter the coherence
order (R275) and monitors see them; `shoot` removes what a page-table line mapped (R284). -/
def State.writeBackWith (shoot : State → Nat → State) (s : State) (c : Nat) (l : L1Line) : State :=
  if l.dirty = 0 then s
  else
    let s := (shoot s l.pline).l2Take (c / 8) l.asid l.vline l.pline true
    let s := s.writeBytes l.pline l.data l.dirty.toNat
    s.notePackage 2 (l.pline * 64) 64 (fun a n => s.physNat a n)

/-- An L2 line that leaves: its bytes, when dirty, go to memory (R276, R286). -/
def State.dropL2 (s : State) (l : L2Line) : State :=
  let s := { s with l2 := s.l2.filter (fun m => m.pline != l.pline) }
  if l.dirty then { s with pooled := setBytes s.pooled (l.pline * 64) 64 l.data.toNat } else s

/-- An L2 line leaves the L2s of some dies: written to memory when dirty, gone when no die is left. -/
def State.leaveL2 (s : State) (l : L2Line) (gone : Holder → Bool) : State :=
  let left := l.holders.filter (fun h => !gone h)
  if left.isEmpty then s.dropL2 l
  else
    let s := if l.dirty then { s with pooled := setBytes s.pooled (l.pline * 64) 64 l.data.toNat } else s
    { s with l2 := s.l2.map (fun m => if m.pline == l.pline then { l with holders := left, writer := none, dirty := false } else m) }

/-- Every cached line of address space `asid` in [va, va + size) written back and removed, L1 first (R284). -/
def State.removeRange (shoot : State → Nat → State) (s : State) (asid : BitVec 12) (va size : Nat) : State :=
  let hits (a : BitVec 12) (vl : Nat) : Bool := a == asid && decide (va < vl * 64 + 64) && decide (vl * 64 < va + size)
  let s := s.cores.foldl (fun t (e : Nat × Core) =>
    (e.2.l1.filter (fun (l : L1Line) => hits l.asid l.vline)).foldl (fun t l => State.writeBackWith shoot t e.1 l) t) s
  let s := { s with cores := s.cores.map (fun (e : Nat × Core) => (e.1, { e.2 with l1 := e.2.l1.filter (fun (l : L1Line) => !hits l.asid l.vline) })) }
  let held (h : Holder) : Bool := hits h.asid h.vline
  (s.l2.filter (fun l => l.holders.any held)).foldl (fun s l => s.leaveL2 l held) s

/-- The shootdown of a physical line; a line it writes back may itself hold page-table entries, so it nests at most as
deep as walkers have read lines. -/
def State.shootFrom : Nat → State → Nat → State
  | 0, s, _ => s
  | fuel + 1, s, pline =>
    let gone := s.walked.filter (fun w => w.1 == pline)
    gone.foldl (fun s w => State.removeRange (State.shootFrom fuel) s w.2.1 w.2.2.1 w.2.2.2)
      { s with walked := s.walked.filter (fun w => w.1 != pline) }

/-- Before a store to a line a walker has read is performed, every mapping derived from that line leaves the caches
(R284). -/
def State.shootdown (s : State) (pline : Nat) : State := State.shootFrom (s.walked.length + 1) s pline

/-- The dirty bytes of an L1 line of core `c` reach the L2 (R276). -/
def State.writeBackL1 (s : State) (c : Nat) (l : L1Line) : State := State.writeBackWith State.shootdown s c l

/-- A store from outside the L2s is performed at the L2 that holds the line for writing, or at memory when no L2 holds it
(R279). Of several that share it one takes it for writing, so that every other die's copy is invalidated (R274). -/
def L2Line.alone (l : L2Line) : L2Line :=
  match l.holders with
  | h :: _ => if l.writer.isSome then l else { l with holders := [h], writer := some h.die }
  | [] => l
def State.takeLine (s : State) (pline : Nat) : State :=
  { s with l2 := s.l2.map (fun l => if l.pline == pline then l.alone else l) }

/-! ## The walk (R280–R282) -/

/-- How a translation ends: a physical address with its policy and write right, not present at an entry, or an entry
beyond pooled memory (R282). -/
inductive WalkRes where
  | ok (pa pol : Nat) (wr : Bool)
  | notPresent (entry : Nat)
  | beyond
  deriving DecidableEq, Repr

def State.rootOf (s : State) (asid : Nat) : Option Nat :=
  if asid = 0 then s.cfg.root0
  else (s.parts.find? (fun e => e.2.asid.toNat == asid)).map (fun e => e.2.root)

/-- Shift and index width of each level (R281). -/
def walkLevels : List (Nat × Nat × Nat) := [(0, 39, 13), (1, 30, 9), (2, 21, 9), (3, 16, 5)]

/-- The walker's update of a page-table entry: indivisible, at .pkg, seen by the monitors (R168, R274, R282). -/
def State.updateEntry (s : State) (ea e : Nat) : State :=
  ((s.takeLine (ea / 64)).setPhys ea 8 e (allBytes 8)).notePackage 2 ea 8 (fun a m => s.physNat a m)

/-- walk from table `t` through the remaining levels (R282). -/
def State.walkFrom (s : State) (asid va : Nat) (store : Bool) : List (Nat × Nat × Nat) → Nat → WalkRes × State
  | [], t => (.notPresent t, s)
  | (lvl, sh, w) :: rest, t =>
    let ea := t + 8 * bits va sh w
    let w := (ea / 64, BitVec.ofNat 12 asid, va / 2 ^ sh * 2 ^ sh, 2 ^ sh)
    let s := if s.walked.contains w then s else { s with walked := w :: s.walked }
    if !s.pooledOk ea then (.beyond, s)
    else
      let e := s.physNat ea 8
      let addr := bits e 8 30 * 256
      let pol := bits e 4 2
      if !(bit e 0) || bits e 38 26 != 0 || bit e 3 then (.notPresent ea, s)
      else if bit e 1 then
        if lvl = 0 ∨ 1 < pol ∨ addr % 2 ^ sh ≠ 0 then (.notPresent ea, s)
        else
          let wr := bit e 2
          let e' := putBits (putBits e 6 1 1) 7 1 (if store || bit e 7 then 1 else 0)
          (.ok (addr + va % 2 ^ sh) pol wr, if e' = e then s else s.updateEntry ea e')
      else if lvl = 3 ∨ pol ≠ 0 ∨ bit e 2 then (.notPresent ea, s)
      else s.walkFrom asid va store rest addr

/-- Translation of a .G address (R282). Address space 0 without a root names physical addresses (log 4). -/
def State.walk (s : State) (asid va : Nat) (store : Bool) : WalkRes × State :=
  match s.rootOf asid with
  | some t => s.walkFrom asid va store walkLevels t
  | none => if asid = 0 then (.ok va 0 true, s) else (.notPresent 0, s)

/-! ## Pooled stores performed at .pkg -/

/-- A store performed at the coherent copy (R274): the shootdown of R284 first, then the bytes, then the monitors. -/
def State.storePhys (s : State) (pa n v keep : Nat) : State :=
  let s := s.shootdown (pa / 64)
  let s := (s.takeLine (pa / 64)).setPhys pa n (s.blockValue pa v n) keep
  s.notePackage 2 pa n (fun a m => s.physNat a m)

/-- The walk for an address-space-0 structure of the device (R282): its physical address, none where it is unmapped, or
read-only for a write, and the state with the entry's acc and dty bits. -/
def State.as0 (s : State) (va : Nat) (store : Bool) : Option Nat × State :=
  match s.walk 0 va store with
  | (.ok pa _ wr, s) => (if s.pooledOk pa && (wr || !store) then some pa else none, s)
  | (_, s) => (none, s)

/-- `n` bytes of a device structure in address space 0; bytes that no page maps read 0 (log 4). -/
def State.as0Nat (s : State) (va n : Nat) : Nat :=
  match (s.as0 va false).1 with
  | some pa => s.physNat pa n
  | none => 0

/-- The state after the device has read a structure in address space 0: the walk has set acc (R282). -/
def State.readAs0 (s : State) (va : Nat) : State := (s.as0 va false).2

/-- A device structure in address space 0 written at .pkg; an unmapped or read-only one is not written (log 4). -/
def State.setAs0 (s : State) (va n v : Nat) : State :=
  match s.as0 va true with
  | (some pa, s) => s.storePhys pa n v (allBytes n)
  | (none, s) => s

/-- The physical places of the status words of the queues in use (R326). -/
def State.qstatWords (s : State) : List Nat :=
  (s.cfg.queues.filter (fun e => e.2.en)).filterMap (fun e => (s.as0 (e.2.hdr + 0x20) false).1)

/-- Those of `n` bytes at `pa` that a store of a strand, the host or a peer may write: not the qstat words, which are
read-only to them (R6, R326). -/
def State.roKeep (s : State) (pa n : Nat) : Nat :=
  let words := s.qstatWords
  (upto 0 n).foldl (fun m i => if words.any (fun w => decide (w ≤ pa + i) && decide (pa + i < w + 8)) then m else m + 2 ^ i) 0

end Sys2Proof.Machine
end

