-- ==== Sys2Proof/Machine/Pages.lean ====
section
/-! DEFINITION. Request-record fields and page lists as memory holds them (spec/01_machine_state.md, R38;
spec/07_engine_commands.md, R226), and the poisoning of a page (spec/10_requests_steps_ticks.md, R319). -/

namespace Sys2Proof.Machine

/-! ## Records and placed bytes -/

/-- A field of record `r` at byte `off`. -/
def State.recField (s : State) (r off n : Nat) : Nat := bytesAt s.records (256 * r + off) n

def State.placedNat (s : State) (addr n : Nat) : Nat := bytesAt s.placed addr n
def State.setPlaced (s : State) (addr n v : Nat) : State := { s with placed := setBytes s.placed addr n v }


/-! ## Page lists (R226) -/

/-- kv_list[h] and kv_heads of a record. -/
def State.kvList (s : State) (r h : Nat) : Nat := s.recField r (0x90 + 8 * h) 8
def State.kvHeads (s : State) (r : Nat) : Nat := s.recField r 0x1E 1

def State.kvPages (s : State) (l : Nat) : Nat := s.placedNat l 2
def State.kvCap (s : State) (l : Nat) : Nat := s.placedNat (l + 2) 2
def State.kvFree (s : State) (l : Nat) : Nat := s.placedNat (l + 8) 8
/-- The address of entry i of the list at l. -/
def kvEntry (l i : Nat) : Nat := l + 16 + 32 * i

def State.entAddr (s : State) (e : Nat) : Nat := s.placedNat e 8
def State.entSurv (s : State) (e : Nat) : Nat := s.placedNat (e + 8) 8
def State.entFlags (s : State) (e : Nat) : Nat := s.placedNat (e + 24) 8
def State.entPinned (s : State) (e : Nat) : Bool := bit (s.entFlags e) 0
def State.entSpilled (s : State) (e : Nat) : Bool := bit (s.entFlags e) 1
def State.entPoisoned (s : State) (e : Nat) : Bool := bit (s.entFlags e) 2
def State.entUsed (s : State) (e : Nat) : Nat := bits (s.entFlags e) 8 8
def State.entPos (s : State) (e : Nat) : Nat := bits (s.entFlags e) 16 48

/-- The entries of a list. -/
def State.kvEntries (s : State) (l : Nat) : List Nat := (upto 0 (s.kvPages l)).map (kvEntry l)

/-- The entry at e names the row: its 16 KiB page lies there. -/
def State.entNames (s : State) (e : Nat) (x : Nat × Nat) : Bool :=
  let a := s.entAddr e
  !s.entSpilled e && a / 2 ^ 27 == x.1 && decide (a % 2 ^ 27 / 1024 ≤ x.2 ∧ x.2 < a % 2 ^ 27 / 1024 + 16)

/-- The page-list entries of record r. -/
def State.recEntries (s : State) (r : Nat) : List Nat :=
  (upto 0 (min (s.kvHeads r) 8)).flatMap (fun h => s.kvEntries (s.kvList r h))

/-! ## Poisoned pages (R319) -/

/-- An entry marked poisoned. -/
def State.poisonEntry (s : State) (e : Nat) : State := s.setPlaced (e + 24) 8 (putBits (s.entFlags e) 2 1 1)

/-- The entries of page lists of requests whose pages hold some byte of row `row` of place `p`. -/
def State.entriesOf (s : State) (x : Nat × Nat) : List Nat :=
  ((upto 0 4096).filter (fun r => s.recField r 0x00 1 != 0)).flatMap (fun r => (s.recEntries r).filter (fun e => s.entNames e x))

/-- An uncorrectable error reported on bytes [addr, addr + n) of placed memory: the pages there that cannot be read whole are
marked in the lists of the requests that hold them (R319). -/
def State.poison (s : State) (addr n : Nat) : State :=
  let p := addr / 2 ^ 27
  let row := addr % 2 ^ 27 / 1024
  ((upto row ((addr % 2 ^ 27 + n - 1) / 1024 - row + 1)).filter (fun r => s.badRow (shaftIndex p) r)).foldl
    (fun s r => (s.entriesOf (p, r)).foldl State.poisonEntry s) s

end Sys2Proof.Machine
end

