-- ==== Sys2Proof/Machine/Ops.lean ====
section
/-! DEFINITION. The named operations on a strand: its registers (R12–R17), taking a fault and returning from a trap
(R22, R75, R90, R145, R241, R242, R332), moving on (R75–R77), and how one instruction runs: its checks, its guard, its
interlock, its effect (R81, R86, R128, R143). -/

namespace Sys2Proof.Machine

/-! ## Registers -/

/-- x[n]; x0 reads zero (R12). -/
def Strand.rx (t : Strand) (n : BitVec 5) : DWord := if n = 0 then 0 else t.x.get 0 n.toNat
/-- x[n] := v; a write to x0 is ignored (R12). -/
def Strand.wx (t : Strand) (n : BitVec 5) (v : DWord) : Strand := if n = 0 then t else { t with x := t.x.set 0 n.toNat v }

/-- phys_p (R15). -/
def Strand.physP (t : Strand) (n : Nat) : Nat :=
  if 64 ≤ n ∧ n < 64 + t.pn then 64 + (((n : Int) - 64 - t.pbase.toNat) % t.pn).toNat else n
/-- phys_v (R15). -/
def Strand.physV (t : Strand) (n : Nat) : Nat :=
  if 32 ≤ n ∧ n < 32 + t.vn then 32 + (((n : Int) - 32 - t.vbase.toNat) % t.vn).toNat else n

/-- p[n] through the rotation; p0 reads all ones (R13). -/
def Strand.rp (t : Strand) (n : Nat) : Pred := if t.physP n = 0 then BitVec.allOnes 1024 else t.p.get 0 (t.physP n)
/-- p[n] := v; a write to p0 is ignored (R13). -/
def Strand.wp (t : Strand) (n : Nat) (v : Pred) : Strand :=
  if t.physP n = 0 then t else { t with p := t.p.set 0 (t.physP n) v }

/-- A command register. -/
def Strand.rk (t : Strand) (n : Nat) : KWord := t.k.get 0 n
def Strand.wk (t : Strand) (n : Nat) (v : KWord) : Strand := { t with k := t.k.set 0 n v }
/-- The `n` command registers from kj as one number, register kj lowest (R12). -/
def Strand.macroBits (t : Strand) (j : Nat) : Nat → Nat
  | 0 => 0
  | n + 1 => (t.rk j).toNat + 2 ^ 128 * t.macroBits (j + 1) n
/-- Stores a macro of `n` registers at kj. -/
def Strand.setMacro (t : Strand) (j : Nat) : Nat → Nat → Strand
  | 0, _ => t
  | n + 1, v => (t.wk j (BitVec.ofNat 128 v)).setMacro (j + 1) n (v / 2 ^ 128)

/-- Bits raised in fstat stay until a write (R21). -/
def Strand.raise (t : Strand) (f : Flags) : Strand := { t with fstat := t.fstat ||| f }

/-- One step of both rotating regions (R16). -/
def Strand.advance (t : Strand) : Strand :=
  { t with
    pbase := if 0 < t.pn then BitVec.ofNat 6 ((t.pbase.toNat + 1) % t.pn) else t.pbase
    vbase := if 0 < t.vn then BitVec.ofNat 5 ((t.vbase.toNat + 1) % t.vn) else t.vbase }

/-- The predicate bits of a guard: the 4-bit guard names p0–p7 and p64–p71, the 7-bit guard p0–p127 (R81). -/
def guardName4 (g : BitVec 4) : Nat := if g.toNat < 8 then g.toNat else 64 + (g.toNat - 8)
def Strand.mask4 (t : Strand) (g : BitVec 4) : Pred := t.rp (guardName4 g)
def Strand.mask7 (t : Strand) (g : BitVec 7) : Pred := t.rp g.toNat
/-- A scalar instruction executes when bit 0 of its guard is 1 (R13, R81). -/
def State.guard4 (s : State) (g : BitVec 4) : Bool := (s.me.mask4 g).getLsbD 0
def State.guard7 (s : State) (g : BitVec 7) : Bool := (s.me.mask7 g).getLsbD 0

def State.rx (s : State) (n : BitVec 5) : DWord := s.me.rx n
def State.wx (s : State) (n : BitVec 5) (v : DWord) : State := s.modMe (fun t => t.wx n v)
/-- x[n] as an unsigned and as a signed number (R104). -/
def State.ux (s : State) (n : BitVec 5) : Nat := (s.rx n).toNat
def State.sx (s : State) (n : BitVec 5) : Int := (s.rx n).toInt

/-! ## The pc -/

/-- The pc register: line above slot (R18). -/
def pcBits (line : Line) (slot : Slot) : BitVec 25 := line ++ slot
def pcLine (pc : BitVec 25) : Line := BitVec.ofNat 21 (pc.toNat / 16)
def pcSlot (pc : BitVec 25) : Slot := BitVec.ofNat 4 pc.toNat
def Strand.pc (t : Strand) : BitVec 25 := pcBits t.line t.slot
def Strand.setPc (t : Strand) (line : Line) (slot : Slot) : Strand := { t with line := line, slot := slot }
def Strand.goTo (t : Strand) (pc : BitVec 25) : Strand := t.setPc (pcLine pc) (pcSlot pc)
def State.setPc (s : State) (line : Line) (slot : Slot) : State := s.modMe (fun t => t.setPc line slot)

/-- Word `slot` of line `line` of an image; slot 0 is the link word (R73). -/
def State.imageWord (s : State) (img : Image) (line slot : Nat) : Word :=
  BitVec.ofNat 32 (s.physNat (img.base + 64 * line + 4 * slot) 4)

/-- The link word of the current line. -/
def State.myLink (s : State) : Word :=
  match s.imageOf s.cur with
  | some img => s.imageWord img s.me.line.toNat 0
  | none => 0x1FFFFF

def linkNext (w : Word) : Line := BitVec.ofNat 21 w.toNat
def linkOwner (w : Word) : Nat := bits w.toNat 28 4
def linkBstart (w : Word) : Bool := bit w.toNat 26
/-- The line that names no next (R73). -/
def endOfChain : Line := 0x1FFFFF

/-- The next line of the chain, if any. -/
def State.nextLine (s : State) : Option Line :=
  if linkNext s.myLink = endOfChain then none else some (linkNext s.myLink)

/-! ## Faults -/

/-- What an instruction raises: fault(code, info) of R90, with the class and full address of an access. -/
structure Raise where
  code : BitVec 8
  info : BitVec 40
  cls : BitVec 4
  addr : DWord
  prec : BitVec 2
  deriving DecidableEq, Repr

/-- A fault that is no access's. Where the spec names no info, it is 0 (log 11). -/
def raise (code : BitVec 8) (info : Nat := 0) : Raise := ⟨code, BitVec.ofNat 40 info, 0, 0, 0⟩
/-- A precise fault of an access (R145): info is the low 40 bits of the address. -/
def raiseAt (code : BitVec 8) (addr : Nat) (cls : BitVec 4) : Raise :=
  ⟨code, BitVec.ofNat 40 addr, cls, BitVec.ofNat 64 addr, 0⟩

/-- The fault register's value for a record (R21, R22). -/
def FaultRecord.summary (r : FaultRecord) : DWord :=
  (r.info ++ r.source ++ r.cls ++ r.prec ++ (0 : BitVec 6) ++ r.code).setWidth 64

/-- The `where` word (R342): pc, strand, core; a porch strand gives its pc alone (log 11). -/
def agentPlace (a : Agent) (pc : BitVec 25) : DWord :=
  match a with
  | .strand c k => (c ++ k ++ pc).setWidth 64
  | .porch _ => pc.setWidth 64

/-- The record of a fault of agent `a` at `pc`, raised now (R90, R342). -/
def State.recordOf (s : State) (a : Agent) (pc : BitVec 25) (r : Raise) : FaultRecord :=
  { code := r.code, info := r.info, source := (match a with | .strand _ _ => 15 | .porch _ => 14), cls := r.cls,
    prec := r.prec, addr := r.addr, lo := 0, hi := 0, place := agentPlace a pc, time := BitVec.ofNat 64 s.tai }

/-- Frees the issue slot if strand `k` of core `c` holds it (R336). -/
def State.freeSlot (s : State) (c k : Nat) : State :=
  s.modCore c (fun co => if co.holder = some (BitVec.ofNat 3 k) then { co with holder := none } else co)

/-- Puts an event into a partition's event area (R328). -/
def State.addEvent (s : State) (p : Nat) (e : Event) : State :=
  s.setPart p { s.part p with events := (s.part p).events ++ [e] }

/-- The first fault that halts a strand of an operator is its completion code (R335), kept in every core of it. -/
def State.noteOpFault (s : State) (c : Nat) (code : BitVec 8) : State :=
  let mine := (s.core c).active.map (fun p => p.record)
  { s with cores := s.cores.map (fun e =>
      if (e.1 = c ∨ (mine.isSome ∧ e.2.active.map (fun p => p.record) = mine)) ∧ e.2.opFault = 0 then
        (e.1, { e.2 with opFault := code })
      else e) }

/-- A record sent to the porch halts the strand (R241, R343). -/
def State.haltToPorch (s : State) (c k : Nat) (r : FaultRecord) : State :=
  let p := s.partOf (.strand (BitVec.ofNat 5 c) (BitVec.ofNat 3 k))
  let s := s.modCore c (fun co => co.setStrand k { co.strand k with run := .trapped })
  ((s.noteOpFault c r.code).freeSlot c k).addEvent p ⟨3, r⟩

/-- A record that a strand cannot take: the strand halts, the record goes to the porch (R241). -/
def State.porchRecord (s : State) (c k : Nat) (r : FaultRecord) : State :=
  (s.modCore c (fun co => co.setStrand k { co.strand k with fault := r.summary, record := r })).haltToPorch c k r

/-- Takes a record on a strand (R22, R241): into the handler, or to the porch. `tpc` is the return address. What the strand was
about to pass over is kept until the handler returns (R243). -/
def State.takeRecord (s : State) (c k : Nat) (tpc : BitVec 25) (r : FaultRecord) : State :=
  let t := (s.core c).strand k
  if t.trapEn && !t.trapIn then
    let t := { t with
      fault := r.summary, record := r, tpc := tpc, trapIn := true, run := .ready, outer := t.pass, pass := Passing.none }
    s.modCore c (fun co => co.setStrand k (t.goTo t.tvec))
  else s.porchRecord c k r

/-- The qstat word of a host queue (R326). -/
def PorchQueue.qstat (q : PorchQueue) (part : BitVec 3) : Nat :=
  q.pdone.toNat + q.pcode.toNat * 2 ^ 8 + q.rung.toNat * 2 ^ 16 + part.toNat * 2 ^ 18 +
    (if q.stopped then 2 ^ 21 else 0) + (if q.saved then 2 ^ 22 else 0) + q.pfault.toNat * 2 ^ 40

/-- The porch writes qstat (R327). -/
def State.writeQstat (s : State) (q : Nat) : State :=
  let d := s.queueDesc q
  s.setAs0 (d.hdr + 0x20) 8 ((s.porchQueue q).qstat d.part)

/-- A fault of a porch run ends it and stops the queue (R332). -/
def State.porchFault (s : State) (q : Nat) (code : BitVec 8) : State :=
  let p := s.porchQueue q
  (s.setPorchQueue q { p with
    running := false, stopped := true, pfault := code, strand := { p.strand with run := .absent } }).writeQstat q

/-- A precise fault of the current instruction: the one operation by which an instruction takes an exception (R90,
R145, R241, R332). -/
def State.takeFault (s : State) (r : Raise) : State :=
  match s.cur with
  | .strand c k => s.takeRecord c.toNat k.toNat s.me.pc (s.recordOf s.cur s.me.pc r)
  | .porch q => s.porchFault q.toNat r.code

/-- Where a strand at `pc` goes on after it has handled a record kept for it: a precise fault at the faulting instruction, an
engine's record at the first instruction not yet executed (R241). -/
def FaultRecord.returnTo (r : FaultRecord) (pc : BitVec 25) : BitVec 25 := if r.source = 15 then r.place.setWidth 25 else pc

/-- The records kept for a strand that is now at an instruction boundary outside its handler (R241): the first is taken, up to
four wait inside the handler; what the strand cannot take halts it and goes to the porch. -/
def State.takeKept (s : State) (c k : Nat) : State :=
  let t := (s.core c).strand k
  match t.queued with
  | [] => s
  | r :: rest =>
    if t.trapIn then s
    else
      let n := if t.trapEn then 4 else 0
      let s := (s.modCore c (fun co => co.setStrand k { t with queued := rest.take n })).takeRecord c k (r.returnTo t.pc) r
      (rest.drop n).foldl (fun s r => s.porchRecord c k r) s

/-- Return from a trap (R242): in := 0 and control to `pc`; a queued record is taken at once, before the instruction
there. -/
def State.leaveHandler (s : State) (pc : BitVec 25) : State :=
  match s.cur with
  | .strand c k =>
    (s.setMe ({ s.me with trapIn := false, pass := s.me.outer, outer := Passing.none }.goTo pc)).takeKept c.toNat k.toNat
  | .porch _ => s

/-- A record for strand k of core c, with the return address it has when taken now; `own` when an instruction of the handler
raised it (R207, R241). At this instruction boundary it is taken, waking a parked strand; inside a handler it is kept in
order, up to four, and a fifth halts the strand; with in = 1 and en = 0 it halts the strand at once, as R241's pseudocode has
it; a strand that the debugger has halted outside a handler keeps it until its release (DESIGN CHOICE, log 60). -/
def State.deliver (s : State) (c k : Nat) (tpc : BitVec 25) (own : Bool) (r : FaultRecord) : State :=
  let t := (s.core c).strand k
  let keep := s.modCore c (fun co => co.setStrand k { t with queued := t.queued ++ [r] })
  if t.trapIn then (if t.trapEn && !own && decide (t.queued.length < 4) then keep else s.porchRecord c k r)
  else if t.run = .debugged then keep
  else s.takeRecord c k tpc r

/-- A record of an engine for a strand (R207, R241). -/
def State.deliverRecord (s : State) (c k : Nat) (r : FaultRecord) : State :=
  s.deliver c k ((s.core c).strand k).pc false r

/-! ## Moving on -/

/-- The slot after a one- or two-word instruction at the current pc, `none` past the end of the chain (R75). -/
def State.successor (s : State) (len : Nat) : Option (Line × Slot) :=
  let n := s.me.slot.toNat + len
  if n ≤ 15 then some (s.me.line, BitVec.ofNat 4 n)
  else s.nextLine.map (fun l => (l, 1))

/-- The instruction at the pc has been executed: a breakpoint that was passed there is passed no more (R243). -/
def State.passed (s : State) : State :=
  if s.me.pass = Passing.none then s else s.modMe (fun t => { t with pass := Passing.none })

/-- Sequential flow past the end of the chain (R75): fault 0x01, info the pc of the last instruction. That instruction has
been executed and its pc is also the return address, so that RTT mode 0 executes it again (DESIGN CHOICE, log 76). While loads
before the fault have not completed (R145) the strand stays there and issues nothing. -/
def State.endChain (s : State) : State :=
  if s.me.far.isEmpty then s.takeFault (raise 0x01 s.me.pc.toNat)
  else s.modMe (fun t => { t with pass := ⟨none, some t.pc⟩ })

/-- Sequential flow (R75). -/
def State.seqNext (s : State) (len : Nat) : State :=
  match s.successor len with
  | some (l, sl) => s.setPc l sl
  | none => s.endChain

/-- The current strand gives up the issue slot (R336). -/
def State.giveSlot (s : State) : State :=
  match s.cur with
  | .strand c k => s.freeSlot c.toNat k.toNat
  | .porch _ => s

/-- The current strand parks at its instruction (R128, R130). -/
def State.park (s : State) (w : WaitFor) : State := (s.modMe (fun t => { t with run := .parked w })).giveSlot

/-- An interlock of a porch run is no issue that its budget counts (R332). -/
def State.notIssued (s : State) : State :=
  match s.cur with
  | .strand _ _ => s
  | .porch q => s.setPorchQueue q.toNat { s.porchQueue q.toNat with issued := (s.porchQueue q.toNat).issued - 1 }

/-- A memory switch (R143): the slot is given up until the values that the instruction needs return. -/
def State.memorySwitch (s : State) (uses : List (BitVec 5)) : State :=
  match s.cur with
  | .strand _ _ => (s.modMe (fun t => { t with run := .memory (uses.filter t.inflight.contains) })).giveSlot
  | .porch _ => s.notIssued

/-- A waiting instruction whose wait is over, from its own pc: slot 1 of the next line (R77); past the end of the chain
the resuming fetch faults by R75. -/
def State.resumeNext (s : State) : State :=
  match s.nextLine with
  | some l => s.setPc l 1
  | none => s.endChain

/-- A waiting instruction of the current strand completes: the count goes back to 0 when it is a YIELD or a WAIT (R23,
R132), the strand is ready, the slot is free (R336). -/
def State.completeWait (s : State) (resets : Bool) : State :=
  let s := s.passed.modMe (fun t => { t with run := .ready, wcount := if resets then 0 else t.wcount })
  s.giveSlot.resumeNext

/-! ## How an instruction runs -/

/-- An instruction that completed without a transfer of control. -/
def State.retire (s : State) (len : Nat) : State := s.passed.seqNext len

/-- A precise fault of the instruction being issued. Every instruction before it has completed (R145): while a load of the
fabric is under way it issues again. -/
def State.failIssue (s : State) (r : Raise) : State := if s.me.far.isEmpty then s.takeFault r else s.notIssued

/-- How the operation of an instruction ends. -/
inductive Done where
  /-- It is complete; sequential flow. -/
  | next (s : State)
  /-- Control goes to a target. -/
  | jump (s : State) (line : Line) (slot : Slot)
  /-- It did nothing this clk and issues again: an interlock. -/
  | again (s : State)
  /-- A waiting instruction whose condition holds; whether it resets the watchdog. -/
  | resume (s : State) (resets : Bool)
  /-- A waiting instruction whose condition does not hold. -/
  | park (s : State) (w : WaitFor)
  /-- Nothing more to do: control has been settled. -/
  | settled (s : State)
  /-- A precise fault. -/
  | fault (s : State) (r : Raise)

def Done.state : Done → State
  | .next s => s
  | .jump s _ _ => s
  | .again s => s
  | .resume s _ => s
  | .park s _ => s
  | .settled s => s
  | .fault s _ => s

/-- The state after an instruction of `len` words ended so. -/
def Done.finish (len : Nat) : Done → State
  | .next s => s.retire len
  | .jump s l sl => s.passed.setPc l sl
  | .again s => s.notIssued
  | .resume s r => s.completeWait r
  | .park s w => s.park w
  | .settled s => s
  | .fault s r => s.failIssue r

/-- The current strand needs the destination of a load that has not returned (R143). -/
def State.waitsFor (s : State) (uses : List (BitVec 5)) : Bool := uses.any (fun r => s.me.inflight.contains r)

/-- One instruction (R81, R86): the operand checks whatever the guard; nothing more when the guard bit is 0; a memory
switch when a register it names has not arrived; else its operation. -/
def State.run (s : State) (len : Nat) (check : Option Raise) (guard : Bool) (uses : List (BitVec 5))
    (op : State → Done) : Out :=
  .next (match check with
    | some r => s.failIssue r
    | none =>
      if guard then (if s.waitsFor uses then s.memorySwitch uses else (op s).finish len)
      else s.retire len)

/-- The check of R77: the line after a waiting instruction begins a block. A next line beyond the image is left to the
resuming fetch, which takes 0x06 (DESIGN CHOICE, log 69). -/
def State.blockEnd (s : State) : Option Raise :=
  match s.nextLine with
  | none => none
  | some l =>
    match s.imageOf s.cur with
    | some img => if decide (img.nlines ≤ l.toNat) || linkBstart (s.imageWord img l.toNat 0) then none else some (raise 0x02)
    | none => none

/-- A waiting instruction (R77, R128): the block-end check whatever the guard; with guard bit 0 it continues at the next
line, keeping slot and count. -/
def State.runWait (s : State) (check : Option Raise) (guard : Bool) (uses : List (BitVec 5)) (op : State → Done) : Out :=
  .next (match check.or s.blockEnd with
    | some r => s.failIssue r
    | none =>
      if guard then (if s.waitsFor uses then s.memorySwitch uses else (op s).finish 1)
      else s.passed.resumeNext)

/-- The value of an instruction written to x[d]. -/
def State.put (s : State) (d : BitVec 5) (v : DWord) : Done := .next (s.wx d v)

/-- x[d] := v with the flags the operation raises (R21, R52). -/
def State.putF (s : State) (d : BitVec 5) (v : DWord) (f : Flags) : Done := .next (s.modMe (fun t => (t.wx d v).raise f))

end Sys2Proof.Machine
end

