-- ==== Sys2Proof/Machine/Operands.lean ====
section
/-! DEFINITION. Operand forms: values formed from scalar operands (R104, R108–R116), the special registers (R18,
R118), memory operands (R82, R83, R138, R140), vector operands (R14, R15) and macro fields (R12). -/

namespace Sys2Proof.Machine

/-! ## Scalar values -/

/-- sh := x[b][5:0] (R108). -/
def shiftAmount (b : DWord) : Nat := bits b.toNat 0 6
/-- Comparisons write 1 when true and 0 when false (R110). -/
def truth (c : Bool) : DWord := if c then 1 else 0
/-- An exact product shifted right by 64, its low 64 bits (R108). -/
def highProduct (a b : Int) : DWord := dword ((a * b).fdiv (2 ^ 64))
/-- sext of the low 32 bits (R108). -/
def wordSext (v : DWord) : DWord := (v.setWidth 32).signExtend 64

/-- div (R109). -/
def divSigned (a b : DWord) : DWord :=
  if b = 0 then BitVec.allOnes 64
  else if a.toInt = -2 ^ 63 ∧ b.toInt = -1 then a
  else dword (a.toInt.tdiv b.toInt)
/-- divu (R109). -/
def divUnsigned (a b : DWord) : DWord := if b = 0 then BitVec.allOnes 64 else BitVec.ofNat 64 (a.toNat / b.toNat)
/-- rem (R109). -/
def remSigned (a b : DWord) : DWord :=
  if b = 0 then a
  else if a.toInt = -2 ^ 63 ∧ b.toInt = -1 then 0
  else dword (a.toInt - b.toInt * a.toInt.tdiv b.toInt)
/-- remu (R109). -/
def remUnsigned (a b : DWord) : DWord := if b = 0 then a else BitVec.ofNat 64 (a.toNat % b.toNat)

/-- Number of leading zeros; 64 for zero (R111). -/
def leadingZeros (v : DWord) : DWord := if v = 0 then 64 else BitVec.ofNat 64 (63 - Nat.log2 v.toNat)
/-- Number of trailing zeros; 64 for zero (R111). -/
def trailingZeros (v : DWord) : DWord := BitVec.ofNat 64 (((upto 0 64).find? (fun i => v.getLsbD i)).getD 64)
/-- Number of 1 bits (R111). -/
def countOnes (n : Nat) (v : Nat) : Nat := ((upto 0 n).filter (fun i => v.testBit i)).length
def oneBits (v : DWord) : DWord := BitVec.ofNat 64 (countOnes 64 v.toNat)
/-- The eight bytes in reverse order (R111). -/
def byteReverse (v : DWord) : DWord :=
  BitVec.ofNat 64 ((upto 0 8).foldl (fun acc i => acc * 256 + bits v.toNat (8 * i) 8) 0)

/-- The register field descriptor: pos and wd (R111). -/
def fieldPos (b : DWord) : Nat := bits b.toNat 0 6
def fieldWidth (b : DWord) : Nat := bits b.toNat 8 6 + 1
/-- zext(u(v) >> pos, wd) (R111). -/
def fieldExtract (v : DWord) (pos wd : Nat) : DWord := BitVec.ofNat 64 (bits v.toNat pos wd)
/-- sext(u(v) >> pos, wd) (R111). -/
def fieldExtractSigned (v : DWord) (pos wd : Nat) : DWord := dword (sextNat (v.toNat >>> pos) wd)
/-- `old` with [pos + wd − 1 : pos] := zext(v, wd); bits above 63 are dropped (R111). -/
def fieldInsert (old v : DWord) (pos wd : Nat) : DWord := BitVec.ofNat 64 (putBits old.toNat pos wd v.toNat)

/-- Field i of the work identifier (R19, R116). -/
def Strand.widField (t : Strand) (i : Nat) : Nat := bits t.wid.toNat (t.widths.take i).sum (t.widths.getD i 0)

/-- The conditions of branches and PCMP: 0 EQ, 1 NE, 2 LT, 3 GE, 4 LTU, 5 GEU (R120). -/
def branchCond (cc : Nat) (a b : DWord) : Bool :=
  match cc with
  | 0 => a == b
  | 1 => a != b
  | 2 => a.slt b
  | 3 => !a.slt b
  | 4 => a.ult b
  | _ => !a.ult b

/-- All ones or all zeros, so that a predicate serves as guard and as mask (R120). -/
def allOrNone (c : Bool) : Pred := if c then BitVec.allOnes 1024 else 0
/-- A predicate with every row equal (R120). -/
def eachRow (v : DWord) : Pred := BitVec.ofNat 1024 ((upto 0 16).foldl (fun acc _ => acc * 2 ^ 64 + v.toNat) 0)

/-! ## Special registers (R18–R23, R118) -/

/-- The number of the tick that started the current step; 0 outside a batch group (R20). -/
def State.tickOf (s : State) : Nat :=
  match s.myGroup with
  | some g => (s.group g).stepTick
  | none => 0

/-- MFS: the value of a special register, zero-extended (R118). -/
def State.specialRead (s : State) (n : Nat) : DWord :=
  match n with
  | 0 => s.me.wid
  | 1 => s.me.pc.setWidth 64
  | 2 => s.me.lc
  | 3 => s.me.ec
  | 4 => s.me.vbase.setWidth 64
  | 5 => s.me.pbase.setWidth 64
  | 6 => s.me.fstat.setWidth 64
  | 7 => s.me.fault
  | 8 => BitVec.ofNat 64 s.tai
  | 9 => BitVec.ofNat 64 s.tickOf
  | 10 => (s.me.wlim ++ BitVec.ofNat 33 (s.me.wcount.toNat - 1)).setWidth 64
  | 11 => s.me.cls.setWidth 64
  | _ => 0

/-- A base written modulo its region size; with size 0 it stays 0 (R17). -/
def baseWrite (size v : Nat) : Nat := if size = 0 then 0 else v % size

/-- MTS: a write to a special register; RO registers and reserved bits ignore it (R118). -/
def Strand.specialWrite (t : Strand) (n : Nat) (v : DWord) : Strand :=
  match n with
  | 2 => { t with lc := v }
  | 3 => { t with ec := v }
  | 4 => { t with vbase := BitVec.ofNat 5 (baseWrite t.vn v.toNat) }
  | 5 => { t with pbase := BitVec.ofNat 6 (baseWrite t.pn v.toNat) }
  | 6 => { t with fstat := v.setWidth 6 }
  | 7 => { t with fault := v &&& ~~~0x3F00#64 }
  | 11 => { t with cls := v.setWidth 4 }
  | _ => t

/-! ## Memory operands -/

/-- x[a] + sext(off4, 4) × 2^sz (R82, R138). -/
def State.addrM (s : State) (f : FM) : Nat := (s.rx f.a + (f.off.signExtend 64 <<< f.sz.toNat)).toNat
/-- x[a] + sext(off24, 24) (R83, R140). -/
def State.addrML (s : State) (f : FML) : Nat := (s.rx f.a + f.off.signExtend 64).toNat
/-- The class of an access: cls with xc = 1, else the strand's cls register (R82). -/
def State.classOf (s : State) (xc : BitVec 1) (cls : BitVec 4) : BitVec 4 := if xc = 1 then cls else s.me.cls

/-! ## Rings (R27, R160) -/

def Ring.slots (r : Ring) : Nat := r.scount.toNat + 1
def Ring.filled (r : Ring) : Nat := (r.tail - r.head).toNat
def Ring.claimed (r : Ring) : Nat := (r.claim - r.tail).toNat
def Ring.free (r : Ring) : Nat := r.slots - r.filled - r.claimed
/-- slot_addr(q, k) (R160). -/
def Ring.slotAddr (r : Ring) (k : Nat) : Nat := r.base.toNat + k % r.slots * r.ssize.toNat * 64
/-- The counter a ctr field selects: 0 head, 1 tail, 2 claim (R160). -/
def Ring.ctr (r : Ring) (sel : Nat) : Nat :=
  match sel with
  | 0 => r.head.toNat
  | 1 => r.tail.toNat
  | _ => r.claim.toNat

/-- A ring wait looked at after an update of its ring: the condition may hold now, or the ring be unfit for it (R129). -/
def RingWatch.look (w : RingWatch) (r : Ring) (n count : Nat) : RingWatch :=
  if w ≠ .waiting then w
  else if !r.en || decide (r.slots < n) then .broken
  else if n ≤ count then .met else .waiting

/-- The generation of an arrival with tail `t` is complete (R163). -/
def Ring.generationDone (r : Ring) (t : BitVec 9) : Bool := decide ((r.head - t - 1).toNat < 256)

/-- A wait in RBAR for the generation of tail `t`, looked at after an update that made its ring `r` (R129, R161, R163). -/
def RingWatch.lookBarrier (w : RingWatch) (r : Ring) (t : BitVec 9) : RingWatch :=
  if w ≠ .waiting then w
  else if !r.en || r.mode != 1 then .broken
  else if r.generationDone t then .met else .waiting

/-- The ring wait of a strand after ring `q` has become `r`. -/
def Strand.noteRing (q : Nat) (r : Ring) (t : Strand) : Strand :=
  match t.run with
  | .parked (.ring p n w) => if p.toNat = q then { t with run := .parked (.ring p n (w.look r n r.filled)) } else t
  | .parked (.free p n w) => if p.toNat = q then { t with run := .parked (.free p n (w.look r n r.free)) } else t
  | .parked (.barrier p g w) => if p.toNat = q then { t with run := .parked (.barrier p g (w.lookBarrier r g)) } else t
  | _ => t

/-- A ring-unit update of ring `q` of a core: the descriptor, and every wait parked on it (R28, R129). -/
def Core.putRing (k : Core) (q : Nat) (r : Ring) : Core :=
  let k := k.setRing q r
  { k with strands := k.strands.map (fun e => (e.1, e.2.noteRing q r)) }

def State.myRing (s : State) (q : BitVec 5) : Ring := (s.core s.myCore).ring q.toNat

end Sys2Proof.Machine
end

