-- ==== Sys2Proof/Machine/Flags.lean ====
section
/-! DEFINITION. Flag computations: the FP32 operands of the scalar forms (R52, R117) and the flags that engine status
registers collect (R21, R239). The arithmetic that raises the flags is in Machine/Num.lean. -/

namespace Sys2Proof.Machine

/-- The FP32 value of x[n]: its low 32 bits (R117). -/
def State.fx (s : State) (n : BitVec 5) : Fp := fp32 (bits (s.ux n) 0 32)

/-- Sticky bits of lstat: [5:0] as fstat, [6] status 0x12, [7] arrival count saturated (R239). -/
def Core.raiseLstat (k : Core) (f : Flags) (status12 arrivals : Bool) : Core :=
  { k with lstat := k.lstat ||| (f.setWidth 8) ||| (if status12 then 0x40 else 0) ||| (if arrivals then 0x80 else 0) }
/-- Sticky bits of vstat (R239). -/
def Core.raiseVstat (k : Core) (f : Flags) : Core := { k with vstat := k.vstat ||| f.setWidth 7 }
/-- Sticky bits of fxstat (R239). -/
def Core.raiseFxstat (k : Core) (f : Flags) (status12 : Bool) : Core :=
  { k with fxstat := k.fxstat ||| f.setWidth 7 ||| (if status12 then 0x40 else 0) }

end Sys2Proof.Machine
end

