-- ==== Sys2Proof/Machine/Packet.lean ====
section
/-! DEFINITION. Fabric packets and sending (R350, R353–R355, R359–R361, R363, R364), and the registers of the fabric and
telemetry blocks (R359, R361, R379–R381). -/

namespace Sys2Proof.Machine

/-! ## Headers (R354) -/

def pktDst (p : Packet) : Nat := bits p.header.toNat 0 8
def pktSrc (p : Packet) : Nat := bits p.header.toNat 8 8
def pktVc (p : Packet) : Nat := bits p.header.toNat 16 3
def pktKind (p : Packet) : Nat := bits p.header.toNat 19 5
def pktAux (p : Packet) : Nat := bits p.header.toNat 24 8
def pktLastb (p : Packet) : Nat := bits p.header.toNat 32 6
def pktNflit (p : Packet) : Nat := bits p.header.toNat 38 6
def pktClass (p : Packet) : Nat := bits p.header.toNat 44 4
def pktWin (p : Packet) : Nat := bits p.header.toNat 48 4
def pktOffset (p : Packet) : Nat := bits p.header.toNat 52 40
def pktRect (p : Packet) : Nat := bits p.header.toNat 92 16
def pktSeq (p : Packet) : Nat := bits p.header.toNat 108 20

/-- The header of a packet with `len` payload bytes. -/
def mkHeader (dst src vc kind aux len cls win off rect seq : Nat) : BitVec 128 :=
  BitVec.ofNat 128 (dst % 2 ^ 8 + src % 2 ^ 8 * 2 ^ 8 + vc % 8 * 2 ^ 16 + kind % 32 * 2 ^ 19 + aux % 2 ^ 8 * 2 ^ 24 +
    (len - 1) % 64 * 2 ^ 32 + (len - 1) / 64 % 64 * 2 ^ 38 + cls % 16 * 2 ^ 44 + win % 16 * 2 ^ 48 +
    off % 2 ^ 40 * 2 ^ 52 + rect % 2 ^ 16 * 2 ^ 92 + seq % 2 ^ 20 * 2 ^ 108)

/-- `n` bytes of a number, least significant first, and back. -/
def toBytes : Nat → Nat → List Byte
  | 0, _ => []
  | n + 1, v => BitVec.ofNat 8 v :: toBytes n (v / 256)
def ofBytes : List Byte → Nat
  | [] => 0
  | b :: rest => b.toNat + 256 * ofBytes rest

/-- The package number (x << 4) | y (R350). -/
def State.pkg (s : State) : Nat := s.cfg.x * 16 + s.cfg.y

/-- Coordinates outside the extents are fault 0x06 at the source (R350). -/
def State.inExtents (s : State) (pkg : Nat) : Bool := decide (pkg / 16 < s.cfg.wx) && decide (pkg % 16 < s.cfg.wy)

/-! ## Buffers (R353, R356) -/

def pktFlits (p : Packet) : Nat := pktNflit p + 1

/-- The packet with another destination in its header. -/
def retarget (p : Packet) (dst : Nat) : Packet := ⟨BitVec.ofNat 128 (putBits p.header.toNat 0 8 dst), p.payload⟩

/-- Flits of the packets in a buffer; the copies of one multicast packet share theirs. -/
def bufferFlits (l : List Packet) : Nat :=
  ((l.map (fun p => if pktKind p = 10 then retarget p 0 else p)).eraseDups.map pktFlits).sum

/-- A packet that came in by port `port`, moving away from the side it faces, has crossed the wrap link of that dimension:
its dateline class (DESIGN CHOICE, log 16). -/
def State.crossed (s : State) (port : Nat) (p : Packet) : Bool :=
  let q := fun (n : Nat) => if port < 6 then n / 16 else n % 16
  if port / 3 % 2 = 0 then decide (q (pktSrc p) < q s.pkg) else decide (q s.pkg < q (pktSrc p))

/-- The dimension that a port faces is wrapped. -/
def State.wrapped (s : State) (port : Nat) : Bool :=
  if port < 6 then s.cfg.wrapX else if port < 12 then s.cfg.wrapY else false

/-! ## Sending -/

def Fabric.port (f : Fabric) (p : Nat) : Port := f.ports.get Port.reset p
def Fabric.setPort (f : Fabric) (p : Nat) (v : Port) : Fabric := { f with ports := f.ports.set Port.reset p v }
/-- The buffer of input port `p` (12 the local one), channel `v`. -/
def Fabric.buf (f : Fabric) (p v : Nat) : List Packet := f.bufs.get [] (8 * p + v)
def Fabric.setBuf (f : Fabric) (p v : Nat) (l : List Packet) : Fabric := { f with bufs := f.bufs.set [] (8 * p + v) l }

/-- The local port's buffer of a channel has room for a first flit (R356). -/
def State.canInject (s : State) (vc : Nat) : Bool := decide (bufferFlits (s.fabric.buf 12 vc) < 128)

/-- Injects a packet at the local port with the next number of its stream (R360, R363). -/
def State.inject (s : State) (dst vc kind aux cls win off rect : Nat) (payload : List Byte) : State :=
  let stream := 8 * dst + vc
  let seq := s.fabric.seqOut.get 0 stream
  let pkt : Packet := ⟨mkHeader dst s.pkg vc kind aux payload.length cls win off rect seq.toNat, payload⟩
  let f := { s.fabric with seqOut := s.fabric.seqOut.set 0 stream (seq + 1) }
  { s with fabric := f.setBuf 12 vc (f.buf 12 vc ++ [pkt]) }

/-- A request, write or contribution with its timer (R364). -/
def State.request (s : State) (dst vc kind aux cls win off : Nat) (payload : List Byte) (w : Waiter) (addr : Nat) : State :=
  let seq := s.fabric.seqOut.get 0 (8 * dst + vc)
  let p : Pending := ⟨s.fabric.nextId, BitVec.ofNat 8 dst, BitVec.ofNat 3 vc, seq, s.tai + s.cfg.timer, w,
    BitVec.ofNat 4 cls, BitVec.ofNat 64 addr⟩
  let s := s.inject dst vc kind aux cls win off 0 payload
  { s with fabric := { s.fabric with pending := s.fabric.pending ++ [p], nextId := s.fabric.nextId + 1 } }

/-- The parts of a .F address (R29): package, window, offset. -/
def fPkg (addr : Nat) : Nat := bits addr 48 4 * 16 + bits addr 44 4
def fWin (addr : Nat) : Nat := bits addr 40 4
def fOff (addr : Nat) : Nat := bits addr 0 40

/-! ## Routes (R351, R352) -/

def pkgX (p : Nat) : Nat := p / 16
def pkgY (p : Nat) : Nat := p % 16

/-- The direction a packet at `here` takes to `dst`, 0 +x, 1 −x, 2 +y, 3 −y; `none` when it is there (R352). -/
def State.direction (s : State) (here dst : Nat) : Option Nat :=
  let go (a b w : Nat) (wrap : Bool) : Bool :=
    if wrap then
      let d := (b + w - a) % w
      decide (d ≤ w - d)
    else decide (a < b)
  if pkgX dst ≠ pkgX here then some (if go (pkgX here) (pkgX dst) s.cfg.wx s.cfg.wrapX then 0 else 1)
  else if pkgY dst ≠ pkgY here then some (if go (pkgY here) (pkgY dst) s.cfg.wy s.cfg.wrapY then 2 else 3)
  else none

/-- The neighbour in a direction: coordinates wrap in a torus dimension; past the edge of a mesh there is none (R351). -/
def State.neighbour (s : State) (p d : Nat) : Option Nat :=
  let step (a w : Nat) (wrap up : Bool) : Option Nat :=
    if up then (if a + 1 < w then some (a + 1) else if wrap then some 0 else none)
    else if 0 < a then some (a - 1) else if wrap then some (w - 1) else none
  if d < 2 then (step (pkgX p) s.cfg.wx s.cfg.wrapX (d == 0)).map (fun x => x * 16 + pkgY p)
  else (step (pkgY p) s.cfg.wy s.cfg.wrapY (d == 2)).map (fun y => pkgX p * 16 + y)

/-- The sibling that a packet to `dst` tries first (R352). -/
def firstSibling (dst : Nat) : Nat := (pkgX dst + pkgY dst) % 3

/-- How many siblings a packet to `dst` has found down when it leaves by port `p`. -/
def siblingsPassed (p dst : Nat) : Nat := (p % 3 + 3 - firstSibling dst) % 3

/-- The port of a direction that a packet to `dst` takes: the first that is up from sibling (dst.x + dst.y) mod 3 on
(R352). -/
def State.sibling (s : State) (dir dst : Nat) : Option Nat :=
  ((upto 0 3).map (fun n => 3 * dir + (pkgX dst + pkgY dst + n) % 3)).find? (fun p => (s.fabric.port p).up)

/-- The output port of a packet to `dst`: 12 ejects; `none` holds it (R352). -/
def State.route (s : State) (dst : Nat) : Option Nat :=
  match s.direction s.pkg dst with
  | none => some 12
  | some d => s.sibling d dst

/-! ## Multicast copies (R365) -/

/-- The packages on the route from `src` to `dst`, both included. -/
def State.path (s : State) (dst : Nat) : Nat → Nat → List Nat
  | 0, src => [src]
  | fuel + 1, src =>
    match s.direction src dst with
    | none => [src]
    | some d => match s.neighbour src d with
      | none => [src]
      | some n => src :: s.path dst fuel n

/-- The packages of a rectangle, those with coordinates of 4 bits (R350, R361, R365). -/
def rectPackages (rect : Nat) : List Nat :=
  (upto (bits rect 0 4) (min (bits rect 8 4 + 1) (16 - bits rect 0 4))).flatMap (fun x =>
    (upto (bits rect 4 4) (min (bits rect 12 4 + 1) (16 - bits rect 4 4))).map (fun y => x * 16 + y))

/-- A copy of a multicast packet that goes over the link of port `p`, and names in dst the destination that has passed most
siblings on the way there, serves the destinations that have passed as many or fewer (log 15). -/
def servedOver (p : Nat) (pkt : Packet) (d : Nat) : Bool := decide (siblingsPassed p d ≤ siblingsPassed p (pktDst pkt))

/-- The destinations that a copy which came in by `port` serves: those whose route passes here over that port's link. -/
def State.remaining (s : State) (port : Nat) (p : Packet) (toSelf : Bool) : List Nat :=
  (rectPackages (pktRect p)).filter (fun d =>
    (s.path d 32 (pktSrc p)).contains s.pkg && (toSelf || d != s.pkg) && (decide (12 ≤ port) || servedOver port p d))

/-- The destinations that a copy which has left by `port` serves. -/
def State.left (s : State) (port : Nat) (p : Packet) : List Nat :=
  (rectPackages (pktRect p)).filter (fun d =>
    (s.path d 32 (pktSrc p)).contains s.pkg && s.direction s.pkg d == some (port / 3) && servedOver port p d)

/-- The copies of a multicast packet that wait here for their outputs: one for each direction and first sibling that some of the
destinations have, so that the destinations of a copy always take the same output. Each names one of its destinations in dst
(log 15). -/
def State.copiesFor (s : State) (p : Packet) (dests : List Nat) : List Packet :=
  let way (d : Nat) := (s.direction s.pkg d, firstSibling d)
  ((dests.map way).eraseDups).filterMap (fun o => (dests.find? (fun d => way d == o)).map (retarget p))

/-- The copies of a multicast packet that has come in by `port` (R365). -/
def State.copies (s : State) (port : Nat) (p : Packet) (toSelf : Bool) : List Packet := s.copiesFor p (s.remaining port p toSelf)

/-! ## Registers in address space 0 (R359, R361, R381) -/

/-- The control register of a port as read (R359). -/
def Port.control (p : Port) : DWord :=
  BitVec.ofNat 64 (p.wt.toNat + (if p.en then 2 ^ 24 else 0) + p.thr * 2 ^ 25)

/-- A weight field with a zero in it leaves the weights as they are (R359). -/
def weightsOk (v : Nat) : Bool := (upto 0 6).all (fun i => bits v (4 * i) 4 != 0)

/-- A write of the control register (R359): en = 0 takes the link down. -/
def Port.writeControl (p : Port) (v : DWord) : Port :=
  let w := bits v.toNat 0 24
  let t := bits v.toNat 25 12
  { p with
    wt := if weightsOk w then BitVec.ofNat 24 w else p.wt
    thr := if t = 0 then p.thr else t
    en := bit v.toNat 24
    up := p.up && bit v.toNat 24 }

/-- The packets of a channel that wait in the buffers of resends, those of port p first; reduction packets, which leave on
their own port only, stay where they are. -/
def Fabric.resends (f : Fabric) (p v : Nat) : List Packet :=
  f.buf (13 + p) v ++ (upto 13 12).flatMap (fun j => if j = 13 + p then [] else (f.buf j v).filter (fun q => pktKind q != 6))

/-- Every packet to be sent again goes behind what port p has now to send again, which left before all of them. -/
def Fabric.gather (f : Fabric) (p : Nat) (old : List Packet) : Fabric :=
  (upto 0 6).foldl (fun g v =>
    ((upto 13 12).foldl (fun g j => g.setBuf j v ((f.buf j v).filter (fun q => pktKind q == 6))) g).setBuf (13 + p) v
      (old.filter (fun q => pktVc q == v) ++ f.resends p v)) f

/-- A link that goes down (R363, R373): what its port sent without acknowledgement is sent again ahead of every later
packet of their streams; a package that loses the link to its time parent is in holdover until the porch names another. -/
def State.portDown (s : State) (p : Nat) : State :=
  let old := (s.fabric.port p).unacked.flatMap (fun q => if pktKind q = 10 then s.copiesFor q (s.left p q) else [q])
  let s := { s with fabric := s.fabric.setPort p { s.fabric.port p with up := false, unacked := [] } }
  let s := if s.servo.parent = some p then
      { s with servo := { s.servo with status := 2, goodSince := none, slew := 0, parentMsg := none, lost := true } } else s
  { s with fabric := s.fabric.gather p old }

def State.writePort (s : State) (p : Nat) (v : DWord) : State :=
  let was := (s.fabric.port p).up
  let s := { s with fabric := s.fabric.setPort p ((s.fabric.port p).writeControl v) }
  if was && !(s.fabric.port p).up then s.portDown p else s

def State.fwindow (s : State) (w : Nat) : FWindow := s.fabric.inbound.get FWindow.reset w
def State.setFwindow (s : State) (w : Nat) (v : FWindow) : State :=
  { s with fabric := { s.fabric with inbound := s.fabric.inbound.set FWindow.reset w v } }

/-- P2 and P3 need no partition running and ticking stopped, P3 also the fabric ports disabled; P1 is the device's own
(R379). -/
def State.pstateOk (s : State) (st : Nat) : Bool :=
  let quiet := s.parts.all (fun (e : Nat × Part) => e.2.pstate != 1) && s.groups.all (fun (e : Nat × Group) => !e.2.ticking)
  match st with
  | 0 => true
  | 2 => quiet
  | 3 => quiet && (upto 0 12).all (fun p => !(s.fabric.port p).en)
  | _ => false

/-- A write of pstate (R379): a state whose entry condition does not hold leaves it unchanged; a return to P0 from P2 or
P3 takes time, and the state stays until it ends. -/
def State.writePstate (s : State) (st : Nat) : State :=
  if !s.pstateOk st then s
  else if st = 0 then
    if s.power.pstate = 2 ∨ s.power.pstate = 3 then { s with power := { s.power with returning := true } } else s
  else { s with power := { s.power with pstate := BitVec.ofNat 2 st, returning := false } }

/-- The 8-byte telemetry word at an offset (R381), from what the sensors read last (log 31). -/
def State.telemetry (s : State) (off : Nat) : DWord :=
  let sense := fun n => s.power.sensed.get 0 n
  if off = 0 then BitVec.ofNat 64 (sense 0 % 2 ^ 32)
  else if off = 8 then BitVec.ofNat 64 (sense 1)
  else if off = 0x10 then
    BitVec.ofNat 64 ((upto 0 4).map (fun d => sense (2 + d) % 2 ^ 16 * 2 ^ (16 * d))).sum
  else if off = 0x18 then
    BitVec.ofNat 64 (s.power.level.toNat + (if s.power.temperature then 8 else 0) + (if s.power.powerCause then 16 else 0))
  else if off = 0x20 then
    BitVec.ofNat 64 (s.servo.status.toNat + (BitVec.ofInt 32 s.servo.offset).toNat * 2 ^ 32)
  else if off = 0x28 then s.power.pstate.setWidth 64
  else if 0x1000 ≤ off ∧ off < 0x5000 then
    let t := s.shaft ((off - 0x1000) / 8)
    t.lost ++ t.windows
  else if 0x5000 ≤ off ∧ off < 0x5800 then s.swait.get 0 ((off - 0x5000) / 8)
  else if 0x6000 ≤ off ∧ off < 0x6300 then
    let p := s.fabric.port ((off - 0x6000) / 64)
    match (off - 0x6000) / 8 % 8 with
    | 0 => BitVec.ofNat 64 p.flitsOut
    | 1 => BitVec.ofNat 64 p.flitsIn
    | 2 => BitVec.ofNat 64 p.promotions
    | 3 => BitVec.ofNat 64 p.replays
    | 4 => BitVec.ofNat 64 p.drops
    | 5 => BitVec.ofNat 64 p.timeouts
    | 6 => BitVec.ofNat 64 (if p.up then p.lanes else 0)
    | _ => 0
  else if 0x6400 ≤ off ∧ off < 0x6420 then (s.power.edges.get 0 ((off - 0x6400) / 8)).setWidth 64
  else if off = 0x6420 then BitVec.ofNat 64 (s.power.hostLanes + s.power.hostReplays % 2 ^ 32 * 2 ^ 32)
  else 0

/-- A word of partition p's table entry (R323). -/
def State.partWord (s : State) (p i : Nat) : DWord :=
  let t := s.part p
  match i with
  | 0 => BitVec.ofNat 64 (t.en.toNat + 2 * t.parkMode.toNat + 2 ^ 32 * t.asid.toNat)
  | 1 => t.rect.setWidth 64
  | 2 => BitVec.ofNat 64 t.root
  | 3 => t.spare.setWidth 64
  | 4 => t.qmask
  | 5 => t.pstate.setWidth 64
  | _ => 0

/-- The register word of address space 0 at an 8-byte-aligned address, if one is there. -/
def State.register (s : State) (va : Nat) : Option DWord :=
  let f := va - s.cfg.fabBase
  if s.cfg.fabBase ≤ va ∧ f < 0x300 then
    some (if f % 64 = 0 then (s.fabric.port (f / 64)).control else 0)
  else if s.cfg.fabBase ≤ va ∧ 0x400 ≤ f ∧ f < 0x600 then
    let w := s.fwindow ((f - 0x400) / 32)
    some (match f / 8 % 4 with | 0 => w.base | 1 => w.size | 2 => w.attr | _ => w.srect)
  else if s.cfg.telBase ≤ va ∧ va < s.cfg.telBase + 0x6428 then some (s.telemetry (va - s.cfg.telBase))
  else if s.cfg.partTable ≤ va ∧ va < s.cfg.partTable + 512 then
    some (s.partWord ((va - s.cfg.partTable) / 64) ((va - s.cfg.partTable) / 8 % 8))
  else none

/-- A register word written. Only the port controls, the windows and pstate are writable (R359, R361, R381). -/
def State.setRegister (s : State) (va : Nat) (v : DWord) : State :=
  let f := va - s.cfg.fabBase
  if s.cfg.fabBase ≤ va ∧ f < 0x300 then (if f % 64 = 0 then s.writePort (f / 64) v else s)
  else if s.cfg.fabBase ≤ va ∧ 0x400 ≤ f ∧ f < 0x600 then
    let i := (f - 0x400) / 32
    let w := s.fwindow i
    s.setFwindow i (match f / 8 % 4 with
      | 0 => { w with base := v }
      | 1 => { w with size := v &&& 0xFFFFFF0000 }
      | 2 => { w with attr := v &&& 0x7FFF }
      | _ => { w with srect := v &&& 0xFFFF })
  else if va = s.cfg.telBase + 0x28 then s.writePstate (bits v.toNat 0 2)
  else s

/-- `n` bytes, within one register word, of the registers at `va`. -/
def State.registerBytes (s : State) (va n : Nat) : Option Nat :=
  (s.register (va / 8 * 8)).map (fun w => bits w.toNat (8 * (va % 8)) (8 * n))
def State.setRegisterBytes (s : State) (va n v : Nat) : State :=
  match s.register (va / 8 * 8) with
  | some w => s.setRegister (va / 8 * 8) (BitVec.ofNat 64 (putBits w.toNat (8 * (va % 8)) (8 * n) v))
  | none => s

end Sys2Proof.Machine
end

