-- ==== Sys2Proof/Machine/Memory.lean ====
section
/-! DEFINITION. Accesses of strands and the porch: the checks of R142 and R331, the caches (R273–R279, R285, R286), the
store queue (R146, R147), acquire, release and fences (R148–R152, R277), atomic functions (R153–R156) and cache
maintenance (R169–R171). -/

namespace Sys2Proof.Machine

/-! ## Checks made at issue (R29–R31, R142, R331, R350) -/

def dieOf : Agent → Nat
  | .strand c _ => c.toNat / 8
  | .porch q => q.toNat / 16

/-- The address space an agent's .G accesses run in (R280, R334). -/
def State.asidOf (s : State) : Agent → Nat
  | .strand c _ => match (s.core c.toNat).active with | some p => p.asid.toNat | none => 0
  | .porch _ => 0

/-- Steps 1 to 4 of check_access and the ranges of the other spaces (R142); a place outside the partition and the cellar
are closed to strands only (R31). -/
def State.accessFault (s : State) (a : Agent) (space addr n : Nat) (store : Bool) : Option (BitVec 8) :=
  if addr % n ≠ 0 then some 0x05
  else match space with
    | 0 => if 0x300000 ≤ addr then some 0x06 else if store ∧ 0x2FE000 ≤ addr then some 0x07 else none
    | 1 =>
      let place := addr / 2 ^ 27
      let off := addr % 2 ^ 27
      if 2 ^ 40 ≤ addr ∨ s.placedBytes ≤ off then some 0x06
      else if !s.present place then some 0x0F
      else match a with
        | .strand _ _ => if !(s.partRect (s.partOf a)).holds place || decide (s.cellarBase ≤ off) then some 0x07 else none
        | .porch _ => none
    | 2 => if 2 ^ 52 ≤ addr then some 0x06 else none
    | 3 => none
    | 4 => if 2 ^ 52 ≤ addr ∨ !s.inExtents (fPkg addr) then some 0x06 else none
    | _ => if 2 ^ 20 ≤ addr then some 0x06 else none

/-- An access of a porch run lies wholly in a window of its queue, the queue header among them (R331). -/
def State.windowOk (s : State) (a : Agent) (space addr n : Nat) (store : Bool) : Bool :=
  match a with
  | .strand _ _ => true
  | .porch q =>
    let d := s.queueDesc q.toNat
    let inside (base size : Nat) : Bool := decide (base ≤ addr) && decide (addr + n ≤ base + size)
    d.windows.any (fun w => w.space == space && inside w.base w.size && (w.writable || !store)) ||
      (space == 2 && inside d.hdr 0x100)

/-- Every check made at issue, with its fault (R142, R331). -/
def State.checkAccess (s : State) (a : Agent) (space addr n : Nat) (store : Bool) (cls : BitVec 4) : Option Raise :=
  match s.accessFault a space addr n store with
  | some c => some (raiseAt c addr cls)
  | none => if s.windowOk a space addr n store then none else some (raiseAt 0x07 addr cls)

/-! ## Caches -/

def byteMask (off n : Nat) : Nat := (2 ^ n - 1) * 2 ^ off
/-- `a` with the bytes of `b` whose mask bit is 1. -/
def mixBytes (a b : BitVec 512) (mask : Nat) : BitVec 512 :=
  (upto 0 64).foldl (fun d i => if mask.testBit i then setLineByte d i (lineByte b i) else d) a
def putLine (d : BitVec 512) (off n v : Nat) : BitVec 512 := BitVec.ofNat 512 (putBits d.toNat (8 * off) (8 * n) v)
def getLine (d : BitVec 512) (off n : Nat) : Nat := bits d.toNat (8 * off) (8 * n)

def Core.l1Find (k : Core) (asid : BitVec 12) (vline : Nat) : Option L1Line :=
  k.l1.find? (fun l => l.asid == asid && l.vline == vline)
def Core.l1Drop (k : Core) (asid : BitVec 12) (vline : Nat) : Core :=
  { k with l1 := k.l1.filter (fun l => !(l.asid == asid && l.vline == vline)) }
/-- A line put into the L1; one with no valid byte is not kept. -/
def Core.l1Put (k : Core) (l : L1Line) : Core :=
  let k := k.l1Drop l.asid l.vline
  if l.valid = 0 then k else { k with l1 := k.l1 ++ [l] }

/-- (asid, vline) is the canonical address of the line in the L2 of a die, or would become it (R285). -/
def State.canonical (s : State) (die : Nat) (asid : BitVec 12) (vline pline : Nat) : Bool :=
  match (s.l2Line pline).bind (fun l => l.holder die) with
  | some h => h.asid == asid && h.vline == vline
  | none => true

/-- A fill of a line from memory meets an uncorrectable error (R144). -/
def State.fillBad (s : State) (pline : Nat) : Bool := (s.l2Line pline).isNone && s.badPooled (pline * 64)

/-- A cacheable load of a core, within one line (R276): `wide` at .die or wider. -/
def State.cachedLoad (s : State) (c : Nat) (asid : BitVec 12) (va pa n : Nat) (wide : Bool) : Nat × State :=
  let m := byteMask (va % 64) n
  let canon := s.canonical (c / 8) asid (va / 64) (pa / 64)
  match (s.core c).l1Find asid (va / 64) with
  | some l =>
    if !wide && canon && (l.valid.toNat &&& m == m) then (getLine l.data (va % 64) n, s)
    else
      let s := s.l2Take (c / 8) asid (va / 64) (pa / 64) false
      let d := mixBytes (s.l2Data (pa / 64)) l.data l.dirty.toNat
      (getLine d (va % 64) n, s.modCore c (fun k => k.l1Put { l with data := d, valid := BitVec.allOnes 64 }))
  | none =>
    let s := s.l2Take (c / 8) asid (va / 64) (pa / 64) false
    let d := s.l2Data (pa / 64)
    (getLine d (va % 64) n,
      if !wide && canon then s.modCore c (fun k => k.l1Put ⟨asid, va / 64, pa / 64, BitVec.allOnes 64, 0, 0, 0, d⟩) else s)

/-- A cacheable store of a core, within one line (R276): into the L1 at .core through the canonical address, else through
to the L2 with any L1 copy updated (R278, R285). -/
def State.cachedStore (s : State) (c : Nat) (asid : BitVec 12) (va pa n v keep : Nat) (cls : BitVec 4) (wide : Bool) :
    State :=
  let m := keep % 2 ^ n * 2 ^ (va % 64)
  let src := putLine 0 (va % 64) n v
  let canon := s.canonical (c / 8) asid (va / 64) (pa / 64)
  if !wide && canon then
    let s := s.l2Take (c / 8) asid (va / 64) (pa / 64) false
    let l := ((s.core c).l1Find asid (va / 64)).getD ⟨asid, va / 64, pa / 64, 0, 0, 0, 0, 0⟩
    s.modCore c (fun k => k.l1Put { l with
      data := mixBytes l.data src m, valid := l.valid ||| BitVec.ofNat 64 m, dirty := l.dirty ||| BitVec.ofNat 64 m,
      classes := l.classes ||| BitVec.ofNat 16 (2 ^ cls.toNat) })
  else
    let s := match (s.core c).l1Find asid (va / 64) with
      | some l => s.modCore c (fun k => k.l1Put { l with
          data := mixBytes l.data src m, valid := l.valid ||| BitVec.ofNat 64 m, dirty := l.dirty &&& ~~~(BitVec.ofNat 64 m) })
      | none => s
    (s.l2Take (c / 8) asid (va / 64) (pa / 64) true).storePhys pa n v keep

/-- An uncached store, performed at the controller (R286). -/
def State.uncachedStore (s : State) (pa n v keep : Nat) : State :=
  let s := s.shootdown (pa / 64)
  let s := { s with pooled := setBytesMasked s.pooled pa n (s.blockValue pa v n) keep }
  s.notePackage 2 pa n (fun a m => bytesAt s.pooled a m)

/-- The dirty bytes of the L1 lines of core `c` that `which` selects go to L2 (R277). -/
def State.cleanL1 (s : State) (c : Nat) (which : L1Line → Bool) : State :=
  let gone := (s.core c).l1.filter which
  let s := gone.foldl (fun s l => s.writeBackL1 c l) s
  s.modCore c (fun k => { k with l1 := k.l1.map (fun l =>
    if which l then { l with dirty := 0, classes := 0, readBy := 0 } else l) })

/-- A load of class `cls` has returned bytes of [va, va + n): the dirty ones of an L1 line are stores that the strand's later
orderings of that class include (R136). -/
def Core.noteRead (k : Core) (asid : BitVec 12) (va n : Nat) (cls : BitVec 4) : Core :=
  { k with l1 := k.l1.map (fun l =>
      if l.asid == asid && l.vline == va / 64 && (l.dirty.toNat &&& byteMask (va % 64) n) != 0 then
        { l with readBy := l.readBy ||| BitVec.ofNat 16 (2 ^ cls.toNat) }
      else l) }

/-- An acquire at .die or wider invalidates the clean bytes of the core's L1 (R277). -/
def State.acquireL1 (s : State) (c : Nat) : State :=
  s.modCore c (fun k => { k with l1 := (k.l1.filter (fun l => l.dirty != 0)).map (fun l => { l with valid := l.dirty }) })

/-! ## Translation for an access (R144, R280–R283) -/

inductive Trans where
  | ok (pa pol : Nat)
  | fault (code : BitVec 8)
  /-- Not present, in a partition of park mode. -/
  | miss
  deriving DecidableEq, Repr

/-- Some byte of [pa, pa + n) lies in a line of a loaded image (R73). -/
def State.inImage (s : State) (pa n : Nat) : Bool :=
  s.images.any (fun i => decide (i.base < pa + n) && decide (pa < i.base + 64 * i.nlines))

def State.parkMode (s : State) (asid : Nat) : Bool :=
  asid != 0 && s.parts.any (fun (e : Nat × Part) => e.2.asid.toNat == asid && e.2.parkMode)

def State.translate (s : State) (asid va n : Nat) (store strand : Bool) : Trans × State :=
  match s.walk asid va store with
  | (.notPresent _, s) => (if s.parkMode asid then .miss else .fault 0x06, s)
  | (.beyond, s) => (.fault 0x06, s)
  | (.ok pa pol wr, s) =>
    if store && !wr then (.fault 0x07, s)
    else if !s.pooledOk pa then (.fault 0x06, s)
    else if store && strand && s.inImage pa n then (.fault 0x07, s)
    else (.ok pa pol, s)

/-! ## Reading and writing a space -/

inductive LoadRes where
  | val (v : Nat)
  | fault (code : BitVec 8)
  /-- Not present in park mode, and the address. -/
  | miss (va : Nat)
  deriving DecidableEq, Repr

/-- The outbound host window of a .H access (R370). -/
def State.hostWindow (s : State) (addr n : Nat) : Option HostOut :=
  s.cfg.hostOut.find? (fun w => decide (w.hbase ≤ addr) && decide (addr + n ≤ w.hbase + w.size))

/-- The core whose L1 an agent uses; the porch has none (R279). -/
def coreOf : Agent → Option Nat
  | .strand c _ => some c.toNat
  | .porch _ => none

/-- A .G load of up to 8 aligned bytes (R276, R279, R286). -/
def State.loadG (s : State) (a : Agent) (va n : Nat) (wide : Bool) : LoadRes × State :=
  match (if s.asidOf a = 0 then s.registerBytes va n else none) with
  | some v => (.val v, s)
  | none =>
    let asid := s.asidOf a
    match s.translate asid va n false (coreOf a).isSome with
    | (.miss, s) => (.miss va, s)
    | (.fault c, s) => (.fault c, s)
    | (.ok pa pol, s) =>
      if pol = 1 then (if s.badPooled pa then .fault 0x0D else .val (bytesAt s.pooled pa n), s)
      else if s.fillBad (pa / 64) then (.fault 0x0D, s)
      else match coreOf a with
        | some c =>
          let r := s.cachedLoad c (BitVec.ofNat 12 asid) va pa n wide
          (.val r.1, r.2)
        | none =>
          let s := s.l2Take (dieOf a) (BitVec.ofNat 12 asid) (va / 64) (pa / 64) false
          (.val (s.physNat pa n), s)

/-- A load of up to 8 aligned bytes of a space other than .F, after the checks. -/
def State.readSpace (s : State) (a : Agent) (space addr n : Nat) (wide : Bool) : LoadRes × State :=
  match space with
  | 0 => (.val (bytesAt (s.core ((coreOf a).getD 0)).scratch addr n), s)
  | 1 =>
    if s.badPlaced (addr / 2 ^ 27) (addr % 2 ^ 27) n then (.fault 0x0D, s.poison addr n)
    else (.val (bytesAt s.placed addr n), s)
  | 2 => s.loadG a addr n wide
  | 3 =>
    match s.hostWindow addr n with
    | some w => (.val (bytesAt s.host (w.target + (addr - w.hbase)) n), s)
    | none => (.fault 0x06, s)
  | _ => (.val (bytesAt s.records addr n), s)

inductive StoreRes where
  | done
  | fault (code : BitVec 8)
  /-- Not present in park mode, and the address. -/
  | miss (va : Nat)
  /-- A fabric request has left; its number. -/
  | sent (id : Nat)
  deriving DecidableEq, Repr

/-- Who writes a byte of a request record (R38). -/
inductive RecordByte where
  | software | user | reserved | hardware
  deriving DecidableEq, Repr

def recordByte (off : Nat) : RecordByte :=
  if 0xE0 ≤ off then .user
  else if (0x79 ≤ off ∧ off ≤ 0x7B) ∨ (0x8C ≤ off ∧ off ≤ 0x8F) ∨ (0xD8 ≤ off ∧ off ≤ 0xDF) then .reserved
  else if off = 1 ∨ off = 2 ∨ off = 3 ∨ off = 6 ∨ off = 7 ∨ (0x10 ≤ off ∧ off ≤ 0x27) ∨ (0x30 ≤ off ∧ off ≤ 0x6F) ∨
      (0x90 ≤ off ∧ off ≤ 0xCF) then .software
  else .hardware

/-- The bytes of a .Q store that are written, or `none` for a store the record's owner refuses (R40). -/
def recordKeep (free : Bool) (off n : Nat) : Option Nat :=
  let kinds := (upto off n).map recordByte
  if free then
    some ((kinds.map (fun k => k == .software || k == .user)).foldr (fun b acc => (if b then 1 else 0) + 2 * acc) 0)
  else if kinds.all (fun k => k == .user || k == .reserved) then
    some ((kinds.map (fun k => k == .user)).foldr (fun b acc => (if b then 1 else 0) + 2 * acc) 0)
  else none

/-- Record bytes written and seen by the monitors of the record store (R168). -/
def State.putRecord (s : State) (addr n v keep : Nat) : State :=
  let s := { s with records := setBytesMasked s.records addr n v keep }
  s.notePackage 5 addr n (fun a m => bytesAt s.records a m)

/-- `n` bytes stored at `pa`, without what falls on the reserved bits [63:48] and [39:23] of a status word (R7, R326). -/
def State.qstatValue (s : State) (pa n v : Nat) : Nat :=
  let words := s.qstatWords
  ofBytes ((upto 0 n).map (fun i =>
    let b := BitVec.ofNat 8 (v / 2 ^ (8 * i))
    match words.find? (fun w => decide (w ≤ pa + i) && decide (pa + i < w + 8)) with
    | some w => b &&& ([0xFF, 0xFF, 0x7F, 0x00, 0x00, 0xFF, 0x00, 0x00] : List Byte).getD (pa + i - w) 0
    | none => b))

/-- A .G store of an agent (R276, R279, R286). -/
def State.storeG (s : State) (a : Agent) (va n v keep : Nat) (cls : BitVec 4) (wide : Bool) : StoreRes × State :=
  match (if s.asidOf a = 0 then s.registerBytes va n else none) with
  | some _ => (.done, s.setRegisterBytes va n v)
  | none =>
    let asid := s.asidOf a
    match s.translate asid va n true (coreOf a).isSome with
    | (.miss, s) => (.miss va, s)
    | (.fault c, s) => (.fault c, s)
    | (.ok pa pol, s) =>
      let v := s.qstatValue pa n v
      let keep := if (coreOf a).isSome then keep &&& s.roKeep pa n else keep
      if pol = 1 then (if s.badPooled pa then (.fault 0x0D, s) else (.done, s.uncachedStore pa n v keep))
      else if s.fillBad (pa / 64) then (.fault 0x0D, s)
      else match coreOf a with
        | some c => (.done, s.cachedStore c (BitVec.ofNat 12 asid) va pa n (s.blockValue pa v n) keep cls wide)
        | none =>
          (.done, (s.l2Take (dieOf a) (BitVec.ofNat 12 asid) (va / 64) (pa / 64) true).storePhys pa n v keep)

/-- A store of the bytes `keep` selects to a space other than .F, after the checks made at issue. -/
def State.writeSpace (s : State) (a : Agent) (space addr n v keep : Nat) (cls : BitVec 4) (wide : Bool) :
    StoreRes × State :=
  match space with
  | 0 =>
    let c := (coreOf a).getD 0
    (.done, (s.modCore c (fun k => { k with scratch := setBytesMasked k.scratch addr n v keep })).noteScratch c addr n)
  | 1 =>
    if s.badPlaced (addr / 2 ^ 27) (addr % 2 ^ 27) n then (.fault 0x0D, s.poison addr n)
    else (.done, { s with placed := setBytesMasked s.placed addr n v keep })
  | 2 => s.storeG a addr n v keep cls wide
  | 3 =>
    match s.hostWindow addr n with
    | some w =>
      if w.writable then (.done, { s with host := setBytesMasked s.host (w.target + (addr - w.hbase)) n v keep })
      else (.fault 0x07, s)
    | none => (.fault 0x06, s)
  | _ =>
    match recordKeep (s.records.get 0 (addr / 256 * 256) == 0) (addr % 256) n with
    | some k => (.done, s.putRecord addr n v (k &&& keep))
    | none => (.fault 0x07, s)

/-! ## Atomic functions (R153, R156) -/

/-- f(old, b) on n-byte patterns. -/
def amoF (op n old b : Nat) : Nat :=
  let w := 8 * n
  let so := sextNat old w
  let sb := sextNat b w
  match op with
  | 0 => b
  | 1 => (old + b) % 2 ^ w
  | 2 => old &&& b
  | 3 => old ||| b
  | 4 => old ^^^ b
  | 5 => if sb < so then b else old
  | 6 => if so < sb then b else old
  | 7 => min old b
  | 8 => max old b
  | 9 => (fpAdd Fmt.fp32 .rne (fp32 old) (fp32 b)).bits
  | 10 => (fpMax Fmt.fp32 (fp32 old) (fp32 b)).bits
  | 11 => (fpMin Fmt.fp32 (fp32 old) (fp32 b)).bits
  | 12 => if b ≤ old then 0 else old + 1
  | 13 => if old = 0 ∨ b < old then b else old - 1
  | 14 => min (old + b) (2 ^ w - 1)
  | _ => old - b

/-! ## Cache maintenance (R170, R171) -/

/-- One cached line of the levels in scope cleaned, flushed or invalidated: kind 0 clean, 1 flush, 2 invalidate. -/
def State.maintainL1 (s : State) (c : Nat) (l : L1Line) (kind : Nat) : State :=
  let s := if kind = 2 then s else s.writeBackL1 c l
  s.modCore c (fun k =>
    if kind = 0 then k.l1Put { l with dirty := 0, classes := 0, readBy := 0 } else k.l1Drop l.asid l.vline)

def State.maintainL2 (s : State) (die : Nat) (l : L2Line) (kind : Nat) : State :=
  if (l.holder die).isNone then s
  else
    let s := if kind ≠ 2 ∧ l.dirty then { s with pooled := setBytes s.pooled (l.pline * 64) 64 l.data.toNat } else s
    let left := l.holders.filter (fun h => h.die != die)
    let keep := if kind = 0 then some { l with dirty := false }
      else if left.isEmpty then none
      else some { l with
        holders := left, writer := if l.writer = some die then none else l.writer
        dirty := if kind = 2 then l.dirty else false }
    { s with l2 := s.l2.filterMap (fun m => if m.pline == l.pline then keep else some m) }

/-- Cache maintenance of the lines `l1` of the L1, then of the lines `l2` of the die's L2, those among them that the L1 has
just written back. -/
def State.maintain (s : State) (a : Agent) (kind : Nat) (wide : Bool) (l1 : L1Line → Bool) (l2 : State → L2Line → Bool) : State :=
  let s := match coreOf a with
    | some c => ((s.core c).l1.filter l1).foldl (fun s l => s.maintainL1 c l kind) s
    | none => s
  if wide ∨ (coreOf a).isNone then (s.l2.filter (l2 s)).foldl (fun s l => s.maintainL2 (dieOf a) l kind) s else s

/-- The lines of the L2s that the pages of a range in address space `asid` map, of those whose virtual line `hit` selects. -/
def State.mappedLine (s : State) (asid : Nat) (pages : List Nat) (hit : Nat → Bool) (l : L2Line) : Bool :=
  pages.any (fun p => match (s.translate asid p 1 false false).1 with
    | .ok pa _ => decide (pa / 64 ≤ l.pline) && decide (l.pline < pa / 64 + 1024) && hit (l.pline - pa / 64 + p / 64)
    | _ => false)

/-- The addresses under which the levels in scope hold dirty lines, of those that `which` selects. -/
def State.dirtyLines (s : State) (a : Agent) (wide : Bool) (which : BitVec 12 → Nat → Bool) : List (BitVec 12 × Nat) :=
  (match coreOf a with
    | some c => ((s.core c).l1.filter (fun l => l.dirty != 0 && which l.asid l.vline)).map (fun l => (l.asid, l.vline))
    | none => []) ++
  (if wide ∨ (coreOf a).isNone then
    (s.l2.filter (fun l => l.dirty)).filterMap (fun l =>
      ((l.holder (dieOf a)).filter (fun h => which h.asid h.vline)).map (fun h => (h.asid, h.vline)))
  else [])

/-- The write permission of each line is looked up (R171, R282): the first that has none. The operation itself stores nothing,
so that the walk leaves e.dty. -/
def State.checkLines (s : State) : List (BitVec 12 × Nat) → StoreRes × State
  | [] => (.done, s)
  | (asid, vline) :: rest =>
    match s.walk asid.toNat (vline * 64) false with
    | (.ok pa _ wr, s) => if !wr then (.fault 0x07, s) else if !s.pooledOk pa then (.fault 0x06, s) else s.checkLines rest
    | (.notPresent _, s) => (if s.parkMode asid.toNat then .miss (vline * 64) else .fault 0x06, s)
    | (.beyond, s) => (.fault 0x06, s)

/-- The operations of R170, fn 6 to 15, performed on [va, va + size). A line to be written back, and every page of a CINV,
must be mapped and writable (R171). A clean or flush that finds no dirty line there translates nothing and does not fault
(DEDUCED, log 66). -/
def State.cacheOp (s : State) (a : Agent) (fn va size : Nat) (wide : Bool) : StoreRes × State :=
  let asid := BitVec.ofNat 12 (s.asidOf a)
  let hit (v : Nat) : Bool := decide (va < v * 64 + 64) && decide (v * 64 < va + size)
  let in1 (l : L1Line) : Bool := l.asid == asid && hit l.vline
  let kind := match fn with | 8 | 11 | 14 => 0 | 9 | 12 | 15 => 1 | _ => 2
  if fn = 14 ∨ fn = 15 then
    match s.checkLines (s.dirtyLines a wide (fun _ _ => true)) with
    | (.done, s) => (.done, s.maintain a kind wide (fun _ => true) (fun _ _ => true))
    | r => r
  else if fn = 6 ∨ fn = 7 then
    match s.translate asid.toNat va 1 false false with
    | (.ok pa pol, s) =>
      if pol = 1 || s.fillBad (pa / 64) then (.done, s)
      else match coreOf a with
        | some c =>
          if wide then (.done, s.l2Take (dieOf a) asid (va / 64) (pa / 64) (fn == 7))
          else (.done, (s.cachedLoad c asid va pa 1 false).2)
        | none => (.done, s.l2Take (dieOf a) asid (va / 64) (pa / 64) (fn == 7))
    | (_, s) => (.done, s)
  else if size = 0 then (.done, s)
  else
    let pages := (upto (va / 65536) ((va + size - 1) / 65536 - va / 65536 + 1)).map (fun p => p * 65536)
    let lines := if kind = 2 then pages.map (fun p => (asid, p / 64))
      else s.dirtyLines a wide (fun d v => d == asid && hit v)
    match s.checkLines lines with
    | (.done, s) => (.done, s.maintain a kind wide in1 (fun s l => s.mappedLine asid.toNat pages hit l))
    | r => r

/-! ## The store queue (R146, R147) -/

/-- What performing a store-queue entry does. -/
def State.performEffect (s : State) (a : Agent) (e : StoreEntry) : StoreRes × State :=
  let wide := e.scope != 0
  match e.kind with
  | .cache fn count => s.cacheOp a fn.toNat e.addr count wide
  | .store =>
    if e.space = 4 then
      (.sent s.fabric.nextId, s.request (fPkg e.addr) 1 0 0 e.cls.toNat (fWin e.addr) (fOff e.addr)
        (toBytes e.size e.data) (.store a) e.addr)
    else s.writeSpace a e.space.toNat e.addr e.size e.data e.keep e.cls wide
  | .atomic op =>
    if e.space = 4 then
      (.sent s.fabric.nextId, s.request (fPkg e.addr) 1 4 op.toNat e.cls.toNat (fWin e.addr) (fOff e.addr)
        (toBytes e.size e.data) (.store a) e.addr)
    else
      match s.readSpace a e.space.toNat e.addr e.size wide with
      | (.val old, s) => s.writeSpace a e.space.toNat e.addr e.size (amoF op.toNat e.size old e.data) e.keep e.cls wide
      | (.fault c, s) => (.fault c, s)
      | (.miss va, s) => (.miss va, s)

def StoreEntry.overlaps (e : StoreEntry) (space addr n : Nat) : Bool :=
  e.space.toNat == space && decide (e.addr < addr + n) && decide (addr < e.addr + e.size)

/-- An entry is performed after an earlier one of its class, or of the same bytes (R134, R146); a release after any (R155). -/
def StoreEntry.follows (e f : StoreEntry) : Bool := e.rel || f.cls == e.cls || f.overlaps e.space.toNat e.addr e.size

/-- An access of class `cls` to [addr, addr + n) of a space is performed after an earlier load that is under way (R134, R148):
one of its class or on its bytes, or an acquire. Two of the fabric that go to one package are kept in order by their stream
once the load has left (R360). -/
def FarLoad.first (f : FarLoad) (cls : BitVec 4) (space addr n : Nat) : Bool :=
  f.acquire || !(space == 4 && f.space == 4 && f.id.isSome && fPkg f.addr == fPkg addr) && (f.cls == cls ||
    f.space.toNat == space && decide (f.addr < addr + n) && decide (addr < f.addr + f.size))

/-- Entry `i` waits behind an earlier store, or an earlier load that is under way. -/
def Strand.blocked (t : Strand) (i : Nat) (e : StoreEntry) : Bool :=
  (t.storeq.take i).any e.follows ||
    t.far.any (fun f => decide (f.order < e.order) && (e.rel || f.first e.cls e.space.toNat e.addr e.size))

/-- A store of class c that has faulted, or waits behind one that has (R146). -/
def Strand.held (t : Strand) (i : Nat) (e : StoreEntry) : Bool :=
  e.fault.isSome || (t.storeq.take i).any (fun f => f.cls == e.cls && f.fault.isSome)

/-- A held store of R147: its fault, or one of its class before it, has been reported. -/
def Strand.reported (t : Strand) (i : Nat) (e : StoreEntry) : Bool :=
  e.told || (t.storeq.take i).any (fun f => f.cls == e.cls && f.told)

/-- Which of the entries stay in the queue until a fault has been handled: one that has faulted, and one that is performed after
such an entry (R146, R147); `before` are those of them already found. -/
def stuckEntries (before : List StoreEntry) : List StoreEntry → List Bool
  | [] => []
  | e :: rest =>
    let b := e.fault.isSome || before.any e.follows
    b :: stuckEntries (if b then e :: before else before) rest
def Strand.stuck (t : Strand) (i : Nat) : Bool := (stuckEntries [] t.storeq).getD i false

/-- The place in program order of the strand's next access. -/
def Strand.nextOrder (t : Strand) : Nat := (t.far.map FarLoad.order ++ t.storeq.map StoreEntry.order).foldl max 0 + 1

/-- The strand with those of its accesses that come before a place in program order. -/
def Strand.before (t : Strand) (order : Nat) : Strand :=
  { t with far := t.far.filter (fun f => decide (f.order < order)), storeq := t.storeq.filter (fun e => decide (e.order < order)) }

/-- The agent's core is fenced: nothing of it reaches memory any more (R345). -/
def State.fencedOff (s : State) : Agent → Bool
  | .strand c _ => (s.core c.toNat).fenced
  | .porch _ => false

/-- Does `f` as another agent; a strand of a fenced core does nothing any more (R345). -/
def State.asAgent (s : State) (a : Agent) (f : State → State) : State :=
  if s.fencedOff a then s else { f { s with cur := a } with cur := s.cur }

def State.setStoreq (s : State) (a : Agent) (q : List StoreEntry) : State :=
  s.setStrandOf a { s.strandOf a with storeq := q }

/-- The wait of an access for the translation of `va` in park mode (R283), when it has waited as `retry` says: none when its
1 ms is over, else what it waits for, and whether this is a page it has not waited for. -/
def missAgain (retry : Option (Nat × Nat)) (va now : Nat) : Option ((Nat × Nat) × Bool) :=
  match retry.filter (fun r => r.1 / 65536 == va / 65536) with
  | some r => if r.2 ≤ now then none else some (r, false)
  | none => some ((va, now + 1000000), true)

/-- An access of the store queue whose translation is not present in park mode: an event is posted with the first walk of each
page, and the walk repeated for 1 ms (R283, R343). -/
def State.storeMiss (s : State) (a : Agent) (i : Nat) (e : StoreEntry) (va : Nat) : State :=
  let put (s : State) (e : StoreEntry) : State := s.setStoreq a ((s.strandOf a).storeq.set i e)
  match missAgain e.retry va s.tai with
  | none => put s { e with fault := some 0x06 }
  | some (r, new) =>
    put (if new then
      s.addEvent (s.partOf a) ⟨2, s.recordOf a (s.strandOf a).pc { raiseAt 0x06 va e.cls with prec := 1 }⟩ else s)
      { e with retry := some r }

/-- The L1 part of a release by a core of the classes in `mask`: the lines whose dirty bytes were stored in one of them, or
returned to a load of one of them (R136, R277). -/
def State.releaseOf (s : State) (a : Agent) (wide : Bool) (mask : BitVec 16) : State :=
  match coreOf a with
  | some c =>
    if wide then s.cleanL1 c (fun l => l.dirty != 0 && (mask == 0xFFFF || ((l.classes ||| l.readBy) &&& mask) != 0)) else s
  | none => s

/-- Performs entry `i` of an agent's store queue, if its order allows (R146). -/
def State.performStore (s : State) (a : Agent) (i : Nat) : State :=
  let t := s.strandOf a
  match t.storeq[i]? with
  | none => s
  | some e =>
    if e.fault.isSome || e.sent.isSome || t.blocked i e || s.fencedOff a || (e.space == 4 && !s.canInject 1) then s
    else
      match (if e.rel then s.releaseOf a (e.scope != 0) 0xFFFF else s).performEffect a e with
      | (.done, s) => s.setStoreq a ((s.strandOf a).storeq.eraseIdx i)
      | (.fault c, s) => s.setStoreq a ((s.strandOf a).storeq.set i { e with fault := some c })
      | (.sent id, s) => s.setStoreq a ((s.strandOf a).storeq.set i { e with sent := some id })
      | (.miss va, s) => s.storeMiss a i e va

/-- Performs what can be performed of the queue from entry `i` on, in program order. -/
def State.drainFrom (s : State) (a : Agent) : Nat → Nat → State
  | 0, _ => s
  | fuel + 1, i =>
    let s' := s.performStore a i
    let gone := decide ((s'.strandOf a).storeq.length < (s.strandOf a).storeq.length)
    s'.drainFrom a fuel (if gone then i else i + 1)

def State.drain (s : State) (a : Agent) : State := s.drainFrom a (s.strandOf a).storeq.length 0

/-- The earliest store that has faulted and has not been reported (R146). -/
def Strand.pendingFault (t : Strand) : Option StoreEntry := t.storeq.find? (fun e => e.fault.isSome && !e.told)

/-- The report of a delayed-precise fault at the current instruction (R146): its stores are then held until the handler
returns (R147). -/
def State.report (s : State) (e : StoreEntry) : Done :=
  .fault (s.modMe (fun t => { t with storeq := t.storeq.map (fun f => if f.fault.isSome then { f with told := true } else f) }))
    { code := e.fault.getD 0, info := BitVec.ofNat 40 e.addr, cls := e.cls, addr := BitVec.ofNat 64 e.addr, prec := 1 }

/-- A report point (R146): the queue is performed as far as it goes; a fault is reported, once every load of the fabric before
it has completed (R145), else `k` goes on. -/
def State.reportPoint (s : State) (k : State → Done) : Done :=
  let s := s.drain s.cur
  match s.me.pendingFault with
  | some e => if s.me.far.isEmpty then s.report e else .again s
  | none => k s

/-- Some entry of the current agent's store queue satisfies `p`. -/
def State.anyStore (s : State) (p : Nat → StoreEntry → Bool) : Bool :=
  (upto 0 s.me.storeq.length).any (fun i => match s.me.storeq[i]? with | some e => p i e | none => false)

/-- A load of class `cls` from [addr, addr + n) of a space waits for an access of the strand (R134, R143, R148): for a load that
is under way, or a store of its class or on its bytes (fabric acknowledgements, parked translations), but for none that is
stuck (R147). -/
def Strand.loadWaits (t : Strand) (cls : BitVec 4) (space addr n : Nat) : Bool :=
  t.far.any (fun f => f.first cls space addr n) ||
    (upto 0 t.storeq.length).any (fun i => match t.storeq[i]? with
      | some e => (e.cls == cls || e.overlaps space addr n) && !t.stuck i
      | none => false)

/-- Some store that a release, a fence or another ordering of the current agent must wait for. What has been reported and is
still held is passed over inside the handler (DESIGN CHOICE, log 70). -/
def State.storesWait (s : State) (which : StoreEntry → Bool) : Bool :=
  s.anyStore (fun i e => which e && !s.me.reported i e)

/-- A store, RED or cache operation enters the queue; a full queue is an interlock (R146). -/
def State.enqueue (s : State) (e : StoreEntry) : Done :=
  let s := if s.me.storeq.length < 32 then s else s.drain s.cur
  if s.me.storeq.length < 32 then
    .next (s.modMe (fun t => { t with storeq := t.storeq ++ [{ e with order := t.nextOrder }] }))
  else .again s

/-- An access of the current agent waits for one of its loads under way. -/
def State.farWaits (s : State) (cls : BitVec 4) (space addr n : Nat) : Bool := s.me.far.any (fun f => f.first cls space addr n)

/-! ## Loads -/

/-- The bytes of [addr, addr + n) with the stores `own` over the value `v` that the space holds. -/
def overlayStores (own : List StoreEntry) (peek : Nat → Nat → Nat) (addr n v : Nat) : Nat :=
  if own.isEmpty then v
  else
    let look (m : Cells (Option Byte)) (base a k : Nat) : Nat :=
      ofBytes ((upto 0 k).map (fun i => (m.get none (a + i)).getD (BitVec.ofNat 8 (base >>> (8 * i)))))
    let put (m : Cells (Option Byte)) (a k d keep : Nat) : Cells (Option Byte) :=
      (upto 0 k).foldl (fun m i =>
        if keep.testBit i then m.set none (a + i) (some (BitVec.ofNat 8 (d >>> (8 * i)))) else m) m
    let m := own.foldl (fun (m : Cells (Option Byte)) e =>
      match e.kind with
      | .store => put m e.addr e.size e.data e.keep
      | .atomic op => put m e.addr e.size (amoF op.toNat e.size (look m (peek e.addr e.size) e.addr e.size) e.data) e.keep
      | .cache _ _ => m) []
    look m v addr n

/-- The bytes as a load of the same strand sees them: its earlier stores still in the queue over the value `v` (R134, R147). -/
def Strand.overlay (t : Strand) (peek : Nat → Nat → Nat) (space addr n v : Nat) : Nat :=
  overlayStores (t.storeq.filter (fun e => e.space.toNat == space)) peek addr n v

/-- A translation miss in park mode: the event goes to the partition and the strand parks (R283). -/
def State.parkMiss (s : State) (va : Nat) (cls : BitVec 4) : Done :=
  let s := s.addEvent (s.partOf s.cur) ⟨2, s.recordOf s.cur s.me.pc (raiseAt 0x06 va cls)⟩
  .park s (.translation va cls (s.tai + 1000000))

/-- The dirty L1 bytes that a .G load of the current agent has returned count for its later orderings (R136). -/
def State.noteRead (s : State) (space addr n : Nat) (cls : BitVec 4) : State :=
  match s.cur with
  | .strand c _ =>
    if space = 2 then s.modCore c.toNat (fun k => k.noteRead (BitVec.ofNat 12 (s.asidOf s.cur)) addr n cls) else s
  | .porch _ => s

/-- A load or an atomic that has not been performed joins those under way: the strand goes on until it needs x[d] (R143). -/
def Strand.depart (t : Strand) (f : FarLoad) : Strand :=
  { t with
    far := t.far ++ [{ f with order := t.nextOrder }]
    inflight := if f.dest == 0 || t.inflight.contains f.dest then t.inflight else f.dest :: t.inflight }

/-- The value of x[d] has come (R143): a strand with all that its next instruction needs is ready again. -/
def Strand.returned (t : Strand) (d : BitVec 5) : Strand :=
  let left := t.inflight.filter (fun r => r != d)
  { t with
    inflight := left
    run := match t.run with
      | .memory need => if need.all (fun r => !left.contains r) then .ready else t.run
      | w => w }

/-- A load of the current instruction, not yet performed. -/
def State.loadHere (s : State) (space addr n : Nat) (cls : BitVec 4) (wide acquire : Bool) (d : BitVec 5) : FarLoad :=
  ⟨none, d, s.me.pc, BitVec.ofNat 3 space, addr, n, cls, wide, acquire, s.me.trapIn, none, 0, [], none⟩

/-- The strand's stores to the bytes of a .F load that stay in its queue, whose bytes the load returns (R147). -/
def Strand.stuckOver (t : Strand) (addr n : Nat) : List StoreEntry :=
  (upto 0 t.storeq.length).filterMap (fun i => t.storeq[i]?.filter (fun e => e.overlaps 4 addr n && t.stuck i))

/-- The bytes a .F load requests: its own, or the eight that a stuck atomic of the strand there has to work on. -/
def FarLoad.span (f : FarLoad) : Nat × Nat :=
  if f.own.all (fun e => decide (f.addr ≤ e.addr) && decide (e.addr + e.size ≤ f.addr + f.size)) then (f.addr, f.size)
  else (f.addr / 8 * 8, 8)

/-- A load of the fabric leaves as a read request (R360). -/
def State.sendLoad (s : State) (f : FarLoad) : State :=
  let (a, n) := f.span
  s.request (fPkg a) 1 2 0 f.cls.toNat (fWin a) (fOff a) (List.replicate n 0) (.load s.cur) a

/-- An atomic of the fabric leaves as request `kind` (R360). -/
def State.sendAtomic (s : State) (f : FarLoad) (aux : Nat) (payload : List Byte) : State :=
  (s.request (fPkg f.addr) 1 4 aux f.cls.toNat (fWin f.addr) (fOff f.addr) payload (.load s.cur) f.addr).modMe
    (fun t => t.depart { f with id := some s.fabric.nextId })

/-- What a load of the current agent reads at an address of a space, 0 where it would fault. -/
def State.peekSpace (s : State) (space : Nat) (wide : Bool) (a m : Nat) : Nat :=
  match (s.readSpace s.cur space a m wide).1 with
  | .val v => v
  | _ => 0

/-- A load of the current agent (R141, R142, R144), checks included; `k` receives the value. Every earlier store of
any class that can be performed is, so that no load passes one (DESIGN CHOICE, log 9). A load that other accesses of the
strand come before, and a .F load, for which `k` is not used (R360), is under way when the strand goes on (R143): its value
or its fault comes later (log 74). -/
def State.load (s : State) (space addr n : Nat) (cls : BitVec 4) (wide acquire : Bool) (d : BitVec 5)
    (k : State → Nat → Done) : Done :=
  match s.checkAccess s.cur space addr n false cls with
  | some r => .fault s r
  | none =>
    let s := s.drain s.cur
    let f := s.loadHere space addr n cls wide acquire d
    if s.me.loadWaits cls space addr n || (space == 4 && !s.canInject 1) then .next (s.modMe (fun t => t.depart f))
    else if space = 4 then
      let f := { f with id := some s.fabric.nextId, own := s.me.stuckOver addr n }
      .next ((s.sendLoad f).modMe (fun t => t.depart f))
    else
      match s.readSpace s.cur space addr n wide with
      | (.fault c, s) => .fault s (raiseAt c addr cls)
      | (.miss va, s) => s.parkMiss va cls
      | (.val v, s) => k (s.noteRead space addr n cls) (s.me.overlay (s.peekSpace space wide) space addr n v)

/-! ## Ordering -/

/-- An acquire of the current agent (R148, R277). -/
def State.acquire (s : State) (wide : Bool) : State :=
  match s.cur with
  | .strand c _ => if wide then s.acquireL1 c.toNat else s
  | .porch _ => s

/-- The L1 part of a release of the classes in `mask` (R136, R277). -/
def State.releaseL1 (s : State) (wide : Bool) (mask : BitVec 16) : State := s.releaseOf s.cur wide mask

/-- A release of the current agent that is no report point (R149, R155, R159): every earlier access is performed first, so
that an unreported fault holds it; `k` goes on. -/
def State.release (s : State) (wide : Bool) (k : State → Done) : Done :=
  let s := s.drain s.cur
  if !s.me.far.isEmpty || s.storesWait (fun _ => true) then .again s else k (s.releaseL1 wide 0xFFFF)

/-- FENCE (R150–R152, R277): kind 0 full, 1 acquire, 2 release. With mask 0 it is only a report point. -/
def State.fence (s : State) (kind : Nat) (scope : BitVec 2) (mask : BitVec 16) : Done :=
  let wide := scope != 0
  s.reportPoint (fun s =>
    if mask = 0 then .next s
    else if s.me.far.any (fun f => mask.getLsbD f.cls.toNat) then .again s
    else if kind ≠ 1 ∧ s.storesWait (fun e => mask.getLsbD e.cls.toNat) then .again s
    else
      let s := if kind = 1 then s else s.releaseL1 wide mask
      .next (if kind = 2 then s else s.acquire wide))

/-- A store of the current agent (R141, R142, R146, R149). -/
def State.store (s : State) (space addr n data : Nat) (cls : BitVec 4) (scope : BitVec 2) (rel : Bool) : Done :=
  let go (k : State → StoreEntry → Done) (s : State) : Done :=
    match s.checkAccess s.cur space addr n true cls with
    | some r => .fault s r
    | none =>
      k s ⟨.store, BitVec.ofNat 3 space, addr, n, data % 2 ^ (8 * n), allBytes n, cls, scope, none, none, none, false, false, 0⟩
  if rel then s.reportPoint (go (fun s e => s.release (scope != 0) (fun s => s.enqueue e))) else go State.enqueue s

/-! ## Loads under way (R143) -/

/-- The fault of the oldest load under way, once one has come of it (R143–R145): a precise fault at the load, every load before
it complete; the accesses after it that have not been performed are given up, as the strand issues them again. What the strand
has done since the load stays done (DESIGN CHOICE, log 74). -/
def State.farFault (s : State) : State :=
  match s.me.far with
  | [] => s
  | f :: _ =>
    match f.failed, s.cur with
    | none, _ => s
    | some code, .strand c k =>
      let r := s.recordOf s.cur f.pc (raiseAt code f.addr f.cls)
      let s := s.modMe (fun t => t.far.foldl (fun t g => t.returned g.dest) { t with
        far := []
        storeq := t.storeq.filter (fun e => decide (e.order < f.order) || e.sent.isSome)
        pass := { t.pass with ended := none }
        outer := if f.handler then t.outer else { t.outer with ended := none } })
      match s.me.run with
      | .halted | .trapped => s.porchRecord c.toNat k.toNat r
      | _ => s.deliver c.toNat k.toNat f.pc f.handler r
    | some code, .porch q =>
      (s.modMe (fun t => t.far.foldl (fun t g => t.returned g.dest) { t with far := [] })).porchFault q.toNat code

/-- Load `j` of the current agent has its value (R143): x[d], and the acquire. -/
def State.finishLoad (s : State) (j : Nat) (f : FarLoad) (v : Nat) : State :=
  let s := s.modMe (fun t => ({ t with far := t.far.eraseIdx j }.wx f.dest (BitVec.ofNat 64 v)).returned f.dest)
  if f.acquire then s.acquire f.wide else s

/-- Load `j` under way of the current agent is performed, once the accesses before it allow it (R134): one of the fabric leaves. -/
def State.performLoad (s : State) (j : Nat) : State :=
  match s.me.far[j]? with
  | none => s
  | some f =>
    let b := s.me.before f.order
    let put (s : State) (f : FarLoad) : State := s.modMe (fun t => { t with far := t.far.set j f })
    if f.id.isSome || f.failed.isSome || b.loadWaits f.cls f.space.toNat f.addr f.size || (f.space == 4 && !s.canInject 1) then s
    else if f.space = 4 then
      let f := { f with id := some s.fabric.nextId, own := b.stuckOver f.addr f.size }
      put (s.sendLoad f) f
    else
      match s.readSpace s.cur f.space.toNat f.addr f.size f.wide with
      | (.fault c, s) => put s { f with failed := some c }
      | (.miss va, s) =>
        match missAgain f.retry va s.tai with
        | none => put s { f with failed := some 0x06 }
        | some (r, new) =>
          put (if new then s.addEvent (s.partOf s.cur) ⟨2, s.recordOf s.cur f.pc (raiseAt 0x06 va f.cls)⟩ else s)
            { f with retry := some r }
      | (.val v, s) =>
        (s.noteRead f.space.toNat f.addr f.size f.cls).finishLoad j f
          (b.overlay (s.peekSpace f.space.toNat f.wide) f.space.toNat f.addr f.size v)

/-- The loads under way from number `j` on, in program order. -/
def State.performLoads (s : State) : Nat → Nat → State
  | 0, _ => s
  | fuel + 1, j =>
    let s' := s.performLoad j
    s'.performLoads fuel (if s'.me.far.length < s.me.far.length then j else j + 1)

/-- No load under way waits to be performed, or has failed. -/
def Strand.settled (t : Strand) : Bool := t.far.all (fun f => f.id.isSome && f.failed.isNone)

/-- What can be performed of the accesses of the current agent is, and the fault of a load is taken. -/
def State.settleLoads (s : State) : State :=
  if s.me.settled then s else ((s.drain s.cur).performLoads s.me.far.length 0).farFault

end Sys2Proof.Machine
end

