-- ==== Sys2Proof/Machine/Control.lean ====
section
/-! DEFINITION. Branches, calls, software pipelining and waiting (spec/04_scalar_and_control.md, R121–R132). -/

namespace Sys2Proof.Machine

/-! ## Branches (R121–R124) -/

/-- A target with slot 0 is fault 0x02 (R76), an operand check (R86). -/
def slotCheck (slot : Nat) : Option Raise := if slot = 0 then some (raise 0x02) else none

/-- B (R122). -/
def execB (f : FJ) (s : State) : Out := s.run 1 (slotCheck f.slot.toNat) true [] (fun s => .jump s f.line f.slot)

/-- The return point of a call of `len` words goes to x31; a return point past the chain is fault 0x01 with the pc of the
call (R123). -/
def State.link (s : State) (len : Nat) (k : State → Done) : Done :=
  match s.successor len with
  | some (l, sl) => k (s.wx 31 ((pcBits l sl).setWidth 64))
  | none => .fault s (raise 0x01 s.me.pc.toNat)

/-- CALL (R122, R123). -/
def execCall (f : FJ) (s : State) : Out := s.run 1 (slotCheck f.slot.toNat) true [31] (fun s => s.link 1 (fun s => .jump s f.line f.slot))

/-- A BC form: taken when its condition holds (R122). -/
def State.branchIf (s : State) (f : FBC) (taken : Bool) : Out :=
  s.run 2 (slotCheck f.slot.toNat) (s.guard7 f.g) [f.a, f.b]
    (fun s => if taken then .jump s f.line f.slot else .next s)

/-- Guarded B (R122). -/
def execBGuarded (f : FBC) (s : State) : Out := s.branchIf f true

/-- BEQ (R122). -/
def execBeq (f : FBC) (s : State) : Out := s.branchIf f (branchCond 0 (s.rx f.a) (s.rx f.b))

/-- BNE (R122). -/
def execBne (f : FBC) (s : State) : Out := s.branchIf f (branchCond 1 (s.rx f.a) (s.rx f.b))

/-- BLT (R122). -/
def execBlt (f : FBC) (s : State) : Out := s.branchIf f (branchCond 2 (s.rx f.a) (s.rx f.b))

/-- BGE (R122). -/
def execBge (f : FBC) (s : State) : Out := s.branchIf f (branchCond 3 (s.rx f.a) (s.rx f.b))

/-- BLTU (R122). -/
def execBltu (f : FBC) (s : State) : Out := s.branchIf f (branchCond 4 (s.rx f.a) (s.rx f.b))

/-- BGEU (R122). -/
def execBgeu (f : FBC) (s : State) : Out := s.branchIf f (branchCond 5 (s.rx f.a) (s.rx f.b))

/-- Guarded CALL (R123): line imm24[20:0], slot b[3:0]. -/
def execCallGuarded (f : FSY) (s : State) : Out :=
  s.run 2 (slotCheck f.b.toNat) (s.guard7 f.g) [31]
    (fun s => s.link 2 (fun s => .jump s (BitVec.ofNat 21 f.imm.toNat) (f.b.setWidth 4)))

/-- A register target: [63:25] non-zero or slot 0 is fault 0x02 before control moves (R124). -/
def targetOk (v : DWord) : Bool := decide (v.toNat < 2 ^ 25) && bits v.toNat 0 4 != 0

/-- BR (R124). -/
def execBr (f : FA) (s : State) : Out :=
  s.run 1 none (s.guard4 f.g) [f.a] (fun s =>
    let v := s.rx f.a
    if targetOk v then .jump s (pcLine (v.setWidth 25)) (pcSlot (v.setWidth 25)) else .fault s (raise 0x02))

/-- CALLR (R124): the target is x[a] before the link is written. A target that is no target (0x02) is found before a return
point past the end of the chain (0x01) (DESIGN CHOICE, log 89). -/
def execCallr (f : FA) (s : State) : Out :=
  s.run 1 none (s.guard4 f.g) [f.a, 31] (fun s =>
    let v := s.rx f.a
    if targetOk v then s.link 1 (fun s => .jump s (pcLine (v.setWidth 25)) (pcSlot (v.setWidth 25)))
    else .fault s (raise 0x02))

/-- RET (R124): the effect of BR; the return predictor changes timing only. -/
def execRet (f : FA) (s : State) : Out :=
  s.run 1 none (s.guard4 f.g) [f.a] (fun s =>
    let v := s.rx f.a
    if targetOk v then .jump s (pcLine (v.setWidth 25)) (pcSlot (v.setWidth 25)) else .fault s (raise 0x02))

/-! ## Software pipelining (R125, R126) -/

/-- The stage predicates p64 to p(64 + n) set by `on`, those that exist: p127 is the last predicate. -/
def Strand.stages (t : Strand) (n : Nat) (on : Nat → Bool) : Strand :=
  (upto 0 (min n 63 + 1)).foldl (fun t k => t.wp (64 + k) (allOrNone (on k))) t

/-- LOOPSET (R125): off imm24[15:0], ne imm24[23:16]. -/
def execLoopset (f : FSY) (s : State) : Out :=
  s.run 2 none (s.guard7 f.g) [f.a] (fun s =>
    let ne := bits f.imm.toNat 16 8
    let lc := s.rx f.a + dword (sextNat f.imm.toNat 16)
    .next (s.modMe (fun t =>
      { t with lc := lc, ec := BitVec.ofNat 64 (ne * 2 ^ 56), vbase := 0, pbase := 0 }.stages ne
        (fun k => k == 0 && lc != 0))))

/-- BLOOP (R126). -/
def execBloop (f : FJ) (s : State) : Out :=
  s.run 1 (slotCheck f.slot.toNat) true [] (fun s =>
    let t := s.me
    let sd := bits t.ec.toNat 56 8
    let j := bits t.ec.toNat 0 56 + 1
    let lc := t.lc.toNat
    if lc ≠ 0 ∧ j < lc + sd ∧ j < 2 ^ 56 then
      .jump (s.setMe (({ t with ec := BitVec.ofNat 64 (sd * 2 ^ 56 + j) }.advance).stages sd
        (fun k => decide (k ≤ j ∧ j - k < lc)))) f.line f.slot
    else .next s)

/-! ## Waiting (R127–R131) -/

/-- A wait of the current strand: the report point, then its condition (R128). -/
def State.wait (s : State) (w : WaitFor) (holds : State → Bool) (resets : Bool) : Done :=
  s.reportPoint (fun s => if holds s then .resume s resets else .park s w)

/-- YIELD (R127, R128). -/
def execYield (f : FW) (s : State) : Out :=
  s.runWait none (s.guard4 f.g) [] (fun s => s.reportPoint (fun s => .resume s true))

/-- The operand check of the ring waits (R128): n is the number of slots waited for. -/
def State.ringWaitCheck (s : State) (q : BitVec 5) (n : Nat) : Option Raise :=
  if !(s.myRing q).en || decide ((s.myRing q).slots < n) then some (raise 0x08) else none

/-- WAIT.RING (R127–R129). -/
def execWaitRing (f : FW) (s : State) : Out :=
  let q := BitVec.ofNat 5 (bits f.arg.toNat 12 5)
  let n := bits f.arg.toNat 0 8 + 1
  s.runWait (s.ringWaitCheck q n) (s.guard4 f.g) [] (fun s =>
    s.wait (.ring q n .waiting) (fun s => decide (n ≤ (s.myRing q).filled)) true)

/-- WAIT.FREE (R127–R129). -/
def execWaitFree (f : FW) (s : State) : Out :=
  let q := BitVec.ofNat 5 (bits f.arg.toNat 12 5)
  let n := bits f.arg.toNat 0 8 + 1
  s.runWait (s.ringWaitCheck q n) (s.guard4 f.g) [] (fun s =>
    s.wait (.free q n .waiting) (fun s => decide (n ≤ (s.myRing q).free)) true)

/-- Macros a queue has completed, counted in order: an ALATCH that has left the queue counts when its fills end (R205). -/
def Core.completed (k : Core) (q : Nat) : Word :=
  let u := k.queue q
  let filling := (upto 0 8).filterMap (fun j => ((k.array (8 * q + j)).fill.bind (fun f => f.seq)))
  filling.foldl (fun m x => if (u.left - m).toNat < (u.left - x + 1).toNat then x - 1 else m) u.left

/-- The marker join (R165): each queue of the mask has no marker or has completed what its marker counts. -/
def State.joined (s : State) (mask : BitVec 14) : Bool :=
  (upto 0 14).all (fun j => !mask.getLsbD j ||
    (match s.me.markers.get none j with
      | none => true
      | some m => decide (((s.core s.myCore).completed j - m).toNat < 2 ^ 31)))

/-- On completion the markers of the mask are cleared (R165). -/
def State.clearMarkers (s : State) (mask : BitVec 14) : State :=
  s.modMe (fun t => { t with
    markers := (upto 0 14).foldl (fun m j => if mask.getLsbD j then m.set none j none else m) t.markers })

/-- WAIT.JOIN (R127, R165). -/
def execWaitJoin (f : FW) (s : State) : Out :=
  let mask := BitVec.ofNat 14 f.arg.toNat
  s.runWait none (s.guard4 f.g) [] (fun s => s.reportPoint (fun s =>
    if s.joined mask then .resume (s.clearMarkers mask) true else .park s (.join mask)))

/-- WAIT.STEP (R127–R129): fault 0x07 outside a batch group; it waits for the step after the current one. -/
def execWaitStep (f : FW) (s : State) : Out :=
  s.runWait (if s.myGroup.isNone then some (raise 0x07) else none) (s.guard4 f.g) [] (fun s =>
    s.wait .step (fun _ => false) true)

/-- WAIT.TIME (R127, R129). -/
def execWaitTime (f : FW) (s : State) : Out :=
  let a := BitVec.ofNat 5 (bits f.arg.toNat 0 5)
  s.runWait none (s.guard4 f.g) [a] (fun s =>
    let t := s.rx a
    s.wait (.time t) (fun s => decide (t.toNat ≤ s.tai)) true)

/-- WAIT.CLK (R127): n clk from issue. -/
def execWaitClk (f : FW) (s : State) : Out :=
  s.runWait none (s.guard4 f.g) [] (fun s => s.wait (.clk (f.arg.toNat + 1)) (fun _ => false) true)

/-- The end of a porch run (R328). -/
def State.endRun (s : State) (q : HostQueueId) : State :=
  let p := s.porchQueue q.toNat
  s.setPorchQueue q.toNat { p with running := false, strand := { p.strand with run := .absent } }

/-- HALT (R131, R328): not a waiting instruction; a pending store fault is reported instead. -/
def execHalt (f : FW) (s : State) : Out :=
  s.run 1 none (s.guard4 f.g) [] (fun s => s.reportPoint (fun s =>
    match s.cur with
    | .strand _ _ => .settled (s.passed.modMe (fun t => { t with run := .halted })).giveSlot
    | .porch q => .settled (s.endRun q)))

/-! ## Waking (R129) -/

/-- A parked ring wait of the current strand goes on as the ring's updates have left it: a ring disabled or made too small
is fault 0x08 at the wait (R129), once every load before it has completed (R145). -/
def State.endRingWait (s : State) (w : RingWatch) (resets : Bool) : State :=
  match w with
  | .broken => if s.me.far.isEmpty then s.takeFault (raise 0x08) else s
  | .met => s.completeWait resets
  | .waiting => s

/-- RING_WAIT_WAKE (R129). -/
def execRingWaitWake (c : CoreId) (k : StrandId) (s : State) : Out :=
  .next (s.asAgent (.strand c k) (fun s =>
    match s.me.run with
    | .parked (.ring _ _ w) => s.endRingWait w true
    | .parked (.free _ _ w) => s.endRingWait w true
    | _ => s))

/-- WAIT_TIME_REACHED (R129, R374). -/
def execWaitTimeReached (a : Agent) (s : State) : Out :=
  .next (s.asAgent a (fun s =>
    match s.me.run with
    | .parked (.time t) => if t.toNat ≤ s.tai then s.completeWait true else s
    | _ => s))

/-- WAIT_CLK_EXPIRY (R127): the count of clks has run out. -/
def execWaitClkExpiry (a : Agent) (s : State) : Out :=
  .next (s.asAgent a (fun s =>
    match s.me.run with
    | .parked (.clk 0) => s.completeWait true
    | _ => s))

/-- JOIN_COMPLETE (R165). -/
def execJoinComplete (c : CoreId) (k : StrandId) (s : State) : Out :=
  .next (s.asAgent (.strand c k) (fun s =>
    match s.me.run with
    | .parked (.join m) => if s.joined m then (s.clearMarkers m).completeWait true else s
    | _ => s))

/-- WATCHDOG_EXPIRY (R132): at the limit the strand takes fault 0x09, info its pc, and the count goes to 0, once
every load before it has completed (R145). -/
def execWatchdogExpiry (c : CoreId) (k : StrandId) (s : State) : Out :=
  .next (s.asAgent (.strand c k) (fun s =>
    if s.me.run = .ready ∧ 2 ^ s.me.wlim.toNat ≤ s.me.wcount.toNat ∧ s.me.far.isEmpty then
      (s.modMe (fun t => { t with wcount := 0 })).takeFault (raise 0x09 s.me.pc.toNat)
    else s))

/-! ## The issue slot (R336) -/

/-- The stage pressure of a strand (R336). -/
def Core.pressure (k : Core) (t : Strand) : Nat :=
  if !t.pen then 0
  else
    let r := k.ring t.pq.toNat
    16 * (if t.stage = 0 then r.free else r.filled) / r.slots

/-- The strand the core selects: the highest pressure, among equals the first at or after the round-robin pointer. -/
def Core.select (k : Core) : Option Nat :=
  ((upto 0 8).map (fun i => (k.rr.toNat + i) % 8)).foldl (fun best i =>
    if (k.strand i).run = .ready && !k.fenced then
      match best with
      | none => some i
      | some b => if k.pressure (k.strand b) < k.pressure (k.strand i) then some i else best
    else best) none

/-- ISSUE_SELECT (R336): when the slot is free. -/
def execIssueSelect (c : CoreId) (s : State) : Out :=
  .next (let k := s.core c.toNat
    match k.holder, k.select with
    | none, some i => s.setCore c.toNat { k with holder := some (BitVec.ofNat 3 i), rr := BitVec.ofNat 3 (i + 1) }
    | _, _ => s)

end Sys2Proof.Machine
end

