-- ==== Sys2Proof/Machine/LoadStore.lean ====
section
/-! DEFINITION. Loads, stores, atomics, fences, markers, monitors and cache maintenance
(spec/05_memory_rings_sync.md, R138–R156, R164–R171) and the events that perform them. -/

namespace Sys2Proof.Machine

/-! ## Loads and stores (R138–R149) -/

/-- A loaded value arrives in x[d]; a strand's next use of the register may wait for it (R143). -/
def State.arrive (s : State) (d : BitVec 5) (v : Nat) : State :=
  s.modMe (fun t =>
    let t := t.wx d (BitVec.ofNat 64 v)
    if s.isPorch || d == 0 || t.inflight.contains d then t else { t with inflight := d :: t.inflight })

/-- A short load (R138, R141). -/
def State.loadM (s : State) (f : FM) (space : Nat) : Out :=
  s.run 1 none (s.guard4 f.g) [f.d, f.a] (fun s =>
    s.load space (s.addrM f) (2 ^ f.sz.toNat) (s.classOf f.xc f.cls) false false f.d (fun s v => .next (s.arrive f.d v)))

/-- A short store (R138, R141). -/
def State.storeM (s : State) (f : FM) (space : Nat) : Out :=
  s.run 1 none (s.guard4 f.g) [f.d, f.a] (fun s =>
    s.store space (s.addrM f) (2 ^ f.sz.toNat) (s.ux f.d) (s.classOf f.xc f.cls) 0 false)

/-- LD.S (R138). -/
def execLdS (f : FM) (s : State) : Out := s.loadM f 0

/-- ST.S (R138). -/
def execStS (f : FM) (s : State) : Out := s.storeM f 0

/-- LD.W (R138). -/
def execLdW (f : FM) (s : State) : Out := s.loadM f 1

/-- ST.W (R138). -/
def execStW (f : FM) (s : State) : Out := s.storeM f 1

/-- LD.G (R138). -/
def execLdG (f : FM) (s : State) : Out := s.loadM f 2

/-- ST.G (R138). -/
def execStG (f : FM) (s : State) : Out := s.storeM f 2

/-- LD.Q (R138). -/
def execLdQ (f : FM) (s : State) : Out := s.loadM f 5

/-- ST.Q (R138). -/
def execStQ (f : FM) (s : State) : Out := s.storeM f 5

/-- The scope of a long access: .H and .F are always .sys (R135). -/
def scopeOf (space : BitVec 3) (scope : BitVec 2) : BitVec 2 := if space = 3 ∨ space = 4 then 3 else scope

/-- LD (R140). -/
def execLd (f : FML) (s : State) : Out :=
  s.run 2 none (s.guard7 f.g) [f.d, f.a] (fun s =>
    s.load f.space.toNat (s.addrML f) (2 ^ f.sz.toNat) (s.classOf f.xc f.cls) (scopeOf f.space f.scope != 0) false f.d
      (fun s v => .next (s.arrive f.d v)))

/-- LDA (R140, R148): a load, then an acquire at its scope. -/
def execLda (f : FML) (s : State) : Out :=
  let wide := scopeOf f.space f.scope != 0
  s.run 2 none (s.guard7 f.g) [f.d, f.a] (fun s =>
    s.load f.space.toNat (s.addrML f) (2 ^ f.sz.toNat) (s.classOf f.xc f.cls) wide true f.d
      (fun s v => .next ((s.arrive f.d v).acquire wide)))

/-- ST (R140). -/
def execSt (f : FML) (s : State) : Out :=
  s.run 2 none (s.guard7 f.g) [f.d, f.a] (fun s =>
    s.store f.space.toNat (s.addrML f) (2 ^ f.sz.toNat) (s.ux f.d) (s.classOf f.xc f.cls) (scopeOf f.space f.scope) false)

/-- STL (R140, R149): a release at its scope, and a report point. -/
def execStl (f : FML) (s : State) : Out :=
  s.run 2 none (s.guard7 f.g) [f.d, f.a] (fun s =>
    s.store f.space.toNat (s.addrML f) (2 ^ f.sz.toNat) (s.ux f.d) (s.classOf f.xc f.cls) (scopeOf f.space f.scope) true)

/-- LOAD_DATA_RETURN (R143): the value of a load arrives: now, if the load has been performed. That of a load of the fabric comes
with its answer. -/
def execLoadDataReturn (c : CoreId) (k : StrandId) (d : BitVec 5) (s : State) : Out :=
  .next (s.asAgent (.strand c k) (fun s => s.settleLoads.modMe (fun t =>
    if t.far.any (fun f => f.dest == d) then t else t.returned d)))

/-! ## Atomics (R153–R156) -/

/-- The permission to write a .G location, checked before an atomic reads it (R282). A CAS counts as a store to the page whether it
then writes or not: e.dty is set before the comparison (DESIGN CHOICE, log 93). -/
def State.atomicFault (s : State) (space addr n : Nat) : Trans × State :=
  if space = 2 ∧ (s.asidOf s.cur ≠ 0 ∨ (s.registerBytes addr n).isNone) then
    s.translate (s.asidOf s.cur) addr n true !s.isPorch
  else (.ok 0 0, s)

/-- The order of an atomic: every earlier store of its class or on its bytes, held or not, is performed before it (R134,
R155); a release waits for the others too. -/
def State.beforeAtomic (s : State) (f : FAT) (addr n : Nat) (k : State → Done) : Done :=
  let cls := s.classOf f.xc f.cls
  let s := s.drain s.cur
  if s.farWaits cls f.space.toNat addr n || s.anyStore (fun _ e => e.cls == cls || e.overlaps f.space.toNat addr n) then .again s
  else if f.ord = 2 then s.release (scopeOf f.space f.scope != 0) k
  else k s

/-- An atomic with a result (R154): `new` gives what is written for the old value, if anything. A .F atomic leaves as an
atomic request (R360); `op` and `operand` are its aux field and payload. -/
def State.atomic (s : State) (f : FAT) (new : Nat → Option Nat) (op : Nat) (operand : List Byte) : Done :=
  let space := f.space.toNat
  let addr := s.ux f.a
  let n := 2 ^ f.sz.toNat
  let cls := s.classOf f.xc f.cls
  let wide := scopeOf f.space f.scope != 0
  match s.checkAccess s.cur space addr n true cls with
  | some r => .fault s r
  | none =>
    s.beforeAtomic f addr n (fun s =>
      if space = 4 then
        if !s.canInject 1 then .again s
        else .next (s.sendAtomic (s.loadHere space addr n cls wide (f.ord == 1) f.d) op operand)
      else
        match s.atomicFault space addr n with
        | (.fault c, s) => .fault s (raiseAt c addr cls)
        | (.miss, s) => s.parkMiss addr cls
        | (.ok _ _, s) =>
          match s.readSpace s.cur space addr n wide with
          | (.fault c, s) => .fault s (raiseAt c addr cls)
          | (.miss va, s) => s.parkMiss va cls
          | (.val old, s) =>
            match (match new old with
              | some v => s.writeSpace s.cur space addr n v (allBytes n) cls wide
              | none => (.done, s)) with
            | (.fault c, s) => .fault s (raiseAt c addr cls)
            | (_, s) =>
              let s := (s.noteRead space addr n cls).arrive f.d old
              .next (if f.ord = 1 then s.acquire wide else s))

/-- AMO with operation `op` (R153, R154). -/
def State.amo (s : State) (f : FAT) (op : Nat) : Out :=
  s.run 2 none (s.guard7 f.g) [f.d, f.a, f.b] (fun s =>
    let n := 2 ^ f.sz.toNat
    let b := s.ux f.b % 2 ^ (8 * n)
    s.atomic f (fun old => some (amoF op n old b)) op (toBytes n b))

/-- CAS (R153, R154). Its .F request carries the expected and the new value, with aux 16 (log 12). -/
def execCas (f : FAT) (s : State) : Out :=
  s.run 2 none (s.guard7 f.g) [f.d, f.a, f.b, f.c] (fun s =>
    let n := 2 ^ f.sz.toNat
    let b := s.ux f.b % 2 ^ (8 * n)
    let e := s.ux f.c % 2 ^ (8 * n)
    s.atomic f (fun old => if old = e then some b else none) 16 (toBytes n e ++ toBytes n b))

/-- RED with operation `op`: it enters the store queue and holds the strand no longer; .rel orders it there behind every
earlier access (R146, R154, R155). -/
def State.red (s : State) (f : FAT) (op : Nat) : Out :=
  s.run 2 none (s.guard7 f.g) [f.a, f.b] (fun s =>
    let n := 2 ^ f.sz.toNat
    let addr := s.ux f.a
    let cls := s.classOf f.xc f.cls
    match s.checkAccess s.cur f.space.toNat addr n true cls with
    | some r => .fault s r
    | none =>
      let e : StoreEntry := ⟨.atomic (BitVec.ofNat 4 op), f.space, addr, n, s.ux f.b % 2 ^ (8 * n), allBytes n, cls,
        scopeOf f.space f.scope, none, none, none, false, f.ord == 2, 0⟩
      s.enqueue e)

/-- AMO.SWAP (R153). -/
def execAmoSwap (f : FAT) (s : State) : Out := s.amo f 0

/-- AMO.ADD (R153). -/
def execAmoAdd (f : FAT) (s : State) : Out := s.amo f 1

/-- AMO.AND (R153). -/
def execAmoAnd (f : FAT) (s : State) : Out := s.amo f 2

/-- AMO.OR (R153). -/
def execAmoOr (f : FAT) (s : State) : Out := s.amo f 3

/-- AMO.XOR (R153). -/
def execAmoXor (f : FAT) (s : State) : Out := s.amo f 4

/-- AMO.MIN (R153). -/
def execAmoMin (f : FAT) (s : State) : Out := s.amo f 5

/-- AMO.MAX (R153). -/
def execAmoMax (f : FAT) (s : State) : Out := s.amo f 6

/-- AMO.MINU (R153). -/
def execAmoMinu (f : FAT) (s : State) : Out := s.amo f 7

/-- AMO.MAXU (R153). -/
def execAmoMaxu (f : FAT) (s : State) : Out := s.amo f 8

/-- AMO.FADD (R153). -/
def execAmoFadd (f : FAT) (s : State) : Out := s.amo f 9

/-- AMO.FMAX (R153). -/
def execAmoFmax (f : FAT) (s : State) : Out := s.amo f 10

/-- AMO.FMIN (R153). -/
def execAmoFmin (f : FAT) (s : State) : Out := s.amo f 11

/-- AMO.INCW (R153). -/
def execAmoIncw (f : FAT) (s : State) : Out := s.amo f 12

/-- AMO.DECW (R153). -/
def execAmoDecw (f : FAT) (s : State) : Out := s.amo f 13

/-- AMO.ADDUS (R153). -/
def execAmoAddus (f : FAT) (s : State) : Out := s.amo f 14

/-- AMO.SUBUS (R153). -/
def execAmoSubus (f : FAT) (s : State) : Out := s.amo f 15

/-- RED.SWAP (R153). -/
def execRedSwap (f : FAT) (s : State) : Out := s.red f 0

/-- RED.ADD (R153). -/
def execRedAdd (f : FAT) (s : State) : Out := s.red f 1

/-- RED.AND (R153). -/
def execRedAnd (f : FAT) (s : State) : Out := s.red f 2

/-- RED.OR (R153). -/
def execRedOr (f : FAT) (s : State) : Out := s.red f 3

/-- RED.XOR (R153). -/
def execRedXor (f : FAT) (s : State) : Out := s.red f 4

/-- RED.MIN (R153). -/
def execRedMin (f : FAT) (s : State) : Out := s.red f 5

/-- RED.MAX (R153). -/
def execRedMax (f : FAT) (s : State) : Out := s.red f 6

/-- RED.MINU (R153). -/
def execRedMinu (f : FAT) (s : State) : Out := s.red f 7

/-- RED.MAXU (R153). -/
def execRedMaxu (f : FAT) (s : State) : Out := s.red f 8

/-- RED.FADD (R153). -/
def execRedFadd (f : FAT) (s : State) : Out := s.red f 9

/-- RED.FMAX (R153). -/
def execRedFmax (f : FAT) (s : State) : Out := s.red f 10

/-- RED.FMIN (R153). -/
def execRedFmin (f : FAT) (s : State) : Out := s.red f 11

/-- RED.INCW (R153). -/
def execRedIncw (f : FAT) (s : State) : Out := s.red f 12

/-- RED.DECW (R153). -/
def execRedDecw (f : FAT) (s : State) : Out := s.red f 13

/-- RED.ADDUS (R153). -/
def execRedAddus (f : FAT) (s : State) : Out := s.red f 14

/-- RED.SUBUS (R153). -/
def execRedSubus (f : FAT) (s : State) : Out := s.red f 15

/-! ## Fences (R150–R152) -/

/-- The short FENCE (R150). -/
def execFenceShort (f : FFence) (s : State) : Out :=
  s.run 1 none (s.guard4 f.g) [] (fun s => s.fence 0 f.scope (BitVec.ofNat 16 f.arg.toNat))

/-- FENCE, FENCE.ACQ and FENCE.REL (R151). -/
def State.longFence (s : State) (f : FSY) (kind : Nat) : Out :=
  s.run 2 none (s.guard7 f.g) [] (fun s => s.fence kind (BitVec.ofNat 2 (bits f.imm.toNat 16 2)) (BitVec.ofNat 16 f.imm.toNat))
/-- FENCE (R151). -/
def execFence (f : FSY) (s : State) : Out := s.longFence f 0
/-- FENCE.ACQ (R151). -/
def execFenceAcq (f : FSY) (s : State) : Out := s.longFence f 1
/-- FENCE.REL (R151). -/
def execFenceRel (f : FSY) (s : State) : Out := s.longFence f 2

/-- STORE_PERFORM (R146): entry n of an agent's store queue is performed, if its order allows. -/
def execStorePerform (a : Agent) (n : BitVec 5) (s : State) : Out := .next (s.performStore a n.toNat)

/-- L1_EVICTION (R276): a line leaves the L1, its dirty bytes to L2. -/
def execL1Eviction (c : CoreId) (n : BitVec 10) (s : State) : Out :=
  .next (match (s.core c.toNat).l1[n.toNat]? with
    | some l => if (s.core c.toNat).fenced then s else (s.writeBackL1 c.toNat l).modCore c.toNat (fun k => k.l1Drop l.asid l.vline)
    | none => s)

/-- L2_EVICTION (R276, R286): a line leaves the L2s, to memory when dirty. -/
def execL2Eviction (n : BitVec 32) (s : State) : Out :=
  .next (match s.l2[n.toNat]? with
    | some l => s.dropL2 l
    | none => s)

/-! ## Markers (R164) -/

/-- MARK (R164): the counts of macros the queues of the mask have accepted. -/
def execMark (f : FW) (s : State) : Out :=
  s.run 1 none (s.guard4 f.g) [] (fun s =>
    let k := s.core s.myCore
    .next (s.modMe (fun t => { t with
      markers := (upto 0 14).foldl (fun m j => if f.arg.getLsbD j then m.set none j (some (k.queue j).mseq) else m)
        t.markers })))

/-! ## Monitors (R166–R168) -/

/-- A completed monitor wait of the current strand: the final read is an acquire at the observation point's scope, and
MWAITT's x[d] := 0 (R167, R168). -/
def State.monitorDone (s : State) (m : Monitor) : State :=
  let s := s.acquire (m.space != 0)
  match m.dest with
  | some d => s.wx d 0
  | none => s

/-- A monitor wait (R168), which is a report point first: the checks of a load, then the value at the observation point and
the arming in one step, once the accesses that come before the observation have been performed (R134); a waiting instruction is no load that the
strand could issue past. It leaves the watchdog count, which only YIELD and the WAIT forms of R127 reset (R132). -/
def State.monitor (s : State) (space addr : Nat) (sz cond : BitVec 2) (operand : DWord) (dest : Option (BitVec 5))
    (deadline : Option DWord) : Done :=
  let n := 2 ^ sz.toNat
  let cls := s.me.cls
  s.reportPoint (fun s =>
    match s.checkAccess s.cur space addr n false cls with
    | some r => .fault s r
    | none =>
      let go (s : State) (at_ v : Nat) : Done :=
        let m : Monitor := ⟨BitVec.ofNat 3 space, at_, sz, cond, operand, false, dest, deadline⟩
        if monitorCond cond v m.want then .resume (s.monitorDone m) false else .park s (.monitor m)
      if s.me.loadWaits cls space addr n then .again s
      else if space = 2 then
        match s.translate (s.asidOf s.cur) addr n false !s.isPorch with
        | (.fault c, s) => .fault s (raiseAt c addr cls)
        | (.miss, s) => s.parkMiss addr cls
        | (.ok pa pol, s) =>
          if (if pol = 1 then s.badPooled pa else s.fillBad (pa / 64)) then .fault s (raiseAt 0x0D addr cls)
          else go s pa (if pol = 1 then bytesAt s.pooled pa n else s.physNat pa n)
      else
        match s.readSpace s.cur space addr n true with
        | (.val v, s) => go s addr v
        | (.fault c, s) => .fault s (raiseAt c addr cls)
        | (.miss va, s) => s.parkMiss va cls)

/-- A short monitor wait (R166). -/
def State.mwait (s : State) (f : FW) (space : Nat) : Out :=
  let a := BitVec.ofNat 5 (bits f.arg.toNat 0 5)
  let b := BitVec.ofNat 5 (bits f.arg.toNat 5 5)
  s.runWait none (s.guard4 f.g) [a, b] (fun s =>
    s.monitor space (s.ux a) (BitVec.ofNat 2 (bits f.arg.toNat 10 2)) (BitVec.ofNat 2 (bits f.arg.toNat 12 2)) (s.rx b) none
      none)
/-- MWAIT.S (R166). -/
def execMwaitS (f : FW) (s : State) : Out := s.mwait f 0
/-- MWAIT.G (R166). -/
def execMwaitG (f : FW) (s : State) : Out := s.mwait f 2
/-- MWAIT.Q (R166). -/
def execMwaitQ (f : FW) (s : State) : Out := s.mwait f 5

/-- A long monitor wait with a timeout in µs, 0 for none (R167). -/
def State.mwaitt (s : State) (f : FSY) (space : Nat) : Out :=
  let t := bits f.imm.toNat 4 12
  s.runWait none (s.guard7 f.g) [f.d, f.a, f.b] (fun s =>
    s.monitor space (s.ux f.a) (BitVec.ofNat 2 (bits f.imm.toNat 0 2)) (BitVec.ofNat 2 (bits f.imm.toNat 2 2)) (s.rx f.b)
      (some f.d) (if t = 0 then none else some (BitVec.ofNat 64 (s.tai + 1000 * t))))
/-- MWAITT.S (R167). -/
def execMwaittS (f : FSY) (s : State) : Out := s.mwaitt f 0
/-- MWAITT.G (R167). -/
def execMwaittG (f : FSY) (s : State) : Out := s.mwaitt f 2
/-- MWAITT.Q (R167). -/
def execMwaittQ (f : FSY) (s : State) : Out := s.mwaitt f 5

/-- MONITOR_WAKE (R168): a wait whose condition has held on the watched bytes completes. -/
def execMonitorWake (a : Agent) (s : State) : Out :=
  .next (s.asAgent a (fun s =>
    match s.me.run with
    | .parked (.monitor m) => if m.hit then (s.monitorDone m).completeWait false else s
    | _ => s))

/-- MWAITT_TIMEOUT (R167): x[d] := 1 when the time has come first. -/
def execMwaittTimeout (a : Agent) (s : State) : Out :=
  .next (s.asAgent a (fun s =>
    match s.me.run with
    | .parked (.monitor m) =>
      match m.deadline with
      | some t =>
        if m.hit then (s.monitorDone m).completeWait false
        else if t.toNat ≤ s.tai then
          ((match m.dest with | some d => s.wx d 1 | none => s).acquire (m.space != 0)).completeWait false
        else s
      | none => s
    | _ => s))

/-! ## Cache maintenance (R169–R171) -/

/-- A cache operation enters the store queue in the strand's cls class (R171). -/
def State.cacheEntry (s : State) (fn addr size : Nat) (scope : Nat) : Done :=
  s.enqueue ⟨.cache (BitVec.ofNat 4 fn) size, 2, addr, size, 0, 0, s.me.cls, BitVec.ofNat 2 scope, none, none, none, false,
    false, 0⟩

/-- A prefetch never faults (R171). -/
def State.prefetch (s : State) (f : FSY) (fn : Nat) : Out :=
  s.run 2 none (s.guard7 f.g) [f.a] (fun s =>
    if 2 ^ 52 ≤ s.ux f.a ∨ !s.windowOk s.cur 2 (s.ux f.a) 1 false then .next s
    else s.cacheEntry fn (s.ux f.a) 1 (bits f.imm.toNat 0 2))

/-- A line form: an address that is no multiple of 64 is fault 0x05 (R171). -/
def State.cacheLine (s : State) (f : FSY) (fn : Nat) : Out :=
  s.run 2 none (s.guard7 f.g) [f.a] (fun s =>
    match s.checkAccess s.cur 2 (s.ux f.a) 64 (fn == 10) s.me.cls with
    | some r => .fault s r
    | none => s.cacheEntry fn (s.ux f.a) 64 (bits f.imm.toNat 0 2))

/-- A range form: a range above 2^30 bytes is fault 0x02 (R171). -/
def State.cacheRange (s : State) (f : FSY) (fn : Nat) : Out :=
  s.run 2 none (s.guard7 f.g) [f.a, f.b] (fun s =>
    if 2 ^ 30 < s.ux f.b then .fault s (raise 0x02)
    else if 2 ^ 52 < s.ux f.a + s.ux f.b then .fault s (raiseAt 0x06 (s.ux f.a) s.me.cls)
    else if !s.windowOk s.cur 2 (s.ux f.a) (s.ux f.b) (fn == 13) then .fault s (raiseAt 0x07 (s.ux f.a) s.me.cls)
    else s.cacheEntry fn (s.ux f.a) (s.ux f.b) (bits f.imm.toNat 0 2))

/-- A whole-cache form. -/
def State.cacheAll (s : State) (f : FSY) (fn : Nat) : Out :=
  s.run 2 none (s.guard7 f.g) [] (fun s => s.cacheEntry fn 0 0 (bits f.imm.toNat 0 2))

/-- CPREF (R170). -/
def execCpref (f : FSY) (s : State) : Out := s.prefetch f 6
/-- CPREFW (R170). -/
def execCprefw (f : FSY) (s : State) : Out := s.prefetch f 7
/-- CCLEAN (R170). -/
def execCclean (f : FSY) (s : State) : Out := s.cacheLine f 8
/-- CFLUSH (R170). -/
def execCflush (f : FSY) (s : State) : Out := s.cacheLine f 9
/-- CINV (R170). -/
def execCinv (f : FSY) (s : State) : Out := s.cacheLine f 10
/-- CCLEANR (R170). -/
def execCcleanr (f : FSY) (s : State) : Out := s.cacheRange f 11
/-- CFLUSHR (R170). -/
def execCflushr (f : FSY) (s : State) : Out := s.cacheRange f 12
/-- CINVR (R170). -/
def execCinvr (f : FSY) (s : State) : Out := s.cacheRange f 13
/-- CCLEANA (R170). -/
def execCcleana (f : FSY) (s : State) : Out := s.cacheAll f 14
/-- CFLUSHA (R170). -/
def execCflusha (f : FSY) (s : State) : Out := s.cacheAll f 15

end Sys2Proof.Machine
end

