-- ==== Sys2Proof/Machine/Lanes.lean ====
section
/-! DEFINITION. Elementwise vector operations on one 32-bit element (spec/06_vector_unit.md, R172, R176, R180–R184,
R187): lanes, exact inner values, the activation forms, and the tables of majors 0x50 and 0x51. -/

namespace Sys2Proof.Machine

/-! ## Lanes (R172) -/

/-- Width of a lane of type `ty`. -/
def laneWidth (ty : Nat) : Nat :=
  match ty with
  | 0 | 3 => 32
  | 1 | 2 => 16
  | 4 | 5 => 8
  | _ => 4
/-- The format of the floating types. -/
def laneFmt (ty : Nat) : Fmt := match ty with | 0 => Fmt.fp32 | 1 => Fmt.bf16 | _ => Fmt.fp16

/-- Lane `j` of width `w` of an element. -/
def lane (w j : Nat) (e : Word) : Nat := bits e.toNat (w * j) w

/-- Puts lane results, lowest first, into one element, and collects their flags. -/
def packLanes (w : Nat) (rs : List Res) : Word × Flags :=
  let r := rs.foldr (fun r (acc : Nat × Flags) => (r.bits % 2 ^ w + 2 ^ w * acc.1, r.flags ||| acc.2)) (0, 0)
  (BitVec.ofNat 32 r.1, r.2)

/-- An operation on every lane of the elements a, b, c. -/
def perLane (w : Nat) (f : Nat → Nat → Nat → Res) (a b c : Word) : Word × Flags :=
  packLanes w ((upto 0 (32 / w)).map (fun j => f (lane w j a) (lane w j b) (lane w j c)))

/-! ## Exact inner values (R48, R181) -/

/-- An exact value on its way to one rounding: whether an operand is a NaN, whether an invalid operation made it, whether
that was a product of 0 and ∞, and its sign, that of a zero included. -/
structure Exact where
  nan : Bool
  bad : Bool
  zeroInf : Bool
  inf : Bool
  sign : Bool
  val : Frac
  deriving DecidableEq, Repr

namespace Exact
def ofFp (x : Fp) : Exact := ⟨x.isNan, false, false, x.isInf, x.sign, if x.isNan || x.isInf then Frac.zero else x.val⟩
def neg (e : Exact) : Exact := { e with sign := !e.sign, val := e.val.neg }
/-- Not a number, by an operand or by an operation. -/
def isNan (e : Exact) : Bool := e.nan || e.bad
def isZero (e : Exact) : Bool := !e.isNan && !e.inf && e.val.isZero
/-- A sum; an exact zero takes its sign from R48. -/
def add (rm : Rm) (a b : Exact) : Exact :=
  let v := a.val.add b.val
  { nan := a.nan || b.nan
    bad := a.bad || b.bad || (a.inf && b.inf && a.sign != b.sign)
    zeroInf := a.zeroInf || b.zeroInf
    inf := (a.inf || b.inf) && !(a.isNan || b.isNan || (a.inf && b.inf && a.sign != b.sign))
    sign := if a.inf then a.sign else if b.inf then b.sign else if v.isZero then zeroSumSign rm a.sign b.sign else v.isNeg
    val := if a.inf || b.inf then Frac.zero else v }
/-- A product. -/
def mul (a b : Exact) : Exact :=
  let zi := (a.isZero && b.inf) || (a.inf && b.isZero)
  { nan := a.nan || b.nan
    bad := a.bad || b.bad || zi
    zeroInf := a.zeroInf || b.zeroInf || zi
    inf := (a.inf || b.inf) && !(a.isNan || b.isNan || zi)
    sign := a.sign != b.sign
    val := if a.inf || b.inf then Frac.zero else a.val.mul b.val }
/-- The one rounding of a fused operation over the operands `ops` in operand order. -/
def round (f : Fmt) (rm : Rm) (ops : List Fp) (e : Exact) : Res :=
  match firstNan f ops with
  | some n => ⟨n, snanFlag ops ||| Flags.when e.zeroInf Flags.nv⟩
  | none => if e.bad then invalid f else if e.inf then infRes f e.sign else roundOr f rm e.sign e.val
end Exact

/-! ## Floating lane results (R180–R183) -/

/-- VRINT: an integral value; a zero keeps the operand's sign; NX is not raised (R180, R181). -/
def fpRint (f : Fmt) (rm : Rm) (a : Fp) : Res :=
  match firstNan f [a] with
  | some n => ⟨n, snanFlag [a]⟩
  | none =>
    if a.isInf then infRes f a.sign
    else
      let n := roundInt rm a.val
      if n = 0 then zeroBits f a.sign else roundMode f .rne (Frac.ofInt n)

/-- VLDEXP: a × 2^n, rounded once (R180, R181). An |n| above 4,096 rounds as ±4,096 does. -/
def fpLdexp (f : Fmt) (rm : Rm) (a : Fp) (n : Int) : Res :=
  match firstNan f [a] with
  | some n => ⟨n, snanFlag [a]⟩
  | none => if a.isInf then infRes f a.sign else roundOr f rm a.sign (a.val.mul (Frac.pow2 (sat n (-4096) 4096)))

/-- VRSQRT (R181). -/
def fpRsqrt (f : Fmt) (rm : Rm) (a : Fp) : Res :=
  match firstNan f [a] with
  | some n => ⟨n, snanFlag [a]⟩
  | none =>
    if a.isZero then ⟨f.withSign a.sign f.infBits, Flags.dz⟩
    else if a.sign then invalid f
    else if a.isInf then zeroBits f false
    else roundMode f rm (sqrtSticky ((Frac.ofInt 1).div a.val))

/-- maximumNumber and minimumNumber (R181). -/
def fpMaxNum (f : Fmt) (a b : Fp) : Res :=
  if a.isNan && b.isNan then ⟨f.nanBits, snanFlag [a, b]⟩
  else if a.isNan then ⟨b.bits, snanFlag [a]⟩
  else if b.isNan then ⟨a.bits, snanFlag [b]⟩
  else fpMax f a b
def fpMinNum (f : Fmt) (a b : Fp) : Res :=
  if a.isNan && b.isNan then ⟨f.nanBits, snanFlag [a, b]⟩
  else if a.isNan then ⟨b.bits, snanFlag [a]⟩
  else if b.isNan then ⟨a.bits, snanFlag [b]⟩
  else fpMin f a b

/-- One of f's format. -/
def fpOne (f : Fmt) : Fp := ⟨f, f.bias.toNat * 2 ^ f.fracBits⟩

/-- VSQD: δ × δ + c with δ = a − b exact (R180). -/
def fpSqd (f : Fmt) (rm : Rm) (a b c : Fp) : Res :=
  let d := (Exact.ofFp a).add rm (Exact.ofFp b).neg
  ((d.mul d).add rm (Exact.ofFp c)).round f rm [a, b, c]

/-- VLERP: a + c × (b − a) (R180). -/
def fpLerp (f : Fmt) (rm : Rm) (a b c : Fp) : Res :=
  let d := (Exact.ofFp b).add rm (Exact.ofFp a).neg
  ((Exact.ofFp a).add rm ((Exact.ofFp c).mul d)).round f rm [a, b, c]

/-- VDOT2: a0 × b0 + a1 × b1 + c in FP32 (R180, R181). -/
def fpDot2 (rm : Rm) (a0 b0 a1 b1 c : Fp) : Res :=
  let p0 := (Exact.ofFp a0).mul (Exact.ofFp b0)
  let p1 := (Exact.ofFp a1).mul (Exact.ofFp b1)
  ((p0.add rm p1).add rm (Exact.ofFp c)).round Fmt.fp32 rm [a0, b0, a1, b1, c]

/-- An FP32 value as its exact value, an infinity, or a NaN, rounded once to `f` in RNE, with the sign `s` of a zero. -/
def finish (f : Fmt) (s : Bool) (x : Frac) : Res := roundOr f .rne s x

/-- x of the activation forms: a lane widened exactly to FP32 bits (R182). -/
def widen (a : Fp) : Nat := (fpConvert Fmt.fp32 .rne a).bits
/-- The bits of an FP32 value negated. -/
def negBits (b : Nat) : Nat := (b + 2 ^ 31) % 2 ^ 32

/-- x / (1 + e) rounded once; e is a finite non-negative value (R182). -/
def overOnePlus (f : Fmt) (x : Fp) (e : Fp) : Res :=
  if x.isInf then infRes f x.sign else finish f x.sign (x.val.div ((Frac.ofInt 1).add e.val))

/-- The activation forms on a NaN or on another x (R182). -/
def activation (f : Fmt) (a : Fp) (g : Fp → Res) : Res :=
  match firstNan f [a] with
  | some n => ⟨n, snanFlag [a]⟩
  | none => g (fp32 (widen a))

def fpExp (f : Fmt) (a : Fp) : Res := activation f a (fun x => fpConvert f .rne (fp32 (landingExp x.bits)))
def fpExp2 (f : Fmt) (a : Fp) : Res := activation f a (fun x => fpConvert f .rne (fp32 (exp2Seg x.bits)))
def fpSigm (f : Fmt) (a : Fp) : Res := activation f a (fun x =>
  let e := fp32 (landingExp (negBits x.bits))
  if e.isInf then zeroBits f false else finish f false ((Frac.ofInt 1).div ((Frac.ofInt 1).add e.val)))
def fpTanh (f : Fmt) (a : Fp) : Res := activation f a (fun x =>
  if x.isZero then zeroBits f x.sign
  else
    let e := fp32 (landingExp (fpMul Fmt.fp32 .rne (fp32 0xC0000000) (fp32 (x.bits % 2 ^ 31))).bits)
    let r := finish f false (((Frac.ofInt 1).sub e.val).div ((Frac.ofInt 1).add e.val))
    ⟨f.withSign x.sign r.bits, r.flags⟩)
def fpSilu (f : Fmt) (a : Fp) : Res := activation f a (fun x =>
  let e := fp32 (landingExp (negBits x.bits))
  if e.isInf then zeroBits f true else overOnePlus f x e)
def fpGelu (f : Fmt) (a : Fp) : Res := activation f a (fun x =>
  let e := fp32 (landingExp (negBits (fpMul Fmt.fp32 .rne (fp32 0x3FD9DB23) x).bits))
  if e.isInf then zeroBits f true else overOnePlus f x e)

/-- lg[i] = round_rne(log2(1 + i/64), FP32), as FP32 bits (R183). -/
def lgTab : List Nat :=
  [0x0, 0x3cb73cb4, 0x3d35d69c, 0x3d8759c5, 0x3db31fb8, 0x3dde4212, 0x3e0462c4, 0x3e19574f, 0x3e2e00d2, 0x3e42615f]
  ++ [0x3e567af1, 0x3e6a4f72, 0x3e7de0b6, 0x3e88983f, 0x3e92203d, 0x3e9b8926, 0x3ea4d3c2, 0x3eae00d2, 0x3eb7110e, 0x3ec0052b]
  ++ [0x3ec8ddd4, 0x3ed19bb0, 0x3eda3f60, 0x3ee2c97d, 0x3eeb3a9f, 0x3ef39355, 0x3efbd42b, 0x3f01fed4, 0x3f060828, 0x3f0a0650]
  ++ [0x3f0df989, 0x3f11e20f, 0x3f15c01a, 0x3f1993e3, 0x3f1d5da0, 0x3f211d84, 0x3f24d3c2, 0x3f28808c, 0x3f2c2411, 0x3f2fbe80]
  ++ [0x3f335004, 0x3f36d8cb, 0x3f3a58ff, 0x3f3dd0c8, 0x3f41404f, 0x3f44a7ba, 0x3f480731, 0x3f4b5ed7, 0x3f4eaed0, 0x3f51f740]
  ++ [0x3f553848, 0x3f587209, 0x3f5ba4a4, 0x3f5ed039, 0x3f61f4e5, 0x3f6512c7, 0x3f6829fb, 0x3f6b3a9f, 0x3f6e44cd, 0x3f7148a1]
  ++ [0x3f744636, 0x3f773da4, 0x3f7a2f04, 0x3f7d1a71, 0x3f800000]

/-- VLOG2 (R183). -/
def fpLog2 (f : Fmt) (a : Fp) : Res := activation f a (fun x =>
  if x.isZero then ⟨f.withSign true f.infBits, Flags.dz⟩
  else if x.sign then invalid f
  else if x.isInf then infRes f false
  else
    let n := x.val.floorLog2
    let u64 := ((x.val.mul (Frac.pow2 (-n))).sub (Frac.ofInt 1)).mul (Frac.ofInt 64)
    let i := u64.floor
    let t := u64.sub (Frac.ofInt i)
    let lo := (fp32 (lgTab.getD i.toNat 0)).val
    let hi := (fp32 (lgTab.getD (i.toNat + 1) 0)).val
    finish f false ((Frac.ofInt n).add (lo.add ((hi.sub lo).mul t))))

/-! ## Elementwise operations (R180, R184, R187) -/

/-- An elementwise operation: how many of a, b, c it reads, which rm, type and imm13 it takes, its effect on an element. -/
structure VecOp where
  srcs : Nat
  ok : BitVec 2 → Nat → Nat → Bool
  elem : Rm → Nat → Nat → Word → Word → Word → Word × Flags

/-- A floating operation of types .f32, .bf16, .f16; `rounds` when it uses rm (R176). -/
def floatOp (srcs : Nat) (rounds : Bool) (f : Fmt → Rm → Fp → Fp → Fp → Res) : VecOp where
  srcs := srcs
  ok rm ty imm := decide (ty < 3) && (rounds || rm == 0) && imm == 0
  elem rm ty _ := perLane (laneWidth ty) (fun a b c =>
    f (laneFmt ty) rm ⟨laneFmt ty, a⟩ ⟨laneFmt ty, b⟩ ⟨laneFmt ty, c⟩)

def opVadd : VecOp := floatOp 2 true (fun f rm a b _ => fpAdd f rm a b)
def opVsub : VecOp := floatOp 2 true (fun f rm a b _ => fpAdd f rm a b true)
def opVmul : VecOp := floatOp 2 true (fun f rm a b _ => fpMul f rm a b)
def opVfma : VecOp := floatOp 3 true (fun f rm a b c => fpFma f rm a b c)
def opVfms : VecOp := floatOp 3 true (fun f rm a b c => fpFma f rm a b c false true)
def opVfnma : VecOp := floatOp 3 true (fun f rm a b c => fpFma f rm a b c true false)
def opVdiv : VecOp := floatOp 2 true (fun f rm a b _ => fpDiv f rm a b)
def opVsqrt : VecOp := floatOp 1 true (fun f rm a _ _ => fpSqrt f rm a)
def opVmax : VecOp := floatOp 2 false (fun f _ a b _ => fpMax f a b)
def opVmin : VecOp := floatOp 2 false (fun f _ a b _ => fpMin f a b)
def opVabs : VecOp := floatOp 1 false (fun f _ a _ _ => ⟨a.bits % f.signBit, 0⟩)
def opVneg : VecOp := floatOp 1 false (fun f _ a _ _ => ⟨(a.bits + f.signBit) % (2 * f.signBit), 0⟩)
def opVcpsgn : VecOp := floatOp 2 false (fun f _ a b _ => ⟨f.withSign b.sign (a.bits % f.signBit), 0⟩)
def opVrint : VecOp := floatOp 1 true (fun f rm a _ _ => fpRint f rm a)
def opVldexp : VecOp :=
  { floatOp 2 true (fun f rm a b _ => fpLdexp f rm a (sextNat b.bits 32)) with ok := fun _ ty imm => ty == 0 && imm == 0 }
def opVrcp : VecOp := floatOp 1 true (fun f rm a _ _ => fpDiv f rm (fpOne f) a)
def opVrsqrt : VecOp := floatOp 1 true (fun f rm a _ _ => fpRsqrt f rm a)
def opVexp : VecOp := floatOp 1 false (fun f _ a _ _ => fpExp f a)
def opVexp2 : VecOp := floatOp 1 false (fun f _ a _ _ => fpExp2 f a)
def opVlog2 : VecOp := floatOp 1 false (fun f _ a _ _ => fpLog2 f a)
def opVtanh : VecOp := floatOp 1 false (fun f _ a _ _ => fpTanh f a)
def opVsigm : VecOp := floatOp 1 false (fun f _ a _ _ => fpSigm f a)
def opVsilu : VecOp := floatOp 1 false (fun f _ a _ _ => fpSilu f a)
def opVgelu : VecOp := floatOp 1 false (fun f _ a _ _ => fpGelu f a)
def opVmaxnum : VecOp := floatOp 2 false (fun f _ a b _ => fpMaxNum f a b)
def opVminnum : VecOp := floatOp 2 false (fun f _ a b _ => fpMinNum f a b)
def opVsqd : VecOp := floatOp 3 true fpSqd
def opVlerp : VecOp := floatOp 3 true fpLerp

/-- VDOT2: sources of two lanes, c and the result FP32 (R180, R181). -/
def opVdot2 : VecOp where
  srcs := 3
  ok _ ty imm := (ty == 1 || ty == 2) && imm == 0
  elem rm ty _ a b c :=
    let v (j : Nat) (e : Word) : Fp := ⟨laneFmt ty, lane 16 j e⟩
    let r := fpDot2 rm (v 0 a) (v 0 b) (v 1 a) (v 1 b) (fp32 c.toNat)
    (BitVec.ofNat 32 r.bits, r.flags)

/-- An integer result as lane bits. -/
def IntRes.lane (w : Nat) (r : IntRes) : Res := ⟨(r.val % 2 ^ w).toNat, r.flags⟩

/-- The lane conversions of VCVT (R184): destination type, source type. -/
def cvtLane (dst src : Nat) (rm : Rm) (a : Nat) : Res :=
  match dst, src with
  | 3, 0 => (intFrom 32 rm (fp32 a)).lane 32
  | 0, 3 => fpOfInt Fmt.fp32 rm (sextNat a 32)
  | 1, 2 => fpConvert Fmt.bf16 rm ⟨Fmt.fp16, a⟩
  | 2, 1 => fpConvert Fmt.fp16 rm ⟨Fmt.bf16, a⟩
  | 5, 4 => mk8OfFrac (Frac.ofInt (sextNat a 8))
  | _, _ => (intOfMk8 (-128) 127 rm a).lane 8
/-- The pairs VCVT takes. -/
def cvtOk (dst src : Nat) : Bool := [(3, 0), (0, 3), (1, 2), (2, 1), (5, 4), (4, 5)].contains (dst, src)

def opVcvt : VecOp where
  srcs := 1
  ok _ ty imm := cvtOk ty imm
  elem rm ty imm := perLane (laneWidth ty) (fun a _ _ => cvtLane ty imm rm a)

/-- An integer operation of types .i32 and .i8 on lanes of n bits, with the immediates `immOk` (R187). -/
def intOp (srcs : Nat) (immOk : Nat → Bool) (f : Nat → Nat → Nat → Nat → Nat → Int) : VecOp where
  srcs := srcs
  ok rm ty imm := (ty == 3 || ty == 4) && rm == 0 && immOk imm
  elem _ ty imm := perLane (laneWidth ty) (fun a b c => ⟨(f (laneWidth ty) imm a b c % 2 ^ laneWidth ty).toNat, 0⟩)

def noImm (i : Nat) : Bool := i == 0
def imm5 (i : Nat) : Bool := decide (i < 32)
/-- The immediate of VADDI and VANDI, sign-extended. -/
def simm13 (i : Nat) : Int := sextNat i 13

def opViadd : VecOp := intOp 2 noImm (fun _ _ a b _ => a + b)
def opVisub : VecOp := intOp 2 noImm (fun _ _ a b _ => a - b)
def opVimul : VecOp := intOp 2 noImm (fun _ _ a b _ => a * b)
def opVimulh : VecOp := intOp 2 noImm (fun n _ a b _ => (sextNat a n * sextNat b n).fdiv (2 ^ n))
def opVimad : VecOp := intOp 3 noImm (fun _ _ a b c => a * b + c)
def opViadds : VecOp := intOp 2 noImm (fun n _ a b _ => sat (sextNat a n + sextNat b n) (-2 ^ (n - 1)) (2 ^ (n - 1) - 1))
def opVisubs : VecOp := intOp 2 noImm (fun n _ a b _ => sat (sextNat a n - sextNat b n) (-2 ^ (n - 1)) (2 ^ (n - 1) - 1))
def opViaddus : VecOp := intOp 2 noImm (fun n _ a b _ => sat (a + b) 0 (2 ^ n - 1))
def opVisubus : VecOp := intOp 2 noImm (fun n _ a b _ => sat (a - b) 0 (2 ^ n - 1))
def opVimin : VecOp := intOp 2 noImm (fun n _ a b _ => min (sextNat a n) (sextNat b n))
def opVimax : VecOp := intOp 2 noImm (fun n _ a b _ => max (sextNat a n) (sextNat b n))
def opViminu : VecOp := intOp 2 noImm (fun _ _ a b _ => min a b)
def opVimaxu : VecOp := intOp 2 noImm (fun _ _ a b _ => max a b)
def opViabs : VecOp := intOp 1 noImm (fun n _ a _ _ => (sextNat a n).natAbs)
def opVand : VecOp := intOp 2 noImm (fun _ _ a b _ => (a &&& b : Nat))
def opVor : VecOp := intOp 2 noImm (fun _ _ a b _ => (a ||| b : Nat))
def opVxor : VecOp := intOp 2 noImm (fun _ _ a b _ => (a ^^^ b : Nat))
def opVandn : VecOp := intOp 2 noImm (fun n _ a b _ => (a &&& (2 ^ n - 1 - b) : Nat))
def opVnot : VecOp := intOp 1 noImm (fun n _ a _ _ => (2 ^ n - 1 - a : Nat))
/-- Shifts: an amount of n or more gives 0, or the sign fill (R187). -/
def shl (n a m : Nat) : Int := if n ≤ m then 0 else a * 2 ^ m
def shr (n a m : Nat) : Int := if n ≤ m then 0 else (a / 2 ^ m : Nat)
def sar (n a m : Nat) : Int := (sextNat a n).fdiv (2 ^ min m n)
def opVsll : VecOp := intOp 2 noImm (fun n _ a b _ => shl n a b)
def opVsrl : VecOp := intOp 2 noImm (fun n _ a b _ => shr n a b)
def opVsra : VecOp := intOp 2 noImm (fun n _ a b _ => sar n a b)
def opVslli : VecOp := intOp 1 imm5 (fun n i a _ _ => shl n a i)
def opVsrli : VecOp := intOp 1 imm5 (fun n i a _ _ => shr n a i)
def opVsrai : VecOp := intOp 1 imm5 (fun n i a _ _ => sar n a i)
def opVpopc : VecOp := intOp 1 noImm (fun n _ a _ _ => countOnes n a)
def opVclz : VecOp := intOp 1 noImm (fun n _ a _ _ => if a = 0 then n else (n - 1 - Nat.log2 a : Nat))
def opVaddi : VecOp := intOp 1 (fun _ => true) (fun _ i a _ _ => a + simm13 i)
def opVandi : VecOp := intOp 1 (fun _ => true) (fun n i a _ _ => (a &&& (simm13 i % 2 ^ n).toNat : Nat))
def opVsrar : VecOp := intOp 1 imm5 (fun n i a _ _ => if n ≤ i then 0 else roundInt .rne ⟨sextNat a n, 2 ^ i⟩)
def opVclamp : VecOp := intOp 3 noImm (fun n _ a b c => min (max (sextNat a n) (sextNat b n)) (sextNat c n))

/-- VDOT4: four signed byte products added to c (R187). -/
def opVdot4 : VecOp where
  srcs := 3
  ok rm ty imm := ty == 4 && rm == 0 && imm == 0
  elem _ _ _ a b c :=
    (BitVec.ofInt 32 ((upto 0 4).foldl (fun t j => t + sextNat (lane 8 j a) 8 * sextNat (lane 8 j b) 8) c.toInt), 0)

/-- The elementwise operations of major 0x50 by minor value, as VAPPLY names them: not VCVTN and VCVTW (R223). -/
def floatOps : List (Option VecOp) :=
  [opVadd, opVsub, opVmul, opVfma, opVfms, opVfnma, opVdiv, opVsqrt, opVmax, opVmin, opVabs, opVneg, opVcpsgn, opVrint,
    opVldexp, opVrcp, opVrsqrt, opVexp, opVexp2, opVlog2, opVtanh, opVsigm, opVsilu, opVgelu, opVcvt, none, none,
    opVmaxnum, opVminnum, opVdot2, opVsqd, opVlerp]
/-- The operations of major 0x51 by minor value. -/
def intOps : List (Option VecOp) :=
  [opViadd, opVisub, opVimul, opVimulh, opVimad, opViadds, opVisubs, opViaddus, opVisubus, opVimin, opVimax, opViminu,
    opVimaxu, opViabs, opVand, opVor, opVxor, opVandn, opVnot, opVsll, opVsrl, opVsra, opVslli, opVsrli, opVsrai, opVpopc,
    opVclz, opVdot4, opVaddi, opVandi, opVsrar, opVclamp]

end Sys2Proof.Machine
end

