-- ==== Sys2Proof/Machine/Macros.lean ====
section
/-! DEFINITION. Macros as numbers: opcodes, fields, the checks PUSH makes, and the rings a macro names
(spec/07_engine_commands.md, R202, R203, R208, R210–R234, R366). -/

namespace Sys2Proof.Machine

/-! ## Opcodes (R202) -/

/-- mop of a macro. -/
def mopOf (m : Nat) : Nat := bits m 0 8

/-- The queues that accept a macro opcode and its length in command registers; `none` for an undefined one. -/
def mopInfo (mop : Nat) : Option ((Nat → Bool) × Nat) :=
  let rows (q : Nat) : Bool := decide (q < 8)
  match mop with
  | 0x01 | 0x02 | 0x05 => some (rows, 1)
  | 0x03 | 0x04 => some (rows, 3)
  | 0x06 | 0x07 => some ((· == 0), 1)
  | 0x10 => some ((· == 8), 1)
  | 0x20 | 0x22 => some ((· == 9), 2)
  | 0x21 | 0x23 | 0x24 | 0x25 | 0x26 => some ((· == 9), 1)
  | 0x30 => some (fun q => q == 10 || q == 11, 4)
  | 0x40 | 0x41 | 0x42 | 0x43 => some ((· == 12), 1)
  | 0x44 | 0x45 => some ((· == 12), 2)
  | 0x50 | 0x52 | 0x53 => some ((· == 13), 2)
  | 0x51 => some ((· == 13), 3)
  | _ => none

/-! ## Checks of PUSH (R203) -/

/-- The fields marked zero, as (lowest bit, width). -/
def zeroFields (mop : Nat) : List (Nat × Nat) :=
  match mop with
  | 0x01 => [(45, 83)]
  | 0x02 => [(24, 104)]
  | 0x03 | 0x04 => [(95, 33), (380, 4)]
  | 0x05 => [(27, 101)]
  | 0x06 => [(48, 80)]
  | 0x07 => [(25, 103)]
  | 0x10 => [(69, 59), (55, 1)]
  | 0x20 => [(224, 32), (92, 36)]
  | 0x21 | 0x24 => [(47, 81)]
  | 0x22 => [(176, 80), (97, 31)]
  | 0x23 => [(59, 69)]
  | 0x25 => [(55, 73)]
  | 0x26 => [(76, 52)]
  | 0x30 => [(208, 48), (56, 8)]
  | 0x40 => [(51, 77)]
  | 0x41 => [(54, 74)]
  | 0x42 => [(48, 80)]
  | 0x43 => [(36, 92)]
  | 0x44 => [(34, 94)]
  | 0x45 => [(45, 83), (192, 64)]
  | 0x50 => [(224, 32), (35, 29)]
  | 0x51 => [(224, 32), (35, 29), (172, 8), (273, 111)]
  | 0x52 => [(22, 42), (224, 32)]
  | 0x53 => [(192, 64), (63, 1)]
  | _ => []

/-- The pairs of activation and weight formats (R61, R213): afmt 0 MK8, 1 INT8, 2 BF16; wfmt as ALATCH. -/
def pairOk (afmt wfmt : Nat) : Bool := [(0, 0), (0, 1), (0, 2), (1, 0), (1, 1), (1, 2), (2, 3)].contains (afmt, wfmt)

/-- Field of level i of a loop nest: bit `lo` of the 48-bit group (R208). -/
def nestField (m i lo w : Nat) : Nat := bits m (128 + 48 * i + lo) w

/-- The value checks of AMAC and ADIST (R208, R213). -/
def arrayMacroOk (m : Nat) (dist : Bool) : Bool :=
  let afmt := bits m 28 3
  let wfmt := bits m 25 3
  let lmode := bits m 38 2
  let slvl := bits m 377 3
  let levels := upto 0 5
  pairOk afmt wfmt && !(bit m 24 && afmt == 2) && lmode != 3 &&
    (bit m 77 || bits m 78 17 == 0 && levels.all (fun i => nestField m i 24 8 == 0)) &&
    (!dist || !(bit m 24) && lmode != 2 && afmt == wfmt && decide (afmt < 2)) &&
    slvl != 5 && slvl != 6 &&
    levels.all (fun i => nestField m i 42 2 != 3 && (nestField m i 42 2 == 0 || slvl != 7))

/-- The operation VAPPLY names (R223). -/
def vapplyOp (m : Nat) : Option VecOp := ((if bit m 21 then intOps else floatOps).getD (bits m 16 5) none)

/-- The value checks of VAPPLY: those the instruction itself makes (R223). -/
def vapplyOk (m : Nat) : Bool :=
  match vapplyOp m with
  | none => false
  | some o =>
    o.ok (BitVec.ofNat 2 (bits m 25 2)) (bits m 22 3) (bits m 56 13) &&
      (decide (2 ≤ o.srcs) || bits m 32 5 == 0) && (decide (3 ≤ o.srcs) || bits m 37 5 == 0)

/-- Element and packet sizes of a reduction window by op and cols (R233). -/
def windowElem (op cols : Nat) : Nat :=
  match op with
  | 0 => 4
  | 1 => 8
  | 2 => 1
  | _ => 16 + 8 * cols
def packetElem (op cols : Nat) : Nat := if op = 2 then 8 else windowElem op cols

/-- Rows of a landing macro fit in the landing (R216). -/
def rowsOk (m : Nat) : Bool := decide (bits m 24 7 + bits m 31 7 + 1 ≤ 128)

/-- The value checks of step 6 of R203, by macro. -/
def macroValueOk (m : Nat) : Bool :=
  let b := bits m
  match mopOf m with
  | 0x01 => decide (b 24 3 ≤ 3) && (!(bit m 27) || b 24 3 == 2)
  | 0x03 => arrayMacroOk m false
  | 0x04 => arrayMacroOk m true
  | 0x05 => decide (b 24 3 ≤ 3)
  | 0x06 => (upto 0 8).all (fun j => !(bit m (16 + 4 * j + 3)) || b (16 + 4 * j) 3 == 0)
  | 0x10 => vapplyOk m
  | 0x20 => rowsOk m && b 53 2 != 3 && decide (b 47 4 ≤ 6) && (b 53 2 == 0 || b 192 32 % 64 == 0)
  | 0x21 => rowsOk m
  | 0x22 =>
    rowsOk m && decide (b 49 7 + b 31 7 + 1 ≤ 128) && decide (b 56 7 + b 31 7 + 1 ≤ 128) && (b 47 2 == 0 || b 16 8 == 0)
  | 0x23 => rowsOk m && decide (b 47 7 ≤ 63)
  | 0x24 => rowsOk m && decide (2 ≤ countOnes 8 (b 16 8))
  | 0x25 => rowsOk m && decide (b 47 3 ≤ 2)
  | 0x26 => rowsOk m && b 52 16 % 2 == 0
  | 0x30 =>
    decide (b 16 3 ≤ 3) && decide (b 19 3 ≤ 3) && (!(bit m 22) || b 16 3 == 0) && (!(bit m 28) || b 19 3 == 0) &&
      (bit m 22 == (b 36 8 != 0)) && (bit m 28 == (b 44 8 != 0))
  | 0x40 => decide (b 16 9 + b 25 9 ≤ 511)
  | 0x43 => decide (b 33 3 ≤ 4)
  | 0x44 => !(bit m 33) || b 16 9 == 0 && b 25 8 == 0
  | 0x50 | 0x51 =>
    [1, 2, 4].contains (b 18 3) && (b 18 3 != 1 || decide (b 192 32 < 64)) && decide (b 16 2 ≤ 1) &&
      (!(bit m 21) || b 16 2 == 0) && (bit m 21 == (b 27 8 != 0)) &&
      (mopOf m != 0x51 || decide (b 256 4 + b 264 4 ≤ 15) && decide (b 260 4 + b 268 4 ≤ 15))
  | 0x52 => decide (b 20 2 ≤ 1)
  | 0x53 =>
    decide (b 30 4 < 12 ∨ b 30 4 = 15) && ((b 20 2 == 3) == (b 47 16 != 0)) &&
      decide (packetElem (b 20 2) (b 47 16) ≤ 4096)
  | _ => true

/-- The checks 3 to 6 of PUSH on a macro of `n` registers for a queue (R203): the fault code, if any. -/
def macroFault (queue n m : Nat) : Option (BitVec 8) :=
  match mopInfo (mopOf m) with
  | none => some 0x01
  | some (accepts, len) =>
    if !accepts queue then some 0x01
    else if bits m 8 2 + 1 ≠ n ∨ len ≠ n then some 0x02
    else if bits m 10 6 ≠ 0 || (zeroFields (mopOf m)).any (fun z => bits m z.1 z.2 != 0) then some 0x02
    else if !macroValueOk m then some 0x02
    else none

/-! ## Rings a macro names (R28) -/

/-- The rings named by a macro. -/
def macroRings (m : Nat) : List Nat :=
  match mopOf m with
  | 0x03 | 0x04 => [bits m 40 5]
  | 0x10 =>
    let n := match vapplyOp m with | some o => o.srcs | none => 1
    bits m 42 5 :: [bits m 27 5, bits m 32 5, bits m 37 5].take n
  | 0x20 => if bits m 53 2 = 0 then [bits m 55 5] else []
  | 0x23 => [bits m 54 5]
  | 0x25 => [bits m 50 5]
  | 0x26 => [bits m 47 5]
  | 0x30 => (if bit m 22 then [bits m 23 5] else []) ++ (if bit m 28 then [bits m 29 5] else [])
  | 0x40 => [bits m 42 5]
  | 0x41 => [bits m 28 5, bits m 33 5]
  | 0x42 => if bit m 42 then [bits m 43 5] else []
  | 0x50 | 0x51 => if bit m 21 then [bits m 22 5] else []
  | _ => []

end Sys2Proof.Machine
end

