-- ==== Sys2Proof/Machine/Rings.lean ====
section
/-! DEFINITION. Ring updates, the ring instructions and the barrier (spec/01_machine_state.md, R24–R28;
spec/05_memory_rings_sync.md, R157–R163). -/

namespace Sys2Proof.Machine

/-! ## Updates of the ring unit (R27, R158) -/

/-- owner_flip of counter values `start` to `start` + n − 1 (R27, R89). -/
def Ring.flip (r : Ring) (start : BitVec 9) (n : Nat) : BitVec 256 :=
  (upto 0 n).foldl (fun (o : BitVec 256) i => o ^^^ (1 <<< ((start + BitVec.ofNat 9 i).toNat % r.slots))) r.owners

def Ring.isBarrier (r : Ring) : Bool := r.mode == 1

/-- RCLAIM of n slots (R158); `none` is fault 0x08. -/
def Ring.doClaim (r : Ring) (n : Nat) : Option Ring :=
  if r.free < n then none else some { r with claim := r.claim + BitVec.ofNat 9 n }
/-- RCOMMIT of n slots, or of n arrivals at a barrier (R158). -/
def Ring.doCommit (r : Ring) (n : Nat) : Option Ring :=
  let tail := r.tail + BitVec.ofNat 9 n
  if r.isBarrier then
    if r.slots - r.filled < n then none
    else some { r with tail := tail, claim := tail, head := if (tail - r.head).toNat = r.slots then tail else r.head }
  else if r.claimed < n then none
  else some { r with tail := tail, owners := r.flip r.tail n }
/-- RRELEASE of n slots (R158). -/
def Ring.doRelease (r : Ring) (n : Nat) : Option Ring :=
  if r.filled < n then none
  else some { r with head := r.head + BitVec.ofNat 9 n, owners := r.flip r.head n }

def State.setMyRing (s : State) (q : BitVec 5) (r : Ring) : State := s.modCore s.myCore (fun k => k.putRing q.toNat r)

/-- The ring updated, or fault 0x08 with the descriptor unchanged (R158). -/
def State.updateRing (s : State) (q : BitVec 5) (f : Ring → Option Ring) (k : State → Done) : Done :=
  match f (s.myRing q) with
  | some r => k (s.setMyRing q r)
  | none => .fault s (raise 0x08)

/-! ## Short forms (R157–R159) -/

/-- n := cnt + u(x[a]) (R157). -/
def State.countOf (s : State) (f : FQ) : Nat := f.cnt.toNat + s.ux f.a

/-- The configuration checks of a counting form, made whatever the guard (R158). -/
def State.ringCheck (s : State) (q : BitVec 5) (barrierOk : Bool) : Option Raise :=
  let r := s.myRing q
  if !r.en || r.isBarrier && !barrierOk then some (raise 0x08) else none

/-- RCLAIM (R157, R158). -/
def execRclaim (f : FQ) (s : State) : Out :=
  s.run 1 (s.ringCheck f.q false) (s.guard4 f.g) [f.a] (fun s =>
    s.updateRing f.q (fun r => r.doClaim (s.countOf f)) .next)

/-- RCOMMIT (R157–R159): a release at .core. -/
def execRcommit (f : FQ) (s : State) : Out :=
  s.run 1 (s.ringCheck f.q true) (s.guard4 f.g) [f.a] (fun s =>
    s.release false (fun s => s.updateRing f.q (fun r => r.doCommit (s.countOf f)) .next))

/-- RRELEASE (R157–R159): a release at .core. -/
def execRrelease (f : FQ) (s : State) : Out :=
  s.run 1 (s.ringCheck f.q false) (s.guard4 f.g) [f.a] (fun s =>
    s.release false (fun s => s.updateRing f.q (fun r => r.doRelease (s.countOf f)) .next))

/-- RSTAT's result (R157). -/
def Ring.stat (r : Ring) : DWord :=
  BitVec.ofNat 64 (r.filled + r.claimed * 2 ^ 9 + r.free * 2 ^ 18 + r.head.toNat * 2 ^ 27 + r.tail.toNat * 2 ^ 36 +
    r.claim.toNat * 2 ^ 45 + (if r.en then 2 ^ 54 else 0) + r.mode.toNat * 2 ^ 55)

/-- RSTAT (R157); a ring with en = 0 is fault 0x08 for any ring instruction (R86). -/
def execRstat (f : FQ) (s : State) : Out :=
  s.run 1 (s.ringCheck f.q true) (s.guard4 f.g) [f.a] (fun s => s.put f.a (s.myRing f.q).stat)

/-! ## Long forms (R160–R163) -/

/-- qn of a long ring form (R160). -/
def ringOf (f : FSY) : BitVec 5 := BitVec.ofNat 5 f.imm.toNat

/-- The descriptor as a number (R24). -/
def Ring.desc (r : Ring) : Nat :=
  r.base.toNat + r.ssize.toNat * 2 ^ 22 + r.scount.toNat * 2 ^ 30 + r.sgroup.toNat * 2 ^ 38 + r.fmt.toNat * 2 ^ 42 +
    r.brows.toNat * 2 ^ 46 + r.bcols.toNat * 2 ^ 50 + r.sstride.toNat * 2 ^ 56 + r.mode.toNat * 2 ^ 64 +
    (if r.en then 2 ^ 67 else 0) + r.head.toNat * 2 ^ 68 + r.tail.toNat * 2 ^ 77 + r.claim.toNat * 2 ^ 86

/-- The descriptor RCFG writes, its counters and owner bits cleared (R24, R27, R161). -/
def Ring.ofDesc (lo hi : Nat) : Ring where
  claim := 0
  tail := 0
  head := 0
  en := bit hi 3
  mode := BitVec.ofNat 3 hi
  sstride := BitVec.ofNat 8 (lo >>> 56)
  bcols := BitVec.ofNat 6 (lo >>> 50)
  brows := BitVec.ofNat 4 (lo >>> 46)
  fmt := BitVec.ofNat 4 (lo >>> 42)
  sgroup := BitVec.ofNat 4 (lo >>> 38)
  scount := BitVec.ofNat 8 (lo >>> 30)
  ssize := BitVec.ofNat 8 (lo >>> 22)
  base := BitVec.ofNat 22 lo
  owners := 0

/-- Half bytes per element of a ring format (R26). -/
def fmtHalfBytes (fmt : Nat) : Nat :=
  match fmt with
  | 3 => 1
  | 4 | 5 => 4
  | 6 | 8 => 8
  | 7 => 16
  | _ => 2

def ceilDiv (a b : Nat) : Nat := (a + b - 1) / b

/-- A descriptor with en = 1 is well formed (R26). -/
def Ring.wellFormed (r : Ring) : Bool :=
  let base := r.base.toNat
  let size := r.slots * r.ssize.toNat * 64
  let cols := r.bcols.toNat + 1
  let rows := r.brows.toNat + 1
  let data := ceilDiv (ceilDiv (rows * cols * fmtHalfBytes r.fmt.toNat) 2) 64 * 64
  let scales := if r.sstride = 0 then 0 else ceilDiv (2 * rows * ceilDiv cols (16 * r.sstride.toNat)) 64 * 64
  base % 64 == 0 && bits base 18 4 == r.sgroup.toNat && decide (r.sgroup.toNat ≤ 11) && decide (base < 0x2FE000) &&
    decide (r.fmt.toNat ≤ 8) && decide (r.mode.toNat ≤ 1) &&
    (if r.isBarrier then r.ssize == 0
     else decide (1 ≤ r.ssize.toNat) && decide (base % 2 ^ 18 + size ≤ 2 ^ 18) && decide (base + size ≤ 0x2FE000) &&
       (r.fmt == 0 || decide (data + scales ≤ r.ssize.toNat * 64)))

/-- A macro that some queue of the core has accepted and not completed names the ring (R28). -/
def Core.ringBusy (k : Core) (q : Nat) : Bool :=
  k.queues.any (fun (e : Nat × Queue) => e.2.entries.any (fun c => (macroRings c.bits.toNat).contains q))

/-- RCFG (R160, R161). -/
def execRcfg (f : FSY) (s : State) : Out :=
  s.run 2 none (s.guard7 f.g) [f.a, f.b] (fun s =>
    let r := Ring.ofDesc (s.ux f.a) (s.ux f.b)
    if (s.core s.myCore).ringBusy (ringOf f).toNat then .fault s (raise 0x08)
    else if r.en && !r.wellFormed then .fault s (raise 0x02)
    else .next (s.setMyRing (ringOf f) r))

/-- RDESC (R160). -/
def execRdesc (f : FSY) (s : State) : Out :=
  s.run 2 none (s.guard7 f.g) [f.d] (fun s =>
    s.put f.d (BitVec.ofNat 64 ((s.myRing (ringOf f)).desc >>> (64 * bits f.imm.toNat 5 1))))

/-- RADDR (R160): the sum is not reduced modulo 512. -/
def execRaddr (f : FSY) (s : State) : Out :=
  s.run 2 (s.ringCheck (ringOf f) false) (s.guard7 f.g) [f.d, f.b] (fun s =>
    let r := s.myRing (ringOf f)
    s.put f.d (BitVec.ofNat 64 (r.slotAddr (r.ctr (bits f.imm.toNat 5 2) + s.ux f.b))))

/-- Checks 1 and 2 of R162, made whatever the guard. -/
def State.ringAccessCheck (s : State) (f : FSY) : Option Raise :=
  let r := s.myRing (ringOf f)
  (s.ringCheck (ringOf f) false).or
    (if r.ssize.toNat * 64 < s.ux f.a + 2 ^ bits f.imm.toNat 7 2 then some (raise 0x08) else none)

/-- Slot k of RLD and RST, and the address they access (R160, R162). -/
def State.ringSlot (s : State) (f : FSY) : BitVec 9 × Nat :=
  let r := s.myRing (ringOf f)
  let k := BitVec.ofNat 9 (r.ctr (bits f.imm.toNat 5 2) + s.ux f.b)
  (k, r.slotAddr k.toNat + s.ux f.a)

/-- RLD or RST: the slot-fit check of R162 is made whatever the guard, on x[a] as it has arrived (R86, R143). -/
def State.ringAccess (s : State) (f : FSY) (op : State → Done) : Out :=
  if (s.ringCheck (ringOf f) false).isNone && s.waitsFor [f.a] then .next (s.memorySwitch [f.a])
  else s.run 2 (s.ringAccessCheck f) (s.guard7 f.g) [f.d, f.a, f.b] op

/-- RLD (R160, R162). -/
def execRld (f : FSY) (s : State) : Out :=
  s.ringAccess f (fun s =>
    let r := s.myRing (ringOf f)
    let n := 2 ^ bits f.imm.toNat 7 2
    let (k, addr) := s.ringSlot f
    if addr % n ≠ 0 then .fault s (raiseAt 0x05 addr s.me.cls)
    else if r.filled + r.claimed ≤ (k - r.head).toNat then .fault s (raise 0x08)
    else s.load 0 addr n s.me.cls false false f.d (fun s v => .next (s.arrive f.d v)))

/-- RST (R160, R162). -/
def execRst (f : FSY) (s : State) : Out :=
  s.ringAccess f (fun s =>
    let r := s.myRing (ringOf f)
    let n := 2 ^ bits f.imm.toNat 7 2
    let (k, addr) := s.ringSlot f
    if addr % n ≠ 0 then .fault s (raiseAt 0x05 addr s.me.cls)
    else if r.claimed ≤ (k - r.tail).toNat then .fault s (raise 0x08)
    else s.store 0 addr n (s.ux f.d) s.me.cls 0 false)

/-- RCLAIMA (R160): the claim, and the address of the first slot claimed. -/
def execRclaima (f : FSY) (s : State) : Out :=
  s.run 2 (s.ringCheck (ringOf f) false) (s.guard7 f.g) [f.d, f.b] (fun s =>
    let r := s.myRing (ringOf f)
    s.updateRing (ringOf f) (fun r => r.doClaim (bits f.imm.toNat 5 9 + s.ux f.b)) (fun s =>
      s.put f.d (BitVec.ofNat 64 (r.slotAddr r.claim.toNat))))

/-- ROWN (R160). -/
def execRown (f : FSY) (s : State) : Out :=
  s.run 2 (s.ringCheck (ringOf f) true) (s.guard7 f.g) [f.d, f.b] (fun s =>
    let r := s.myRing (ringOf f)
    s.put f.d (truth (r.owners.getLsbD (s.ux f.b % r.slots))))

/-- The configuration check of RBAR (R163). -/
def State.barrierCheck (s : State) (q : BitVec 5) : Option Raise :=
  let r := s.myRing q
  if !r.en || !r.isBarrier then some (raise 0x08) else none

/-- RBAR (R163): one arrival, and the wait for its generation. -/
def execRbar (f : FSY) (s : State) : Out :=
  let q := ringOf f
  s.runWait (s.barrierCheck q) (s.guard7 f.g) [] (fun s =>
    s.reportPoint (fun s => s.release false (fun s =>
      let t := (s.myRing q).tail
      s.updateRing q (fun r => r.doCommit 1) (fun s =>
        if (s.myRing q).generationDone t then .resume s false else .park s (.barrier q t .waiting)))))

/-- BARRIER_WAKE (R129, R163). -/
def execBarrierWake (c : CoreId) (k : StrandId) (s : State) : Out :=
  .next (s.asAgent (.strand c k) (fun s =>
    match s.me.run with
    | .parked (.barrier _ _ w) => s.endRingWait w false
    | _ => s))

end Sys2Proof.Machine
end

