-- ==== Sys2Proof/Machine/Build.lean ====
section
/-! DEFINITION. Places and command registers, and PUSH (spec/03_encoding_and_assembly.md, R87;
spec/07_engine_commands.md, R200–R204). -/

namespace Sys2Proof.Machine

/-! ## Bits of a macro (R12) -/

/-- Bits [pos + width − 1 : pos] of the macro that starts at kj replaced (R12, R201). -/
def Strand.insertBits (t : Strand) (j pos width v : Nat) : Strand :=
  t.setMacro j (16 - j) (putBits (t.macroBits j (16 - j)) pos width v)

/-- A field that runs past k15 is fault 0x02 (R82, R87). -/
def fieldFits (j pos width : Nat) : Option Raise := if 128 * (16 - j) < pos + width then some (raise 0x02) else none

/-! ## Places (R31, R32, R87) -/

/-- The checks of a place, or of a rectangle's origin: absent, extents past the edge, outside the strand's partition. -/
def State.placeCheck (s : State) (place : Place) (rows cols : Nat) : Option Raise :=
  let p := place.toNat
  if !s.present p || decide (31 < placeRow p + rows) || decide (63 < placeCol p + cols) then some (raise 0x0F)
  else if !s.isPorch && !(s.partRect (s.partOf s.cur)).holds p then some (raise 0x07)
  else none

/-- The 25 bits of a rectangle (R32). -/
def rectBits (f : FP) : BitVec 25 := f.cols ++ f.rows ++ f.place

/-- LIP (R87): place 0:0 is legal. -/
def execLip (f : FP) (s : State) : Out :=
  s.run 2 (if f.place = 0 then none else s.placeCheck f.place 0 0) (s.guard7 f.g) [f.d] (fun s =>
    s.put f.d (f.place.setWidth 64))
/-- LIR (R87). -/
def execLir (f : FP) (s : State) : Out :=
  s.run 2 (s.placeCheck f.place f.rows.toNat f.cols.toNat) (s.guard7 f.g) [f.d] (fun s =>
    s.put f.d ((rectBits f).setWidth 64))
/-- LIW (R87). -/
def execLiw (f : FP) (s : State) : Out :=
  s.run 2 (s.placeCheck f.place 0 0) (s.guard7 f.g) [f.d, f.a] (fun s =>
    s.put f.d ((f.place.setWidth 64 <<< 27) + ((s.rx f.a).setWidth 27).setWidth 64))
/-- KPL (R87). -/
def execKpl (f : FP) (s : State) : Out :=
  s.run 2 ((fieldFits f.d.toNat f.pos.toNat 13).or (s.placeCheck f.place 0 0)) (s.guard7 f.g) [] (fun s =>
    .next (s.modMe (fun t => t.insertBits f.d.toNat f.pos.toNat 13 f.place.toNat)))
/-- KRL (R87). -/
def execKrl (f : FP) (s : State) : Out :=
  s.run 2 ((fieldFits f.d.toNat f.pos.toNat 25).or (s.placeCheck f.place f.rows.toNat f.cols.toNat)) (s.guard7 f.g) []
    (fun s => .next (s.modMe (fun t => t.insertBits f.d.toNat f.pos.toNat 25 (rectBits f).toNat)))

/-! ## Command registers (R200, R201) -/

/-- KLI (R200). -/
def execKli (f : FL) (s : State) : Out :=
  s.run 2 none (s.guard7 f.g) [] (fun s => .next (s.modMe (fun t => t.wk f.d.toNat (f.imm.setWidth 128))))
/-- KLIW (R200). -/
def execKliw (f : FL) (s : State) : Out :=
  s.run 2 none (s.guard7 f.g) [] (fun s => .next (s.modMe (fun t =>
    t.wk f.d.toNat (BitVec.ofNat 128 (putBits (t.rk f.d.toNat).toNat (32 * bits f.a.toNat 0 2) 32 f.imm.toNat)))))
/-- KMVX (R200). -/
def execKmvx (f : FL) (s : State) : Out :=
  s.run 2 none (s.guard7 f.g) [f.a] (fun s => .next (s.modMe (fun t =>
    t.wk f.d.toNat (BitVec.ofNat 128 (putBits (t.rk f.d.toNat).toNat (64 * bits f.imm.toNat 0 1) 64 (t.rx f.a).toNat)))))
/-- KCLR (R200): d + n > 16 is fault 0x02. -/
def execKclr (f : FL) (s : State) : Out :=
  let n := bits f.imm.toNat 0 2 + 1
  s.run 2 (if 16 < f.d.toNat + n then some (raise 0x02) else none) (s.guard7 f.g) [] (fun s =>
    .next (s.modMe (fun t => t.setMacro f.d.toNat n 0)))
/-- KINS (R201): no guard. -/
def execKins (f : FK) (s : State) : Out :=
  let w := f.width.toNat + 1
  s.run 1 (fieldFits f.k.toNat f.pos.toNat w) true [f.a] (fun s =>
    .next (s.modMe (fun t => t.insertBits f.k.toNat f.pos.toNat w (t.rx f.a).toNat)))

/-! ## PUSH (R203, R204) -/

/-- Entries of an engine queue (R33). -/
def queueDepth (q : Nat) : Nat := if q = 10 ∨ q = 11 ∨ q = 13 then 32 else 16

/-- The checks of PUSH in the order of R203, after those of R86 (log 13). -/
def State.pushFault (s : State) (f : FE) : Option Raise :=
  let q := f.queue.toNat
  let n := f.n.toNat + 1
  if 14 ≤ q then some (raise 0x01)
  else if 16 < f.k.toNat + n then some (raise 0x02)
  else (macroFault q n (s.me.macroBits f.k.toNat n)).map (fun c => raise c)

/-- A queue of core `c` has room. -/
def State.queueRoom (s : State) (c q : Nat) : Bool := decide (((s.core c).queue q).entries.length < queueDepth q)

/-- What ACHAIN and ABYPASS record when queue 0 accepts them (R212). -/
def Core.gateOf (k : Core) (mop : Nat) : List Word :=
  if mop = 6 ∨ mop = 7 then (upto 0 8).map (fun j => (k.queue j).mseq) else []

/-- The queue accepts a macro of the current strand (R43, R204). -/
def State.accept (s : State) (q len : Nat) (m : BitVec 512) : State :=
  s.modCore s.myCore (fun k =>
    let u := k.queue q
    k.setQueue q { u with
      entries := u.entries ++ [⟨m, len, BitVec.ofNat 3 s.myStrand, u.mseq + 1, k.gateOf (mopOf m.toNat)⟩]
      mseq := u.mseq + 1 })

/-- The macro PUSH names. -/
def State.pushedMacro (s : State) (f : FE) : BitVec 512 := BitVec.ofNat 512 (s.me.macroBits f.k.toNat (f.n.toNat + 1))

/-- PUSH (R203, R204): a full queue is an interlock. -/
def execPush (f : FE) (s : State) : Out :=
  s.run 1 none (s.guard4 f.g) [] (fun s =>
    match s.pushFault f with
    | some r => .fault s r
    | none =>
      if s.queueRoom s.myCore f.queue.toNat then .next (s.accept f.queue.toNat (f.n.toNat + 1) (s.pushedMacro f))
      else .again s)

/-- PUSH.W (R203, R204): a waiting instruction that does not reset the watchdog. -/
def execPushW (f : FE) (s : State) : Out :=
  s.runWait none (s.guard4 f.g) [] (fun s => s.reportPoint (fun s =>
    match s.pushFault f with
    | some r => .fault s r
    | none =>
      if s.queueRoom s.myCore f.queue.toNat then
        .resume (s.accept f.queue.toNat (f.n.toNat + 1) (s.pushedMacro f)) false
      else .park s (.push f.queue (s.pushedMacro f) (f.n.toNat + 1))))

/-- PUSH_ENTRY_FREED (R204): the parked macro enters the queue. -/
def execPushEntryFreed (c : CoreId) (k : StrandId) (s : State) : Out :=
  .next (s.asAgent (.strand c k) (fun s =>
    match s.me.run with
    | .parked (.push q m n) =>
      if s.queueRoom s.myCore q.toNat then (s.accept q.toNat n m).completeWait false else s
    | _ => s))

end Sys2Proof.Machine
end

