-- ==== Sys2Proof/Machine/Engine.lean ====
section
/-! DEFINITION. What every engine does (spec/01_machine_state.md, R42–R45; spec/07_engine_commands.md, R204–R207, R212;
spec/09_memory_model.md, R278, R283): the micro-program counter, running one unit, parking on a fault, completing a
macro; an engine's accesses to memory; the slot table. -/

namespace Sys2Proof.Machine

/-! ## The micro-program counter (R43, R44) -/

/-- The micro-program counter with a phase and counters. qent is the entry index modulo 16. -/
def Queue.counter (u : Queue) (phase ctr : Nat) : BitVec 128 :=
  BitVec.ofNat 128 (ctr % 2 ^ 80 + u.espec.toNat * 2 ^ 80 + phase % 16 * 2 ^ 88 + u.left.toNat % 16 * 2 ^ 92 +
    u.mseq.toNat * 2 ^ 96)
def Queue.mpc (u : Queue) : BitVec 128 := u.counter u.phase.toNat u.ctr.toNat

/-- Field i of 16 bits of the counters. -/
def ctrField (ctr : BitVec 80) (i : Nat) : Nat := bits ctr.toNat (16 * i) 16

/-! ## Running a unit (R205–R207) -/

/-- How a unit of work ends. -/
inductive EUnit where
  /-- It has not run: the queue waits in this phase. -/
  | wait (s : State) (phase : Nat)
  /-- It is complete; the counters of the next unit. -/
  | next (s : State) (ctr : Nat)
  /-- The macro is complete. -/
  | done (s : State)
  /-- It faults: the code, the address and class of an access, the high end of the window, and the phase to park in. -/
  | fault (s : State) (code : BitVec 8) (addr : Option Nat) (cls : BitVec 4) (hi : Nat) (phase : Nat)

/-- A fault that is no access's. -/
def EUnit.stop (s : State) (code : BitVec 8) (hi : Nat) : EUnit := .fault s code none 0 hi 5

def State.queueOf (s : State) (c q : Nat) : Queue := (s.core c).queue q
def State.modQueue (s : State) (c q : Nat) (f : Queue → Queue) : State :=
  s.modCore c (fun k => k.setQueue q (f (k.queue q)))

/-- The head macro leaves the queue (R205); the active latch of a row sequencer stays shown (R44). -/
def Queue.pop (u : Queue) : Queue :=
  { u with
    entries := u.entries.tail, left := u.left + 1, phase := 0, espec := u.espec &&& 0x80, ctr := 0, ended := false, started := false, mark := 0
    wActive := none, wShadow := none, late := [], bytes := [], seqs := [], retry := none, parked := none }

/-- The fault record of queue q of core c for the strand that pushed its macro (R45, R90, R342). -/
def State.engineRecord (s : State) (c q : Nat) (strand : BitVec 3) (code : BitVec 8) (addr : Option Nat) (cls : BitVec 4)
    (lo hi : BitVec 128) : FaultRecord :=
  { code := code, info := BitVec.ofNat 40 (addr.getD lo.toNat), source := BitVec.ofNat 4 q, cls := cls, prec := 2,
    addr := BitVec.ofNat 64 (addr.getD 0), lo := lo, hi := hi, place := agentPlace (.strand (BitVec.ofNat 5 c) strand) 0,
    time := BitVec.ofNat 64 s.tai }

/-- The slot that a unit of macro `m` works for (R209, R320): by the slot level of a nest, or by the KV engine's counters. -/
def unitSlot (m ctr : Nat) : Option Nat :=
  match mopOf m with
  | 0x03 | 0x04 =>
    if bits m 377 3 = 7 then none else some (bits m 368 9 + bits ctr (16 * bits m 377 3) 16)
  | 0x40 | 0x41 | 0x42 | 0x43 | 0x45 => some (bits ctr 64 16)
  | 0x44 => if bit m 33 then none else some (bits ctr 64 16)
  | _ => none

/-- A record with the slot of its unit in its `where` word (R342). -/
def FaultRecord.withSlot (r : FaultRecord) (slot : Option Nat) : FaultRecord :=
  match slot with
  | some n => { r with place := r.place ||| BitVec.ofNat 64 (n % 512 * 2 ^ 33 + 2 ^ 42) }
  | .none => r

/-- The partition that a core's operator runs in. -/
def State.partOfCore (s : State) (c : Nat) : Nat := s.partOf (.strand (BitVec.ofNat 5 c) 0)

/-- The queue parks with its window (R45, R207). 0x0A of the KV queue goes to the porch with lo = hi. -/
def State.parkQueue (s : State) (c q : Nat) (cmd : Command) (code : BitVec 8) (addr : Option Nat) (cls : BitVec 4)
    (hi phase : Nat) : State :=
  let u := s.queueOf c q
  let lo := u.counter phase u.ctr.toNat
  let r := (s.engineRecord c q cmd.strand code addr cls lo (if code = 0x0A then lo else u.counter phase hi)).withSlot
    (unitSlot cmd.bits.toNat u.ctr.toNat)
  let s := s.modQueue c q (fun u =>
    { u with phase := BitVec.ofNat 4 phase, retry := none, parked := some ⟨r, decide (code = 0x0A)⟩ })
  if code = 0x0A then s.addEvent (s.partOfCore c) ⟨1, r⟩ else s

/-- A row sequencer of rows 1 to 7 starts nothing that it accepted after an ACHAIN or ABYPASS waiting in queue 0 (R212). -/
def Core.gated (k : Core) (q : Nat) (cmd : Command) : Bool :=
  decide (1 ≤ q ∧ q ≤ 7) && (k.queue 0).entries.any (fun e =>
    match e.gate[q]? with
    | some g => decide (2 ^ 31 ≤ (g - cmd.seq).toNat)
    | none => false)

/-- The engines of a core stop at a unit boundary while its partition's contexts are saved (R45, R339). -/
def State.coreStopped (s : State) (c : Nat) : Bool :=
  match (s.part (s.partOfCore c)).ladder with
  | .save _ _ _ => true
  | _ => false

/-- The phase of queue q between the units of a macro: running, or with rows of a landing macro held (R344). -/
def Queue.runPhase (u : Queue) (q : Nat) : BitVec 4 := if q = 9 ∧ u.mark = 1 then 6 else 2

/-- One unit of the head macro of queue q of core c, when it is one of `mine` and may run. -/
def State.runUnit (s : State) (c q : Nat) (mine : Nat → Bool) (unit : State → Command → EUnit) : State :=
  let k := s.core c
  let u := k.queue q
  match u.entries with
  | [] => s
  | cmd :: _ =>
    if u.parked.isSome || k.fenced || s.coreStopped c || !mine cmd.bits.toNat || k.gated q cmd then s
    else match unit s cmd with
      | .wait s p => s.modQueue c q (fun u => { u with phase := BitVec.ofNat 4 p })
      | .next s ctr => s.modQueue c q (fun u =>
          { u with phase := u.runPhase q, ctr := BitVec.ofNat 80 ctr, ended := decide (2 ^ 80 ≤ ctr), started := true, retry := none })
      | .done s => s.modQueue c q Queue.pop
      | .fault s code addr cls hi p => s.parkQueue c q cmd code addr cls hi p

/-- ENGINE_FAULT_DELIVERY (R207, R241): the record goes to the pushing strand's trap path; a strand that will not run
again has it sent to the porch. A fenced core delivers nothing any more (R345). -/
def execEngineFaultDelivery (c : CoreId) (q : QueueId) (s : State) : Out :=
  .next (let u := s.queueOf c.toNat q.toNat
    match u.parked, u.entries with
    | some p, cmd :: _ =>
      if p.delivered || (s.core c.toNat).fenced then s
      else
        let s := s.modQueue c.toNat q.toNat (fun u => { u with parked := some { p with delivered := true } })
        let k := cmd.strand.toNat
        match ((s.core c.toNat).strand k).run with
        | .absent => s.addEvent (s.partOfCore c.toNat) ⟨3, p.record⟩
        | .halted | .trapped => s.haltToPorch c.toNat k p.record
        | _ => s.deliverRecord c.toNat k p.record
    | _, _ => s)

/-- A parked queue goes on at lo, or drops its macro, which then counts as completed (R165, R238, R240, R344). -/
def State.unparkQueue (s : State) (c q : Nat) (drop : Bool) : State :=
  s.modQueue c q (fun u =>
    if u.parked.isNone then u else if drop then u.pop else { u with parked := none, phase := if u.started then u.runPhase q else 0 })

/-! ## Rings as engines see them -/

def State.ringAt (s : State) (c q : Nat) : Ring := (s.core c).ring q
def State.setRingAt (s : State) (c q : Nat) (r : Ring) : State := s.modCore c (fun k => k.putRing q r)

/-- A ring an engine may use (R163, R214): enabled and no barrier. -/
def Ring.usable (r : Ring) : Bool := r.en && !r.isBarrier
/-- Bytes of a slot. -/
def Ring.slotBytes (r : Ring) : Nat := r.ssize.toNat * 64
/-- The scratchpad address of byte `o` of a stream that begins at the slot of counter `start`; slots run on in order. -/
def Ring.streamAddr (r : Ring) (start : BitVec 9) (o : Nat) : Nat :=
  r.slotAddr (start + BitVec.ofNat 9 (o / r.slotBytes)).toNat + o % r.slotBytes
/-- Slots a stream of `n` bytes takes. -/
def Ring.slotsFor (r : Ring) (n : Nat) : Nat := ceilDiv n r.slotBytes
/-- Bytes [o, o + n) of a stream as a number; they may cross slots. -/
def Ring.streamRead (r : Ring) (m : Cells Byte) (start : BitVec 9) (o : Nat) : Nat → Nat
  | 0 => 0
  | n + 1 => (m.get 0 (r.streamAddr start o)).toNat + 256 * r.streamRead m start (o + 1) n
def Ring.streamWrite (r : Ring) (m : Cells Byte) (start : BitVec 9) (o : Nat) : List Byte → Cells Byte
  | [] => m
  | b :: rest => r.streamWrite (m.set 0 (r.streamAddr start o) b) start (o + 1) rest

/-- Bytes [o, o + n) of a stream cut at its slots: the scratchpad address and the length of each piece. -/
def Ring.streamPieces (r : Ring) (start : BitVec 9) : Nat → Nat → Nat → List (Nat × Nat)
  | 0, _, _ => []
  | fuel + 1, o, n =>
    if n = 0 then []
    else
      let m := min n (r.slotBytes - o % r.slotBytes)
      (r.streamAddr start o, m) :: r.streamPieces start fuel (o + m) (n - m)

/-- Bytes put into ring slots of core c, seen by the scratchpad monitors (R168), also where the slots wrap to slot 0. -/
def State.putStream (s : State) (c : Nat) (r : Ring) (start : BitVec 9) (o : Nat) (bs : List Byte) : State :=
  let s := s.modCore c (fun k => { k with scratch := r.streamWrite k.scratch start o bs })
  (r.streamPieces start bs.length o bs.length).foldl (fun s x => s.noteScratch c x.1 x.2) s

/-! ## Memory as engines see it (R142, R278) -/

/-- The checks of an access of an engine of core c to [addr, addr + n): ranges, places, permissions, no alignment. -/
def State.engineFault (s : State) (c space addr n : Nat) (store : Bool) : Option (BitVec 8) :=
  let a := Agent.strand (BitVec.ofNat 5 c) 0
  (s.accessFault a space addr 1 store).or (s.accessFault a space (addr + n - 1) 1 store)

/-- .G bytes within one line: dirty L1 bytes from L1, the others from L2 (R278). -/
def State.engineLine (s : State) (c va n : Nat) : LoadRes × State :=
  let asid := s.asidOf (.strand (BitVec.ofNat 5 c) 0)
  match s.translate asid va n false true with
  | (.miss, s) => (.miss va, s)
  | (.fault f, s) => (.fault f, s)
  | (.ok pa pol, s) =>
    if pol = 1 then (if s.badPooled pa then .fault 0x0D else .val (bytesAt s.pooled pa n), s)
    else if s.fillBad (pa / 64) then (.fault 0x0D, s)
    else
      let s := s.l2Take (c / 8) (BitVec.ofNat 12 asid) (va / 64) (pa / 64) false
      let d := s.l2Data (pa / 64)
      let d := match (s.core c).l1Find (BitVec.ofNat 12 asid) (va / 64) with
        | some l => mixBytes d l.data l.dirty.toNat
        | none => d
      (.val (getLine d (va % 64) n), s)

def State.engineReadG (s : State) (c : Nat) : Nat → Nat → Nat → LoadRes × State
  | 0, _, _ => (.val 0, s)
  | fuel + 1, va, n =>
    if n = 0 then (.val 0, s)
    else
      let m := min n (64 - va % 64)
      match s.engineLine c va m with
      | (.val v, s) =>
        match s.engineReadG c fuel (va + m) (n - m) with
        | (.val w, s) => (.val (v + w * 2 ^ (8 * m)), s)
        | r => r
      | r => r

/-- `n` bytes of a space read by an engine of core c, after its checks. -/
def State.engineRead (s : State) (c space addr n : Nat) : LoadRes × State :=
  match s.engineFault c space addr n false with
  | some f => (.fault f, s)
  | none =>
    if space = 2 then s.engineReadG c (n + 1) addr n
    else s.readSpace (.strand (BitVec.ofNat 5 c) 0) space addr n true

def State.engineWriteG (s : State) (c : Nat) (cls : BitVec 4) : Nat → Nat → Nat → Nat → StoreRes × State
  | 0, _, _, _ => (.done, s)
  | fuel + 1, va, n, v =>
    if n = 0 then (.done, s)
    else
      let m := min n (64 - va % 64)
      match s.storeG (.strand (BitVec.ofNat 5 c) 0) va m (v % 2 ^ (8 * m)) (allBytes m) cls true with
      | (.done, s) => s.engineWriteG c cls fuel (va + m) (n - m) (v / 2 ^ (8 * m))
      | r => r

/-- `n` bytes of a space written by an engine of core c, after its checks: .G at L2 with any L1 copy updated (R278). -/
def State.engineWrite (s : State) (c space addr n v : Nat) (cls : BitVec 4) : StoreRes × State :=
  match s.engineFault c space addr n true with
  | some f => (.fault f, s)
  | none =>
    if space = 2 then s.engineWriteG c cls (n + 1) addr n v
    else s.writeSpace (.strand (BitVec.ofNat 5 c) 0) space addr n v (allBytes n) cls true

/-- A translation that is not present in park mode: the engine waits in phase 5 and tries again, for 1 ms, with an event for each
page that it waits for (R283). -/
def State.engineMiss (s : State) (c q : Nat) (cmd : Command) (addr : Nat) (cls : BitVec 4) (hi : Nat) : EUnit :=
  let u := s.queueOf c q
  match missAgain u.retry addr s.tai with
  | none => .fault s 0x06 (some addr) cls hi 5
  | some (_, false) => .wait s 5
  | some (w, true) =>
    let r := (s.engineRecord c q cmd.strand 0x06 (some addr) cls u.mpc u.mpc).withSlot (unitSlot cmd.bits.toNat u.ctr.toNat)
    .wait ((s.addEvent (s.partOfCore c) ⟨2, r⟩).modQueue c q (fun u => { u with retry := some w })) 5

/-! ## The slot table (R41, R42) -/

/-- Field of slot n's entry in core c's copy. -/
def State.slotEntry (s : State) (c n : Nat) : Nat := bytesAt (s.core c).scratch (0x2FE000 + 16 * n) 16
def slotRec (e : Nat) : Nat := bits e 0 12
def slotValid (e : Nat) : Bool := bit e 12
def slotMasked (e : Nat) : Bool := bit e 13
def slotInCount (e : Nat) : Nat := bits e 16 16
def slotKvLen (e : Nat) : Nat := bits e 32 32
def slotPos (e : Nat) : Nat := bits e 64 64

/-- Sets the masked bit of slot n in the copy of every core of a partition (R42). -/
def State.maskSlot (s : State) (p n : Nat) : State :=
  ((s.partRect p).cores).foldl (fun s c =>
    let a := 0x2FE001 + 16 * n
    (s.modCore c (fun k => { k with scratch := k.scratch.set 0 a (k.scratch.get 0 a ||| 0x20) })).noteScratch c a 1) s

/-! ## Record fields (R38) -/

/-- A field of a record written by the device, seen by monitors. -/
def State.setRecField (s : State) (r off n v : Nat) : State := s.putRecord (256 * r + off) n v (allBytes n)

/-! ## Per-request faults (R207, R320, R321) -/

/-- A per-request fault on slot n, found by core c (R321): the slot is masked in every core's copy of the record's group, the
record becomes FAULTED, the group counts it. An ADMITTED or RUNNING record that holds the slot can take it, whether its step is
open, abandoned or over (R293, R303). -/
def State.slotFault (s : State) (c n : Nat) (code : BitVec 8) (info : Nat) : State :=
  let r := slotRec (s.slotEntry c n)
  let g := s.recField r 0x01 1
  let v := s.group g
  if !(s.recField r 0x00 1 == 2 || s.recField r 0x00 1 == 3) || s.recField r 0x04 2 != n then s
  else
    let s := s.maskSlot v.cfg.part.toNat n
    let s := ((s.setRecField r 0x78 1 code.toNat).setRecField r 0x80 8 info).setRecField r 0x00 1 5
    s.setGroup g { v with
      nRfault := v.nRfault + 1
      slots := v.slots.set none n ((v.slots.get none n).map (fun i => { i with masked := true })) }

end Sys2Proof.Machine
end

