-- ==== Sys2Proof/Machine/Arrays.lean ====
section
/-! DEFINITION. Row sequencers, latches, chains and landing arrivals (spec/02_number_formats.md, R58, R61–R64;
spec/07_engine_commands.md, R208–R216; spec/08_shafts_arrays_landing.md, R248–R253). -/

namespace Sys2Proof.Machine

/-! ## The loop nest (R208, R209) -/

/-- e(i). -/
def nestExtent (m i : Nat) : Nat := nestField m i 0 16 + 1
/-- Σ c[i] × a signed stride at bit `lo` of the level. -/
def nestSum (m lo : Nat) (c : Nat → Nat) : Int := (upto 0 5).foldl (fun t i => t + c i * sextNat (nestField m i lo 8) 8) 0

/-- Counters packed as the micro-program counter holds them (R44). -/
def packCtr (c : Nat → Nat) : Nat := (upto 0 5).foldl (fun t i => t + c i % 2 ^ 16 * 2 ^ (16 * i)) 0

/-- The counters of the unit after `ctr`, c0 innermost; past the last unit c4 is its extent (R45, R209). -/
def nestNext (ext : Nat → Nat) (ctr : Nat) : Nat :=
  let c (i : Nat) : Nat := bits ctr (16 * i) 16
  let rec go : Nat → Nat → Nat → Nat
    | 0, _, acc => acc
    | fuel + 1, i, acc =>
      if i = 4 then acc + (c 4 + 1) * 2 ^ 64
      else if c i + 1 < ext i then acc + (c i + 1) * 2 ^ (16 * i) + (upto (i + 1) (4 - i)).foldl (fun t j => t + c j * 2 ^ (16 * j)) 0
      else go fuel (i + 1) acc
  go 5 0 0

/-- Every unit has run. -/
def nestOver (ext : Nat → Nat) (ctr : Nat) : Bool := decide (ext 4 ≤ ctr / 2 ^ 64)

/-- What a unit does (R209). -/
inductive NestUnit where
  | skip
  | vec (av : Int)
  | zero
  | noProducts
  | fault
  deriving DecidableEq, Repr

/-- The slot a unit works for. -/
def nestSlot (m : Nat) (c : Nat → Nat) : Option Nat :=
  if bits m 377 3 = 7 then none else some (bits m 368 9 + c (bits m 377 3))

/-- Every unit of the macro of queue `u` has run; the counters of a nest of 2 ^ 16 outermost iterations end past 80 bits. -/
def Queue.nestOver (u : Queue) (ext : Nat → Nat) : Bool := u.ended || Machine.nestOver ext u.ctr.toNat

/-- The unit at counters `c` (R209). -/
def State.nestUnit (s : State) (core m : Nat) (c : Nat → Nat) : NestUnit :=
  let slot := nestSlot m c
  let e := match slot with | some n => s.slotEntry core n | none => 0
  let skips := match slot with | some n => decide (511 < n) || !slotValid e || slotMasked e | none => false
  let bound (i : Nat) : Nat :=
    let r := 2 ^ nestField m i 44 4
    match nestField m i 42 2 with
    | 1 => ceilDiv (slotKvLen e) r
    | 2 => ceilDiv (slotInCount e) r
    | _ => nestExtent m i
  let past := (upto 0 5).filter (fun i => decide (bound i ≤ c i))
  let av (c : Nat → Nat) : Int := bits m 45 16 + nestSum m 16 c
  if skips then .skip
  else match past.getLast? with
    | none => .vec (av c)
    | some top =>
      match nestField m top 40 2 with
      | 0 => .zero
      | 1 =>
        if past.any (fun i => bound i == 0) then .zero
        else .vec (av (fun i => if past.contains i then bound i - 1 else c i))
      | 2 => .noProducts
      | _ => .fault

/-! ## Tiles and operands (R58, R61, R210) -/

/-- wfmt: 0 MK8, 1 INT8, 2 INT4, 3 BF16. The bits of element (k, n). -/
def tileElem (wfmt : Nat) (t : BitVec 8192) (k n : Nat) : Nat :=
  match wfmt with
  | 2 => bits t.toNat (8 * (n * 16 + k % 16) + (if k < 16 then 0 else 4)) 4
  | 3 => bits t.toNat (8 * (64 * n + 2 * k)) 16
  | _ => bits t.toNat (8 * (32 * n + k)) 8

/-- A weight, and an activation, as integers and as extended reals. -/
def weightInt (wfmt v : Nat) : Int := if wfmt = 2 then sextNat v 4 else sextNat v 8
def weightExt (wfmt v : Nat) : Ext :=
  match wfmt with
  | 0 => extOfMk8 v
  | 3 => extOfFp ⟨Fmt.bf16, v⟩
  | _ => .fin (Frac.ofInt (weightInt wfmt v))
/-- afmt: 0 MK8, 1 INT8, 2 BF16. -/
def actExt (afmt v : Nat) : Ext :=
  match afmt with
  | 0 => extOfMk8 v
  | 1 => .fin (Frac.ofInt (sextNat v 8))
  | _ => extOfFp ⟨Fmt.bf16, v⟩
/-- An activation that is zero: any sign in BF16, code 0x00 in MK8 (R64). -/
def actZero (afmt v : Nat) : Bool := if afmt = 2 then v % 2 ^ 15 == 0 else v == 0
/-- The mode of a pair (R61). -/
def pairMode (afmt wfmt : Nat) : AccMode := if afmt = 1 ∧ (wfmt = 1 ∨ wfmt = 2) then .int else .float

/-- Some weight of the tile is a NaN or an infinity (R64). -/
def tileSummary (wfmt : Nat) (t : BitVec 8192) : Bool :=
  match wfmt with
  | 0 => (upto 0 1024).any (fun i => bits t.toNat (8 * i) 8 == 0x80)
  | 3 => (upto 0 512).any (fun i => bits t.toNat (16 * i + 7) 8 == 255)
  | _ => false

/-- One product, or squared difference, added to a column sum (R63, R64, R215). -/
def addTerm (afmt wfmt : Nat) (dist summary : Bool) (acc : Acc × Bool) (a w : Nat) : Acc × Bool :=
  match pairMode afmt wfmt with
  | .int =>
    let x := sextNat a 8
    let y := weightInt wfmt w
    if !dist && actZero afmt a && !summary then acc
    else
      let r := accAddI acc.1 (if dist then (x - y) * (x - y) else x * y)
      (r.1, acc.2 || r.2)
  | .float =>
    let x := actExt afmt a
    let y := weightExt wfmt w
    if dist then
      let d := match x, y with
        | .fin u, .fin v => accRound (u.sub v)
        | _, _ => accNan
      (accAddF acc.1 (accScale d (extOfFp (accFp d))), acc.2)
    else if actZero afmt a && !summary then acc
    else (accAddExt acc.1 (x.mul y), acc.2)

/-- The 32 sums of a unit over the active tile, from acc_in, and whether one saturated (R63, R214, R215). `act` is `none`
when there are no products. A BF16 tile leaves columns 16 to 31 at acc_in. -/
def arraySums (afmt wfmt : Nat) (dist tr : Bool) (t : Latch) (act : Option (List Nat)) (accIn : List Acc) : List Acc × Bool :=
  match act with
  | none => (accIn, false)
  | some a =>
    let one (j : Nat) : Acc × Bool :=
      if wfmt = 3 ∧ 16 ≤ j then (accIn.getD j 0, false)
      else (upto 0 32).foldl (fun acc i =>
        addTerm afmt wfmt dist t.summary acc (a.getD i 0) (if tr then tileElem wfmt t.tile j i else tileElem wfmt t.tile i j))
        (accIn.getD j 0, false)
    let rs := (upto 0 32).map one
    (rs.map (fun r => r.1), rs.any (fun r => r.2))

/-! ## Mitigation windows (R250) -/

/-- True time since reset in ns, rounded down. -/
def State.upNs (s : State) : Nat := s.up / 72

/-- Grid points of the shafts' time passed since reset. -/
def State.gridIndex (s : State) : Nat := s.upNs / 64000

/-- A window of shaft `n` has fallen due and not opened: no further transfer starts. -/
def State.windowDue (s : State) (n : Nat) : Bool := decide ((s.shaft n).grid < s.gridIndex)

/-- Some beats of the fill have been transferred. -/
def Fill.running (f : Fill) : Bool := !f.beats.isEmpty

/-- The shaft of array (i, j) of core c transfers no beat of fill `f` now: its window is open, or due before the transfer has
begun. -/
def State.beatHeld (s : State) (c i j : Nat) (f : Fill) : Bool :=
  let n := shaftIndex (corePlace c i j)
  (s.shaft n).open_ || s.windowDue n && !f.running

/-! ## Latches and fills (R210, R211, R248–R251) -/

/-- The arrays of a cmask in row i, as columns. -/
def colsOf (mask : Nat) : List Nat := (upto 0 8).filter (fun j => mask.testBit j)
def Core.arrayAt (k : Core) (i j : Nat) : ArrayUnit := k.array (8 * i + j)
def State.modArray (s : State) (c i j : Nat) (f : ArrayUnit → ArrayUnit) : State :=
  s.modCore c (fun k => k.setArray (8 * i + j) (f (k.arrayAt i j)))
/-- Some array of the row has a fill in progress. -/
def State.filling (s : State) (c i mask : Nat) : Bool := (colsOf mask).any (fun j => ((s.core c).arrayAt i j).fill.isSome)

/-- The fault of a fill of row `row` of array (i, j) (R210). -/
def State.fillFault (s : State) (c i j row : Nat) : Option (BitVec 8) :=
  if s.cfg.placedRows ≤ row then some 0x06
  else if s.cfg.placedRows - s.cfg.cellarRows ≤ row then some 0x07
  else if !s.present (corePlace c i j) then some 0x0F
  else if s.badRow (shaftIndex (corePlace c i j)) row then some 0x0D
  else none

/-- Bytes of a placed row, or of its half, of array (i, j)'s shaft. -/
def State.rowBytes (s : State) (c i j row : Nat) (half : Bool) (n : Nat) : Nat :=
  bytesAt s.placed (placedKey (corePlace c i j) (row * 1024 + if half then 512 else 0)) n
def fillBytes (fmt : Nat) : Nat := if fmt = 2 then 512 else 1024

/-- Fills of row `row` begin in the shadows of the arrays of a mask (R248). -/
def State.beginFill (s : State) (c i mask row : Nat) (half : Bool) (fmt : Nat) (seq : Option Word) : State :=
  (colsOf mask).foldl (fun s j =>
    let old := s.rowBytes c i j row half (fillBytes fmt)
    s.modArray c i j (fun a => { a with fill := some ⟨row, half, BitVec.ofNat 3 fmt, BitVec.ofNat 8192 old, [], seq⟩ })) s

/-- A mitigation window is open in the shaft of an array of the mask: fills and swaps wait for its end (R250). -/
def State.windowHolds (s : State) (c i mask : Nat) : Bool :=
  (colsOf mask).any (fun j => (s.shaft (shaftIndex (corePlace c i j))).open_)

/-- The first fault among the fills of a mask. -/
def State.fillsFault (s : State) (c i mask row : Nat) : Option (BitVec 8) :=
  (colsOf mask).findSome? (fun j => s.fillFault c i j row)

/-- Row `row` of the shafts of a mask that have an error there, by place. -/
def State.badFills (s : State) (c i mask row : Nat) : List (Nat × Nat) :=
  ((colsOf mask).filter (fun j => s.badRow (shaftIndex (corePlace c i j)) row)).map (fun j => (corePlace c i j, row))

/-- The pages on the rows that a fill could not read are poisoned (R319). -/
def State.poisonFills (s : State) (c i mask row : Nat) : State :=
  (s.badFills c i mask row).foldl (fun s x => s.poison (placedKey x.1 (1024 * x.2)) 1024) s

/-- Exchanges active and shadow latches of a mask (R211). espec[87] shows which latch of the row is the active one; each swap
turns it, whatever columns it names (R44; DEDUCED, log 72). -/
def State.swapLatches (s : State) (c i mask : Nat) : State :=
  let s := (colsOf mask).foldl (fun s j => s.modArray c i j (fun a => { a with active := a.shadow, shadow := a.active })) s
  s.modQueue c i (fun u => { u with espec := u.espec ^^^ 0x80 })

/-- Beat n of the fill of array (i, j) is transferred: the row's 64 bytes as they are in this clk (R251). A mitigation window
holds it up (R250); a fenced core fills nothing (R345). -/
def State.fillBeat (s : State) (c i j n : Nat) : State :=
  match ((s.core c).arrayAt i j).fill with
  | none => s
  | some f =>
    if s.beatHeld c i j f || (s.core c).fenced then s
    else
      let b := BitVec.ofNat 512 (bits (s.rowBytes c i j f.row f.half (fillBytes f.fmt.toNat)) (512 * n) 512)
      s.modArray c i j (fun a => { a with fill := some { f with beats := (f.beats.erase n).insert n b } })

/-- LATCH_FILL_COMPLETE (R248, R251): a beat not transferred before holds the row's bytes as they are now when its bit of
`fresh` is 1, else as they were when the fill began. A mitigation window holds the fill up (R250); a fenced core fills nothing
(R345). -/
def execLatchFillComplete (c : CoreId) (array : BitVec 6) (fresh : BitVec 16) (s : State) : Out :=
  let i := array.toNat / 8
  let j := array.toNat % 8
  .next (match ((s.core c.toNat).arrayAt i j).fill with
    | none => s
    | some f =>
      if s.beatHeld c.toNat i j f || (s.core c.toNat).fenced then s
      else
        let n := fillBytes f.fmt.toNat
        let now := s.rowBytes c.toNat i j f.row f.half n
        let tile := (upto 0 (n / 64)).foldl (fun t b =>
          let d := match f.beats.lookup b with
            | some d => d.toNat
            | none => bits (if fresh.getLsbD b then now else f.old.toNat) (512 * b) 512
          t + d * 2 ^ (512 * b)) 0
        let t := BitVec.ofNat 8192 tile
        s.modArray c.toNat i j (fun a => { a with shadow := ⟨t, f.fmt, tileSummary f.fmt.toNat t⟩, fill := none }))

/-- ALATCH (R210): the fill goes on after the macro has left the queue (R205). -/
def execAlatch (c : CoreId) (q : QueueId) (s : State) : Out :=
  .next (s.runUnit c.toNat q.toNat (fun m => mopOf m == 1) (fun s cmd =>
    let m := cmd.bits.toNat
    if s.filling c.toNat q.toNat (bits m 16 8) then .wait s 4
    else match s.fillsFault c.toNat q.toNat (bits m 16 8) (bits m 28 17) with
      | some f => .stop (if f = 0x0D then s.poisonFills c.toNat q.toNat (bits m 16 8) (bits m 28 17) else s) f (2 ^ 64)
      | none => .done (s.beginFill c.toNat q.toNat (bits m 16 8) (bits m 28 17) (bit m 27) (bits m 24 3) (some cmd.seq))))

/-- ASWAP (R211). -/
def execAswap (c : CoreId) (q : QueueId) (s : State) : Out :=
  .next (s.runUnit c.toNat q.toNat (fun m => mopOf m == 2) (fun s cmd =>
    let mask := bits cmd.bits.toNat 16 8
    if s.filling c.toNat q.toNat mask || s.windowHolds c.toNat q.toNat mask then .wait s 4
    else .done (s.swapLatches c.toNat q.toNat mask)))

/-- AZERO (R211). -/
def execAzero (c : CoreId) (q : QueueId) (s : State) : Out :=
  .next (s.runUnit c.toNat q.toNat (fun m => mopOf m == 5) (fun s cmd =>
    let m := cmd.bits.toNat
    if s.filling c.toNat q.toNat (bits m 16 8) then .wait s 4
    else .done ((colsOf (bits m 16 8)).foldl (fun s j =>
      s.modArray c.toNat q.toNat j (fun a => { a with shadow := ⟨0, BitVec.ofNat 3 (bits m 24 3), false⟩ })) s)))

/-! ## Chains (R212) -/

/-- Queues 1 to 7 have completed what they had accepted before queue 0 accepted the macro (R212). -/
def Core.gateOpen (k : Core) (cmd : Command) : Bool :=
  (upto 1 7).all (fun j => match cmd.gate[j]? with
    | some g => decide ((k.completed j - g).toNat < 2 ^ 31)
    | none => true)

/-- ACHAIN and ABYPASS: a setting of the active configuration plane (R212). -/
def State.chainMacro (s : State) (c mop : Nat) (f : Nat → Plane → Plane) : Out :=
  .next (s.runUnit c 0 (fun m => mopOf m == mop) (fun s cmd =>
    if (s.core c).gateOpen cmd then
      .done (s.modCore c (fun k => { k with active := k.active.map (f cmd.bits.toNat) }))
    else .wait s 3))

/-- ACHAIN (R212). -/
def execAchain (c : CoreId) (s : State) : Out :=
  s.chainMacro c.toNat 6 (fun m p => { p with
    start := (upto 0 8).map (fun j => bits m (16 + 4 * j) 3)
    fromNorth := BitVec.ofNat 8 ((upto 0 8).foldl (fun t j => t + (bits m (16 + 4 * j + 3) 1) * 2 ^ j) 0) })

/-- ABYPASS (R212): en for the columns of cmask. -/
def execAbypass (c : CoreId) (s : State) : Out :=
  s.chainMacro c.toNat 7 (fun m p => { p with
    bypass := let mask := BitVec.ofNat 8 (bits m 16 8)
      if bit m 24 then p.bypass ||| mask else p.bypass &&& ~~~mask })

/-- The row where the chain of column j starts, and whether it takes the bypass of the north. -/
def Core.chainStart (k : Core) (j : Nat) : Nat := match k.active with | some p => p.start.getD j 0 | none => 0
def Core.chainNorth (k : Core) (j : Nat) : Bool := match k.active with | some p => p.fromNorth.getLsbD j | none => false
def Core.bypassed (k : Core) (j : Nat) : Bool := match k.active with | some p => p.bypass.getLsbD j | none => false

/-! ## AMAC and ADIST (R213–R215) -/

/-- Fields of AMAC and ADIST (R213). -/
def macRing (m : Nat) : Nat := bits m 40 5
def macMask (m : Nat) : Nat := bits m 16 8
/-- The ring format that an activation format reads (R26, R214). -/
def actCode (afmt : Nat) : Nat := match afmt with | 0 => 1 | 1 => 2 | _ => 4
/-- Bytes of a vector. -/
def vectorBytes (afmt : Nat) : Nat := if afmt = 2 then 64 else 32

/-- The weight row a streaming unit reads, as row and half (R214). -/
def weightRow (m : Nat) (c : Nat → Nat) : Int :=
  (if bits m 25 3 = 2 then 2 * bits m 78 17 else bits m 78 17 : Int) + nestSum m 24 c
def rowOfWeight (m : Nat) (w : Int) : Int := if bits m 25 3 = 2 then w.fdiv 2 else w
def halfOfWeight (m : Nat) (w : Int) : Bool := decide (bits m 25 3 = 2 ∧ w % 2 = 1)

/-- The next weight row after counters `ctr` that differs from `w` (R214). -/
def nextWeight (m : Nat) (w : Int) : Nat → Nat → Option Int
  | 0, _ => none
  | fuel + 1, ctr =>
    let n := nestNext (nestExtent m) ctr
    if nestOver (nestExtent m) n then none
    else
      let v := weightRow m (fun i => bits n (16 * i) 16)
      if v = w then nextWeight m w fuel n else some v

/-- Begins the streaming fill of weight row w, or its fault (R214). -/
def State.streamFill (s : State) (c i m : Nat) (w : Int) : State ⊕ BitVec 8 :=
  let row := rowOfWeight m w
  if row < 0 then .inr 0x06
  else match s.fillsFault c i (macMask m) row.toNat with
    | some f => .inr f
    | none =>
      .inl ((s.beginFill c i (macMask m) row.toNat (halfOfWeight m w) (bits m 25 3) none).modQueue c i (fun u =>
        { u with wShadow := some (w % 2 ^ 64).toNat }))

/-- The checks at the start of an AMAC or ADIST (R212, R214). -/
def State.macStartFault (s : State) (c i m : Nat) : Option (BitVec 8) :=
  let k := s.core c
  let r := k.ring (macRing m)
  if !r.usable then some 0x08
  else if r.fmt ≠ 0 ∧ r.fmt.toNat ≠ actCode (bits m 28 3) then some 0x02
  else if (colsOf (macMask m)).any (fun j => decide (i < k.chainStart j)) then some 0x02
  else if i = 7 ∧ bits m 38 2 = 2 ∧ (colsOf (macMask m)).any (fun j => k.chainStart j != 4 || k.chainNorth j) then some 0x02
  else none

/-- The fault of a bypassed result (R212). -/
def State.bypassFault (s : State) (c j : Nat) : Option (BitVec 8) :=
  match southCore c with
  | none => some 0x0F
  | some d =>
    if !s.present (corePlace d 0 j) then some 0x0F
    else if !(s.partRect (s.partOfCore c)).holds (corePlace d 0 j) then some 0x07
    else none

/-- The sums that enter array (i, j): `none` when they have not come (R63, R212). -/
def State.sumsIn (s : State) (c i j : Nat) (dist : Bool) (mode : AccMode) : Option Sums :=
  let k := s.core c
  if i = k.chainStart j ∧ !(i = 0 ∧ k.chainNorth j) then some ⟨dist, mode, List.replicate 32 0, false⟩
  else (k.arrayAt i j).north

/-- Where array (i, j) hands its sums is free: the array below, the south core's, or the landing column. -/
def State.portFree (s : State) (c i j : Nat) : Bool :=
  let k := s.core c
  if i < 7 then (k.arrayAt (i + 1) j).north.isNone
  else if k.bypassed j then
    match southCore c with
    | some d => ((s.core d).arrayAt 0 j).north.isNone
    | none => true
  else (k.deliveries.get [] j).isEmpty

/-- Hands sums on from array (i, j) (R214): `row` and `lmode` matter at row 7; a skipped unit posts its arrival only. -/
def State.handOn (s : State) (c i j : Nat) (row : Nat) (lmode : BitVec 2) (sums : Sums) (skip : Bool) : State :=
  if i < 7 then s.modArray c (i + 1) j (fun a => { a with north := some sums })
  else if (s.core c).bypassed j then
    match southCore c with
    | some d => s.modArray d 0 j (fun a => { a with north := some sums })
    | none => s
  else s.modCore c (fun k => { k with
    deliveries := k.deliveries.set [] j (k.deliveries.get [] j ++ [⟨row, lmode, if skip then none else some sums⟩]) })

/-- Column sums in float mode as they enter an array in integer mode (R59, R214): a NaN and an infinity as R59's row for ACC40
integer, with status 0x12; the spec does not say what another value becomes (log 14). -/
def accToInt (a : Acc) : Acc × Bool :=
  let x := accFp a
  if x.isNan then (0, true)
  else if x.isInf then (accOfInt (if x.sign then -2 ^ 39 else 2 ^ 39 - 1), true)
  else if x.isZero then (0, false)
  else (Config.mixedSum true a, false)

/-- The sums that enter an array in `mode`, and whether an earlier array or the conversion saturated. -/
def Sums.into (x : Sums) (mode : AccMode) : List Acc × Bool :=
  if x.mode = mode then (x.vals, x.sat)
  else match mode with
    | .int => (x.vals.map (fun a => (accToInt a).1), x.sat || x.vals.any (fun a => (accToInt a).2))
    | .float => (x.vals.map (Config.mixedSum false), x.sat)

/-- An error that a streaming fill meets at weight row w (R207, R319, R320): the pages there are poisoned, and where they are
all pages of the request of the unit's slot, the fault is that request's own and the queue runs on; else it stops. -/
def State.fillError (s : State) (c i m : Nat) (w : Int) (slot : Option Nat) (ctr hi : Nat) : EUnit :=
  let row := (rowOfWeight m w).toNat
  let rows := s.badFills c i (macMask m) row
  let s' := s.poisonFills c i (macMask m) row
  match slot with
  | some n =>
    let es := s.recEntries (slotRec (s.slotEntry c n))
    let t := s'.slotFault c n 0x0D ctr
    if rows.all (fun x => es.any (fun e => s.entNames e x)) && slotMasked (t.slotEntry c n) then .wait t 2 else .stop s' 0x0D hi
  | none => .stop s' 0x0D hi

/-- What a unit of AMAC or ADIST is to do: the kind of unit, its landing row, the offset of its vector. -/
structure MacStep where
  kind : NestUnit
  lr : Nat
  offset : Nat

/-- A row sequencer at its next unit (R209, R214): what it waits for or faults on by itself, else what the unit is to do once
its chain has reached it. A skipped unit of a streaming macro neither fills nor swaps (DESIGN CHOICE, log 73). -/
def State.macReach (s : State) (c i : Nat) (cmd : Command) : EUnit ⊕ MacStep :=
  let m := cmd.bits.toNat
  let u := s.queueOf c i
  let k := s.core c
  let r := k.ring (macRing m)
  let ctr := u.ctr.toNat
  let hi := nestNext (nestExtent m) ctr
  let cols := colsOf (macMask m)
  let cnt (n : Nat) : Nat := bits ctr (16 * n) 16
  match (if u.started then none else s.macStartFault c i m) with
  | some f => .inl (.stop s f hi)
  | none =>
    if !u.started && decide (r.filled < bits m 61 8) then .inl (.wait s 3)
    else
      let kind := s.nestUnit c m cnt
      let lr := (bits m 31 7 : Int) + nestSum m 32 cnt
      let w := weightRow m cnt
      let o : Int := match kind with | .vec av => (vectorBytes (bits m 28 3) : Int) * av | _ => 0
      if kind = .fault then .inl (.stop s 0x08 hi)
      else if lr < 0 ∨ 127 < lr then .inl (.stop s 0x06 hi)
      else if o < 0 then .inl (.stop s 0x08 hi)
      else if (match kind with | .vec _ => decide (r.filled ≤ o.toNat / r.slotBytes % 512) | _ => false) then .inl (.wait s 3)
      else if kind ≠ .skip ∧ bit m 77 ∧ u.wActive ≠ some (w % 2 ^ 64).toNat then
        if u.wShadow = some (w % 2 ^ 64).toNat ∨ s.filling c i (macMask m) then .inl (.wait s 4)
        else match s.streamFill c i m w with
          | .inl s => .inl (.wait s 4)
          | .inr f => .inl (if f = 0x0D then s.fillError c i m w (nestSlot m cnt) ctr hi else .stop s f hi)
      else if kind ≠ .skip ∧ cols.any (fun j => (k.arrayAt i j).active.tag.toNat != bits m 25 3) then .inl (.stop s 0x02 hi)
      else .inr ⟨kind, lr.toNat, o.toNat⟩

/-- Row sequencer i of core c has reached its next unit of an AMAC or ADIST over column j, whose array has handed on what it
had (R214, R256). -/
def State.atUnit (s : State) (c i j : Nat) : Bool :=
  let k := s.core c
  let u := k.queue i
  match u.entries with
  | [] => false
  | cmd :: _ =>
    let m := cmd.bits.toNat
    (mopOf m == 3 || mopOf m == 4) && (macMask m).testBit j && u.parked.isNone && !k.fenced && !s.coreStopped c &&
      !k.gated i cmd && !u.nestOver (nestExtent m) && (k.arrayAt i j).north.isNone && s.portFree c i j &&
      (match s.macReach c i cmd with | .inr _ => true | .inl _ => false)

/-- Every sequencer of the chain south of array (i, j) of core c has reached the unit; a bypass carries the chain into the core
to the south (R212, R214, R256). The sums of one unit cross the chain before the next enters it. -/
def State.chainReady (s : State) : Nat → Nat → Nat → Nat → Bool
  | 0, _, _, _ => true
  | fuel + 1, c, i, j =>
    (upto (i + 1) (7 - i)).all (fun r => s.atUnit c r j) &&
      (match (if (s.core c).bypassed j && (s.bypassFault c j).isNone then southCore c else none) with
        | some d => !(s.core d).chainNorth j || s.atUnit d 0 j && s.chainReady fuel d 0 j
        | none => true)

/-- Array (i, j) of core c is the first of its chain. -/
def Core.chainFirst (k : Core) (i j : Nat) : Bool := i == k.chainStart j && !(i == 0 && k.chainNorth j)

/-- One unit of AMAC or ADIST over every array of cmask (R209, R214, R215). A unit enters a chain when every sequencer of the
chain has reached it: a late one holds the whole chain (R256). -/
def State.macUnit (s : State) (c i : Nat) (dist : Bool) (cmd : Command) : EUnit :=
  let m := cmd.bits.toNat
  let u := s.queueOf c i
  let k := s.core c
  let r := k.ring (macRing m)
  let ctr := u.ctr.toNat
  let hi := nestNext (nestExtent m) ctr
  let cols := colsOf (macMask m)
  let afmt := bits m 28 3
  let wfmt := bits m 25 3
  let mode := pairMode afmt wfmt
  if u.nestOver (nestExtent m) then
    if i = 7 ∧ cols.any (fun j => !(k.deliveries.get [] j).isEmpty) then .wait s 7
    else match r.doRelease (bits m 69 8) with
      | some r => .done (s.setRingAt c (macRing m) r)
      | none => .stop s 0x08 ctr
  else match s.macReach c i cmd with
    | .inl e => e
    | .inr x =>
      if cols.any (fun j => (s.sumsIn c i j dist mode).isNone || !s.portFree c i j ||
          k.chainFirst i j && !s.chainReady 4 c i j) then .wait s 2
      else if cols.any (fun j => match s.sumsIn c i j dist mode with | some x => x.dist != dist | none => false) then
        .stop s 0x02 hi
      else
        match (if i = 7 then (cols.filter k.bypassed).findSome? (fun j => s.bypassFault c j) else none) with
        | some f => .stop s f hi
        | none =>
          let addr := r.slotAddr (r.head + BitVec.ofNat 9 (x.offset / r.slotBytes)).toNat + x.offset % r.slotBytes
          let esize := if afmt = 2 then 2 else 1
          let act : Option (List Nat) := match x.kind with
            | .vec _ => some ((upto 0 32).map (fun n => bytesAt k.scratch (addr + esize * n) esize))
            | .zero => some (List.replicate 32 0)
            | _ => none
          .next (cols.foldl (fun s j =>
            match s.sumsIn c i j dist mode with
            | none => s
            | some y =>
              let accIn := y.into mode
              let z := arraySums afmt wfmt dist (bit m 24) (k.arrayAt i j).active act accIn.1
              let s := s.modArray c i j (fun a => { a with north := none })
              s.handOn c i j x.lr (BitVec.ofNat 2 (bits m 38 2)) ⟨dist, mode, z.1, accIn.2 || z.2⟩ (x.kind == .skip)) s) hi

/-- AMAC (R213, R214). -/
def execAmac (c : CoreId) (q : QueueId) (s : State) : Out :=
  .next (s.runUnit c.toNat q.toNat (fun m => mopOf m == 3) (fun s cmd => s.macUnit c.toNat q.toNat false cmd))
/-- ADIST (R213, R215). -/
def execAdist (c : CoreId) (q : QueueId) (s : State) : Out :=
  .next (s.runUnit c.toNat q.toNat (fun m => mopOf m == 4) (fun s cmd => s.macUnit c.toNat q.toNat true cmd))

/-- LATCH_SWAP (R214, R249): the swap of a streaming macro when the fill its unit waits for is complete; the fill of the next
distinct row begins at once. A fault of that fill is found when a unit needs the row. A fenced core swaps nothing (R345). -/
def execLatchSwap (c : CoreId) (q : QueueId) (s : State) : Out :=
  .next (let i := q.toNat
    let u := s.queueOf c.toNat i
    match u.entries with
    | [] => s
    | cmd :: _ =>
      let m := cmd.bits.toNat
      let ctr := u.ctr.toNat
      let w := weightRow m (fun n => bits ctr (16 * n) 16)
      if (s.core c.toNat).fenced || u.parked.isSome || !(mopOf m == 3 || mopOf m == 4) || !(bit m 77) || u.nestOver (nestExtent m) ||
          u.wShadow != some (w % 2 ^ 64).toNat || s.filling c.toNat i (macMask m) || s.windowHolds c.toNat i (macMask m) then s
      else
        let s := (s.swapLatches c.toNat i (macMask m)).modQueue c.toNat i (fun u =>
          { u with wActive := u.wShadow, wShadow := none, phase := 2 })
        match nextWeight m w (2 ^ 80) ctr with
        | none => s
        | some v => match s.streamFill c.toNat i m v with
          | .inl s => s
          | .inr _ => s)

/-! ## Arrivals at the landing (R216, R257, R344) -/

/-- An accumulator value as float: a macro that needs one from an int row takes it so (R216). -/
def accFloat (mode : AccMode) (a : Acc) : Acc := match mode with | .float => a | .int => accRound (Frac.ofInt (accInt a))

def Core.block (k : Core) (r j : Nat) : Block := k.rows.get Block.reset (8 * r + j)
def Core.setBlock (k : Core) (r j : Nat) (b : Block) : Core := { k with rows := k.rows.set Block.reset (8 * r + j) b }
def Core.stageBlock (k : Core) (r j : Nat) : Block := k.stage.get Block.reset (8 * r + j)
def Core.setStage (k : Core) (r j : Nat) (b : Block) : Core := { k with stage := k.stage.set Block.reset (8 * r + j) b }
def Core.arrived (k : Core) (r j : Nat) : BitVec 8 := k.arrivals.get 0 (8 * r + j)
def Core.setArrived (k : Core) (r j : Nat) (n : BitVec 8) : Core := { k with arrivals := k.arrivals.set 0 (8 * r + j) n }

/-- Row r, block j is held by an EDRAIN whose stores have not been accepted: from the fault of a row until the macro ends
(R217, R344). -/
def Core.held (k : Core) (r j : Nat) : Bool :=
  let u := k.queue 9
  match u.entries with
  | [] => false
  | cmd :: _ =>
    let m := cmd.bits.toNat
    (u.phase == 6 || u.mark == 1) && decide (ctrField u.ctr 3 ≤ r ∧ r ≤ bits m 24 7 + bits m 31 7) && (bits m 16 8).testBit j

/-- The sums of a delivery put into a row block, and whether an addition saturated (R216). -/
def Block.take (b : Block) (lmode : BitVec 2) (x : Sums) : Block × Bool :=
  if lmode = 0 then
    if b.tag = .int ∧ x.mode = .int then
      let rs := (b.vals.zip x.vals).map (fun p => accAdd .int p.1 p.2)
      (⟨.int, rs.map (fun r => r.1)⟩, rs.any (fun r => r.2))
    else (⟨.float, (b.vals.zip x.vals).map (fun p => accAddF (accFloat b.tag p.1) (accFloat x.mode p.2))⟩, false)
  else (⟨x.mode, x.vals⟩, false)

/-- LANDING_ARRIVAL (R214, R216, R257): the next delivery of a column updates its landing row and is counted; a fenced core
takes none (R345). -/
def execLandingArrival (c : CoreId) (col : BitVec 3) (s : State) : Out :=
  .next (let k := s.core c.toNat
    let j := col.toNat
    match k.deliveries.get [] j with
    | [] => s
    | d :: rest =>
      if k.held d.row j || k.fenced then s
      else
        let n := k.arrived d.row j
        let k := { k with deliveries := k.deliveries.set [] j rest }
        let k := k.setArrived d.row j (if n = 255 then 255 else n + 1)
        let k := k.raiseLstat 0 false (n == 255)
        s.setCore c.toNat (match d.sums with
          | none => k
          | some x =>
            if d.lmode = 2 then (k.setStage d.row j ⟨x.mode, x.vals⟩).raiseLstat 0 x.sat false
            else
              let b := (k.block d.row j).take d.lmode x
              (k.setBlock d.row j b.1).raiseLstat 0 (x.sat || b.2) false))

end Sys2Proof.Machine
end

