-- ==== Sys2Proof/Machine/Hash.lean ====
section
/-! DEFINITION. SHAKE256, the hash of the attestation reports (spec/12_fabric_host_time.md, R375–R378). The spec names the
function of FIPS 202 without printing it (PRESUMED, log 30). The sponge's 1,600 bits stand here as one number: bit
64 (x + 5 y) + z of it is the bit that FIPS 202 calls A[x, y, z], so that a plane is 320 consecutive bits and a message block is
added to the number as it stands. -/

namespace Sys2Proof.Machine.Sponge

/-- Bits of a block of the sponge, in bytes. -/
def rate : Nat := 136

/-- A lane, and a plane, of one state. -/
def lane (a x y : Nat) : Nat := bits a (64 * (x + 5 * y)) 64
def plane (a y : Nat) : Nat := bits a (320 * y) 320

/-- `w` bits turned towards the low end by `k` places. -/
def turn (w v k : Nat) : Nat := v / 2 ^ k + v % 2 ^ k * 2 ^ (w - k)

/-- A plane whose five lanes each move one place up, the top bit coming in at the bottom. -/
def stepUp (p : Nat) : Nat := (upto 0 5).foldl (fun t x => t + turn 64 (bits p (64 * x) 64) 63 * 2 ^ (64 * x)) 0

/-- What θ adds to every plane: the parities of the column to the west and, one bit up, of the column to the east. -/
def spread (a : Nat) : Nat :=
  let p := (upto 0 5).foldl (fun t y => t ^^^ plane a y) 0
  turn 320 p 256 ^^^ stepUp (turn 320 p 64)

/-- The walk of ρ over the lanes: from (x, y) to (y, 2 x + 3 y), which is also where π sends the lane. The n-th lane of the walk
turns by the n-th triangular number. -/
def walk : Nat → Nat → Nat → Nat → Nat → Nat → Nat
  | 0, _, _, _, _, t => t
  | fuel + 1, n, x, y, a, t =>
    let y' := (2 * x + 3 * y) % 5
    walk fuel (n + 1) y y' a (t + turn 64 (lane a x y) (63 - (n * (n + 1) / 2 + 63) % 64) * 2 ^ (64 * (y + 5 * y')))

/-- θ, then ρ with π. -/
def mix (a : Nat) : Nat :=
  let d := spread a
  let b := (upto 0 5).foldl (fun t y => t + (plane a y ^^^ d) * 2 ^ (320 * y)) 0
  walk 24 1 1 0 b (lane b 0 0)

/-- χ, plane by plane. -/
def bend (a : Nat) : Nat :=
  (upto 0 5).foldl (fun t y =>
    let p := plane a y
    t + (p ^^^ ((2 ^ 320 - 1 - turn 320 p 64) &&& turn 320 p 128)) * 2 ^ (320 * y)) 0

/-- The shift register that gives the constants of ι: x^8 + x^6 + x^5 + x^4 + 1. -/
def shiftOn (r : Nat) : Nat := if r < 128 then 2 * r else (2 * r) ^^^ 0x171

/-- Seven bits of the register set bits 2^j − 1 of the constant of one round. -/
def constant : Nat → Nat → Nat → Nat × Nat
  | 0, _, r => (0, r)
  | fuel + 1, j, r =>
    let (k, r') := constant fuel (j + 1) (shiftOn r)
    (k + r % 2 * 2 ^ (2 ^ j - 1), r')

/-- `n` rounds, the shift register standing at `r`. -/
def rounds : Nat → Nat → Nat → Nat
  | 0, _, a => a
  | n + 1, r, a =>
    let (k, r') := constant 7 0 r
    rounds n r' (bend (mix a) ^^^ k)

/-- The permutation of 24 rounds. -/
def permute (a : Nat) : Nat := rounds 24 1 a

/-- `n` blocks of a padded message, as one number, taken in. -/
def absorb : Nat → Nat → Nat → Nat
  | 0, _, a => a
  | n + 1, m, a => absorb n (m / 2 ^ (8 * rate)) (permute (a ^^^ m % 2 ^ (8 * rate)))

/-- `n` blocks put out, as one number. -/
def squeeze : Nat → Nat → Nat
  | 0, _ => 0
  | n + 1, a => a % 2 ^ (8 * rate) + squeeze n (permute a) * 2 ^ (8 * rate)

/-- The state after the message with its domain bits 1111, a one, and a one at the end of the last block. -/
def ofMessage (m : List Byte) : Nat :=
  let blocks := m.length / rate + 1
  absorb blocks (ofBytes m + 0x1F * 2 ^ (8 * m.length) + 2 ^ (8 * rate * blocks - 1)) 0

end Sys2Proof.Machine.Sponge

namespace Sys2Proof.Machine

/-- SHAKE256 of a message, `n` bytes. -/
def shake256 (m : List Byte) (n : Nat) : List Byte := toBytes n (Sponge.squeeze ((n + Sponge.rate - 1) / Sponge.rate) (Sponge.ofMessage m))

/-- SHAKE256 with a 64-byte output, least significant byte first. -/
def digest512 (m : List Byte) : BitVec 512 := BitVec.ofNat 512 (Sponge.squeeze 1 (Sponge.ofMessage m))

end Sys2Proof.Machine
end

