-- ==== Sys2Proof/Machine/Landing.lean ====
section
/-! DEFINITION. Landing macros (spec/07_engine_commands.md, R216–R222; spec/02_number_formats.md, R65, R69, R70;
spec/11_launch_preemption_faults.md, R344; spec/14_programs_decode_streaming.md, R384). One unit is one landing row. -/

namespace Sys2Proof.Machine

/-! ## Fields and values (R216) -/

def landRow0 (m : Nat) : Nat := bits m 24 7
def landLast (m : Nat) : Nat := bits m 24 7 + bits m 31 7
def landNeed (m : Nat) : Nat := bits m 38 8
/-- The columns of a set of blocks, in increasing index. -/
def landCols (mask : Nat) : List Nat := (colsOf mask).flatMap (fun b => upto (32 * b) 32)

/-- The value of column `col` of landing row r as ACC40 float: an int row's is rounded to it (R216). -/
def Core.rowVal (k : Core) (r col : Nat) : Acc :=
  let b := k.block r (col / 32)
  accFloat b.tag (b.vals.getD (col % 32) 0)
/-- Columns of a row block set as float, the other columns of the row unchanged. `f` gives each column's value. -/
def Core.setRowFloat (k : Core) (r mask : Nat) (f : Nat → Acc) : Core :=
  (colsOf mask).foldl (fun k b => k.setBlock r b ⟨.float, (upto 0 32).map (fun j => f (32 * b + j))⟩) k

def Core.softMax (k : Core) (r : Nat) : SoftMax := k.smax.get SoftMax.reset r
def Core.setSoftMax (k : Core) (r : Nat) (v : SoftMax) : Core := { k with smax := k.smax.set SoftMax.reset r v }

/-- round_rne(y, FP32) of an ACC40 value. -/
def accTo32 (a : Acc) : Res := fpOfAcc Fmt.fp32 .rne a
/-- An FP32 value as ACC40 float. -/
def accOf32 (b : Nat) : Acc := accOfExt (extOfFp (fp32 b))

/-! ## The frame of a landing macro (R44, R206, R216) -/

/-- What must hold before the first row, beside the arrivals. -/
inductive LandStart where
  | ready (s : State)
  | wait
  | fault (code : BitVec 8)

/-- Counters: landing row, pass, and the next row whose stores are unaccepted (R44). A unit is a whole row (R206), so that the
column block stays 0 (DESIGN CHOICE, log 39). -/
def landCtr (pass r held : Nat) : Nat := r + pass * 2 ^ 32 + held * 2 ^ 48

/-- Every row and block of a range has `need` arrivals. -/
def Core.arrivedAll (k : Core) (rows : List Nat) (mask need : Nat) : Bool :=
  rows.all (fun r => (colsOf mask).all (fun b => decide (need ≤ (k.arrived r b).toNat)))
/-- Subtracts need from the counts of a range. -/
def Core.consume (k : Core) (rows : List Nat) (mask need : Nat) : Core :=
  rows.foldl (fun k r => (colsOf mask).foldl (fun k b => k.setArrived r b (k.arrived r b - BitVec.ofNat 8 need)) k) k

/-- How the work on one row ends. -/
inductive LandRow where
  | ok (s : State)
  /-- A store that faults, or whose translation is not present: the row stays held. -/
  | fault (s : State) (code : BitVec 8) (addr : Nat)
  | miss (addr : Nat)

/-- The steps of a landing macro on rows: its stage number, the rows whose arrivals it waits for, its start, the work on a
row, its end. -/
structure LandWork where
  stage : Nat
  waitRows : List Nat
  waitMask : Nat
  need : Nat
  start : State → LandStart
  row : State → Nat → LandRow
  finish : State → State ⊕ BitVec 8
  /-- Whether [63:48] of the counters holds the row (R44). -/
  holds : Bool

/-- The first rows of a macro: m's own range and blocks. -/
def landRange (m : Nat) : List Nat := upto (landRow0 m) (bits m 31 7 + 1)

/-- One landing row of a macro (R206, R216, R258). -/
def State.landUnit (s : State) (c : Nat) (cmd : Command) (w : LandWork) : EUnit :=
  let m := cmd.bits.toNat
  let u := s.queueOf c 9
  let pass := (s.core c).pass.toNat
  let r := if u.started then ctrField u.ctr 0 else landRow0 m
  let at' (n held : Nat) : Nat := landCtr pass n (if w.holds then held else 0)
  let hi := at' (r + 1) r
  let s := s.modQueue c 9 (fun u => { u with espec := BitVec.ofNat 8 w.stage, ctr := BitVec.ofNat 80 (at' r r) })
  let work (s : State) : EUnit :=
    if landLast m < r then
      match w.finish s with
      | .inl s => .done s
      | .inr f => .stop s f (at' r r)
    else match w.row s r with
      | .ok s' =>
        if r = landLast m then
          match w.finish s' with
          | .inl s => .done s
          | .inr f =>
            let e := at' (r + 1) (r + 1)
            .stop (s'.modQueue c 9 (fun u => { u with ctr := BitVec.ofNat 80 e, started := true })) f e
        else .next s' (at' (r + 1) (r + 1))
      | .fault s' f a =>
        .fault (s'.modQueue c 9 (fun u => { u with started := true, mark := 1 })) f (some a) 0 (at' (landLast m + 1) r) 6
      | .miss a =>
        match (s.modQueue c 9 (fun u => { u with started := true, mark := 1 })).engineMiss c 9 cmd a 0 (at' (landLast m + 1) r) with
        | .wait s _ => .wait s 6
        | .fault s f a cls hi _ => .fault s f a cls hi 6
        | e => e
  if u.started then work s
  else if w.need ≠ 0 ∧ !(s.core c).arrivedAll w.waitRows w.waitMask w.need then .wait s 3
  else match w.start s with
    | .wait => .wait s 3
    | .fault f => .stop s f hi
    | .ready s => work (if bit m 46 then s.modCore c (fun k => k.consume w.waitRows w.waitMask w.need) else s)

/-- The frame of a macro with no start conditions of its own that works on the core alone. -/
def plainWork (m stage : Nat) (c : Nat) (f : Core → Nat → Core) : LandWork where
  stage := stage
  waitRows := landRange m
  waitMask := bits m 16 8
  need := landNeed m
  start := .ready
  row s r := .ok (s.modCore c (fun k => f k r))
  finish := .inl
  holds := false

/-- Runs the head macro of queue 9 when it has this opcode and this mode. -/
def State.runLanding (s : State) (c : Nat) (mine : Nat → Bool) (work : Nat → LandWork) : Out :=
  .next (s.runUnit c 9 mine (fun s cmd => s.landUnit c cmd (work cmd.bits.toNat)))

/-! ## Output to a ring (R159, R217) -/

/-- The start of a macro that writes `n` bytes to ring q with format code `code` (0 none): N slots are claimed. -/
def State.ringOutStart (s : State) (c q code n : Nat) : LandStart :=
  let r := s.ringAt c q
  let slots := r.slotsFor n
  if !r.usable || decide (r.slots < slots) then .fault 0x08
  else if r.fmt ≠ 0 ∧ r.fmt.toNat ≠ code then .fault 0x02
  else match r.doClaim slots with
    | none => .wait
    | some r' => .ready ((s.setRingAt c q r').modQueue c 9 (fun u => { u with base := r.claim }))

/-- Row r's image of `size` bytes put into its place in the ring. -/
def State.ringOutRow (s : State) (c q m r size : Nat) (image : Nat) : State :=
  s.putStream c (s.ringAt c q) (s.queueOf c 9).base ((r - landRow0 m) * size) (toBytes size image)

/-- The commit of the whole output. -/
def State.ringOutEnd (s : State) (c q n : Nat) : State ⊕ BitVec 8 :=
  let r := s.ringAt c q
  match r.doCommit (r.slotsFor n) with
  | some r => .inl (s.setRingAt c q r)
  | none => .inr 0x08

/-- Values of `size` bytes each, in order, as one number. -/
def packValues (size : Nat) : List Nat → Nat
  | [] => 0
  | v :: rest => v % 2 ^ (8 * size) + 2 ^ (8 * size) * packValues size rest

/-- Conversion results packed, with their flags. -/
def packResults (size : Nat) (rs : List Res) : Nat × Flags :=
  (packValues size (rs.map (fun r => r.bits)), rs.foldl (fun f r => f ||| r.flags) 0)

/-! ## EDRAIN (R217, R344, R384) -/

/-- Bytes of an element, and the ring code, of ofmt 0 to 5. -/
def drainSize (ofmt : Nat) : Nat := match ofmt with | 0 | 1 => 1 | 2 | 3 => 2 | 4 => 4 | _ => 8
def drainCode (ofmt : Nat) : Nat :=
  match ofmt with
  | 0 => 1
  | 1 => 2
  | 2 => 4
  | 3 => 5
  | 4 => 6
  | 5 => 7
  | _ => 0
/-- Bytes of a row image. -/
def drainBytes (m : Nat) : Nat :=
  let n := 32 * countOnes 8 (bits m 16 8)
  if bits m 47 4 = 6 then 16 + 8 * n else n * drainSize (bits m 47 4)

/-- An ACC40 float value in an output format (R55, R57, R59). -/
def convertAcc (ofmt : Nat) (y : Acc) : Res :=
  match ofmt with
  | 0 => mk8OfAcc y
  | 1 => (intFrom 8 .rne (accFp y)).lane 8
  | 2 => fpOfAcc Fmt.bf16 .rne y
  | 3 => fpOfAcc Fmt.fp16 .rne y
  | 4 => fpOfAcc Fmt.fp32 .rne y
  | _ => ⟨accStore .float y, 0⟩

/-- Column `col` of row r as EDRAIN forms it. The rounding of a scaled value to ACC40 raises no flag (R50; DESIGN CHOICE,
log 33). A container of an unscaled int row keeps its integer (R60). -/
def Core.drainElem (k : Core) (m r col : Nat) : Res :=
  let b := k.block r (col / 32)
  if bits m 47 4 = 5 ∧ !(bit m 51) then ⟨accStore b.tag (b.vals.getD (col % 32) 0), 0⟩
  else
    let y := k.rowVal r col
    convertAcc (bits m 47 4) (if bit m 51 then accScale y (extOfFp (fp32 (bits m 60 32))) else y)

/-- The image of row r with its flags (R217, R384). -/
def Core.drainImage (k : Core) (m r : Nat) : Nat × Flags :=
  let mask := bits m 16 8
  if bits m 47 4 = 6 then
    let x := k.softMax r
    let o := x.orow.getD r
    let cols := (landCols mask).map (fun col =>
      let b := k.block o (col / 32)
      accStore b.tag (b.vals.getD (col % 32) 0))
    (x.m.toNat + accStore .float x.s * 2 ^ 64 + packValues 8 cols * 2 ^ 128, 0)
  else packResults (drainSize (bits m 47 4)) ((landCols mask).map (k.drainElem m r))

/-- clr: the blocks of a row become +0 under their tags, and their counts 0 (R217, R383). -/
def Core.clearRow (k : Core) (r mask : Nat) : Core :=
  (colsOf mask).foldl (fun k b => (k.setBlock r b { Block.reset with tag := (k.block r b).tag }).setArrived r b 0) k

/-- The work of EDRAIN. -/
def drainWork (c m : Nat) : LandWork :=
  let mask := bits m 16 8
  let n := drainBytes m
  let all := n * (bits m 31 7 + 1)
  let q := bits m 55 5
  { stage := 7
    waitRows := landRange m
    waitMask := mask
    need := landNeed m
    holds := true
    start := fun s => if bits m 53 2 = 0 then s.ringOutStart c q (drainCode (bits m 47 4)) all else .ready s
    finish := fun s => if bits m 53 2 = 0 then s.ringOutEnd c q all else .inl s
    row := fun s r =>
      let image := (s.core c).drainImage m r
      let release (s : State) : LandRow := .ok (s.modCore c (fun k =>
        let k := k.raiseLstat image.2 false false
        if bit m 52 then k.clearRow r mask else k))
      if bits m 53 2 = 0 then release (s.ringOutRow c q m r n image.1)
      else
        let a := (bits m 128 64 + (r - landRow0 m) * bits m 192 32) % 2 ^ 64
        match s.engineWrite c (if bits m 53 2 = 1 then 2 else 1) a n image.1 0 with
        | (.fault f, s') => .fault s' f a
        | (.miss va, _) => .miss va
        | (_, s) => release s }

/-- EDRAIN (R217). -/
def execEdrain (c : CoreId) (s : State) : Out := s.runLanding c.toNat (fun m => mopOf m == 0x20) (drainWork c.toNat)

/-! ## EEXP and EFOLD (R218) -/

/-- EEXP (R218). -/
def execEexp (c : CoreId) (s : State) : Out :=
  s.runLanding c.toNat (fun m => mopOf m == 0x21) (fun m => plainWork m 1 c.toNat (fun k r =>
    let mask := bits m 16 8
    let x (col : Nat) : Res := accTo32 (k.rowVal r col)
    (k.setRowFloat r mask (fun col => accOf32 (landingExp (x col).bits))).raiseLstat
      ((landCols mask).foldl (fun f col => f ||| (x col).flags) 0) false false))

/-- EFOLD (R65, R218). -/
def execEfold (c : CoreId) (s : State) : Out :=
  s.runLanding c.toNat (fun m => mopOf m == 0x24) (fun m => plainWork m 4 c.toNat (fun k r =>
    match colsOf (bits m 16 8) with
    | [] => k
    | lo :: rest => k.setRowFloat r (2 ^ lo) (fun col =>
        rest.foldl (fun a b => accAddF a (k.rowVal r (32 * b + col % 32))) (k.rowVal r col))))

/-! ## ESMAX (R69, R70, R219) -/

/-- The o row and the p row paired with row r. -/
def smaxORow (m r : Nat) : Nat := bits m 49 7 + (r - landRow0 m)
def smaxPRow (m r : Nat) : Nat := bits m 56 7 + (r - landRow0 m)
def smaxMask (m : Nat) : Nat := bits m 63 8

def smaxMine (mode m : Nat) : Bool := mopOf m == 0x22 && bits m 47 2 == mode

/-- The row just worked on is paired with its o row (R384). -/
def Core.pairRow (k : Core) (m r : Nat) : Core := k.setSoftMax r { k.softMax r with orow := some (smaxORow m r) }

/-- The number of keys of a pass (R219). -/
def State.passKeys (s : State) (c m : Nat) : Nat :=
  if bit m 71 then
    let e := s.slotEntry c (bits m 72 9)
    if slotValid e && !slotMasked e then slotKvLen e else 0
  else bits m 81 16

/-- ESMAX pass on row r with K keys (R219). -/
def Core.smaxPass (k : Core) (m keys r : Nat) : Core :=
  let mask := bits m 16 8
  let cols := landCols mask
  let x (col : Nat) : Res := accTo32 (k.rowVal r col)
  let z (col : Nat) : Res := fpMul Fmt.fp32 .rne (fp32 (x col).bits) (fp32 (bits m 128 32))
  let act := cols.filter (fun col => decide (bits m 160 16 + col < keys))
  let zs := act.map (fun col => (col, (z col).bits))
  let mp := zs.foldl (fun t e => (fpMax Fmt.fp32 (fp32 t) (fp32 e.2)).bits) fp32NegInf
  let p (col : Nat) : Acc :=
    match zs.lookup col with
    | none => 0
    | some v => if mp = fp32NegInf then 0 else accOf32 (landingExp (fpAdd Fmt.fp32 .rne (fp32 v) (fp32 mp) true).bits)
  let ps := cols.map (fun col => (col, p col))
  let k' := k.setRowFloat r mask (fun col => (ps.lookup col).getD 0)
  let k' := (k'.setSoftMax r { k.softMax r with pm := BitVec.ofNat 32 mp, ps := ps.foldl (fun t e => accAddF t e.2) 0 })
  let diff (v : Nat) : Flags := if mp = fp32NegInf then 0 else (fpAdd Fmt.fp32 .rne (fp32 v) (fp32 mp) true).flags
  k'.raiseLstat (zs.foldl (fun f e => f ||| diff e.2)
    (act.foldl (fun f col => f ||| (x col).flags ||| (z col).flags) 0)) false false

/-- ESMAX_PASS (R219). -/
def execEsmaxPass (c : CoreId) (s : State) : Out :=
  s.runLanding c.toNat (smaxMine 0) (fun m =>
    { plainWork m 2 c.toNat (fun k _ => k) with
      row := fun s r => .ok (s.modCore c.toNat (fun k => (k.smaxPass m (s.passKeys c.toNat m) r).pairRow m r)) })

/-- The flags of the FP32 subtractions of smax_merge (R69, R219). -/
def smaxMergeFlags (m1 m2 : Nat) : Flags :=
  let m := fp32 (fpMax Fmt.fp32 (fp32 m1) (fp32 m2)).bits
  if (fp32 m1).isNan || (fp32 m2).isNan || m.bits == fp32NegInf then 0
  else (fpAdd Fmt.fp32 .rne (fp32 m1) m true).flags ||| (fpAdd Fmt.fp32 .rne (fp32 m2) m true).flags

/-- ESMAX merge on row r (R69, R219). -/
def Core.smaxMergeRow (k : Core) (m r : Nat) : Core :=
  let mask := smaxMask m
  let cols := landCols mask
  let o := smaxORow m r
  let p := smaxPRow m r
  let x := k.softMax r
  let t := smaxMerge ⟨x.m.toNat, x.s, cols.map (k.rowVal o)⟩ ⟨x.pm.toNat, x.ps, cols.map (k.rowVal p)⟩
  let vals := cols.zip t.o
  let k := k.setRowFloat o mask (fun col => (vals.lookup col).getD 0)
  let k := k.setRowFloat p mask (fun _ => 0)
  (k.setSoftMax r { x with m := BitVec.ofNat 32 t.m, s := t.s, pm := BitVec.ofNat 32 fp32NegInf, ps := 0 }).raiseLstat
    (smaxMergeFlags x.m.toNat x.pm.toNat) false false

/-- ESMAX_MERGE (R219): the arrival wait covers the p rows. -/
def execEsmaxMerge (c : CoreId) (s : State) : Out :=
  s.runLanding c.toNat (smaxMine 1) (fun m =>
    { plainWork m 2 c.toNat (fun k r => (k.smaxMergeRow m r).pairRow m r) with
      waitRows := (landRange m).map (smaxPRow m)
      waitMask := smaxMask m
      finish := fun s => .inl (s.modCore c.toNat (fun k => { k with pass := k.pass + 1 })) })

/-- ESMAX finish on row r (R70, R219). -/
def Core.smaxFinishRow (k : Core) (m r : Nat) : Core :=
  let mask := smaxMask m
  let o := smaxORow m r
  let x := k.softMax r
  if x.s = 0 then
    { k.setRowFloat o mask (fun _ => 0) with lempty := k.lempty ||| (1 <<< r) }
  else if (fp32 x.m.toNat).isNan then k.setRowFloat o mask (fun _ => accNan)
  else
    let q (col : Nat) : Res := fpDiv Fmt.fp32 .rne (accFp (k.rowVal o col)) (accFp x.s)
    (k.setRowFloat o mask (fun col => accOf32 (q col).bits)).raiseLstat
      ((landCols mask).foldl (fun f col => f ||| (q col).flags) 0) false false

/-- ESMAX_FINISH (R219). -/
def execEsmaxFinish (c : CoreId) (s : State) : Out :=
  s.runLanding c.toNat (smaxMine 2) (fun m =>
    { plainWork m 2 c.toNat (fun k r => (k.smaxFinishRow m r).pairRow m r) with need := 0 })

/-- ESMAX_RESET (R219). -/
def execEsmaxReset (c : CoreId) (s : State) : Out :=
  s.runLanding c.toNat (smaxMine 3) (fun m =>
    { plainWork m 2 c.toNat (fun k r =>
        let x := k.softMax r
        let k := k.setRowFloat (smaxORow m r) (smaxMask m) (fun _ => 0)
        (k.setSoftMax r { x with
          m := BitVec.ofNat 32 fp32NegInf, s := 0, pm := BitVec.ofNat 32 fp32NegInf, ps := 0 }).pairRow m r) with
      need := 0
      finish := fun s => .inl (s.modCore c.toNat (fun k => { k with pass := 0 })) })

/-! ## ETOPK and ETURN (R220, R221) -/

/-- A candidate before which others stand is placed after them (R71). -/
def insertRanked (x : Nat × Nat) : List (Nat × Nat) → List (Nat × Nat)
  | [] => [x]
  | y :: rest => if ranksBefore (extOfFp (fp32 x.1)) x.2 (extOfFp (fp32 y.1)) y.2 then x :: y :: rest else y :: insertRanked x rest

/-- Bytes of a row image that ends in ring q: the work of ETOPK and ETURN. -/
def turnWork (c m stage q code size : Nat) (image : Core → Nat → Nat × Flags) : LandWork where
  stage := stage
  waitRows := landRange m
  waitMask := bits m 16 8
  need := landNeed m
  holds := false
  start s := s.ringOutStart c q code (size * (bits m 31 7 + 1))
  finish s := s.ringOutEnd c q (size * (bits m 31 7 + 1))
  row s r :=
    let x := image (s.core c) r
    .ok ((s.ringOutRow c q m r size x.1).modCore c (fun k => k.raiseLstat x.2 false false))

/-- ETOPK (R71, R193, R220). -/
def execEtopk (c : CoreId) (s : State) : Out :=
  s.runLanding c.toNat (fun m => mopOf m == 0x23) (fun m =>
    let n := bits m 47 7 + 1
    turnWork c.toNat m 3 (bits m 54 5) 0 (8 * n) (fun k r =>
      let xs := (landCols (bits m 16 8)).map (fun col => (accTo32 (k.rowVal r col), col))
      let best := ((xs.map (fun e => (e.1.bits, e.2))).foldr insertRanked []).take n
      let filled := best ++ List.replicate (n - best.length) (fp32Nan, 0xFFFFFFFF)
      (packValues 8 (filled.map (fun e => e.1 + e.2 * 2 ^ 32)), xs.foldl (fun f e => f ||| e.1.flags) 0)))

/-- ETURN (R221). -/
def execEturn (c : CoreId) (s : State) : Out :=
  s.runLanding c.toNat (fun m => mopOf m == 0x25) (fun m =>
    let afmt := bits m 47 3
    let mask := bits m 16 8
    turnWork c.toNat m 5 (bits m 50 5) (actCode afmt) (vectorBytes afmt * countOnes 8 mask) (fun k r =>
      packResults (if afmt = 2 then 2 else 1) ((landCols mask).map (fun col => convertAcc afmt (k.rowVal r col)))))

/-! ## ESCALE (R65, R222) -/

/-- ESCALE on row r with the scales of the columns in order. Its roundings to ACC40 raise no flag (R50; DESIGN CHOICE,
log 33). -/
def Core.scaleRow (k : Core) (mask r : Nat) (scales : List (Nat × Nat)) : Core :=
  let g (col : Nat) : Acc :=
    let b := k.stageBlock r (col / 32)
    accFloat b.tag (b.vals.getD (col % 32) 0)
  let y (col : Nat) : Acc := accScale (g col) (extOfFp ⟨Fmt.bf16, (scales.lookup col).getD 0⟩)
  let k' := k.setRowFloat r mask (fun col => accAddF (k.rowVal r col) (y col))
  (colsOf mask).foldl (fun k b => k.setStage r b Block.reset) k'

/-- ESCALE (R222). -/
def execEscale (c : CoreId) (s : State) : Out :=
  s.runLanding c.toNat (fun m => mopOf m == 0x26) (fun m =>
    let c := c.toNat
    let mask := bits m 16 8
    let q := bits m 47 5
    let soff := bits m 52 16
    let cols := landCols mask
    { plainWork m 6 c (fun k _ => k) with
      start := fun s =>
        let r := s.ringAt c q
        if !r.usable then .fault 0x08
        else if !cols.isEmpty && decide (r.filled ≤ (soff + 2 * cols.length - 1) / r.slotBytes) then .wait
        else .ready s
      row := fun s r =>
        let ring := s.ringAt c q
        let scales := (upto 0 cols.length).map (fun n =>
          (cols.getD n 0, ring.streamRead (s.core c).scratch ring.head (soff + 2 * n) 2))
        .ok (s.modCore c (fun k => k.scaleRow mask r scales))
      finish := fun s => match (s.ringAt c q).doRelease (bits m 68 8) with
        | some r => .inl (s.setRingAt c q r)
        | none => .inr 0x08 })

end Sys2Proof.Machine
end

