-- ==== Sys2Proof/Machine/Vector.lean ====
section
/-! DEFINITION. The vector registers and the floating, conversion and integer vector instructions
(spec/06_vector_unit.md, R172–R187, R195). -/

namespace Sys2Proof.Machine

/-! ## The vector register file (R11, R13–R15, R173–R175) -/

/-- A vector register of zeros. -/
def VReg.zero : VReg := Vector.replicate 1024 0
/-- Element (r, c) at 64 r + c (R13). -/
def VReg.at (v : VReg) (r c : Nat) : Word := v.toArray.getD (64 * r + c) 0
/-- The register whose element (r, c) is f r c. -/
def VReg.gen (f : Nat → Nat → Word) : VReg := Vector.ofFn (fun i => f (i.val / 64) (i.val % 64))
/-- `old` with its active elements, those of the mask, taken from `new` (R173). -/
def VReg.merge (mask : Pred) (old new : VReg) : VReg :=
  Vector.ofFn (fun i => if mask.getLsbD i.val then new[i.val] else old[i.val])
/-- Row r as a list. -/
def VReg.row (v : VReg) (r : Nat) : List Word := (upto 0 64).map (fun c => v.at r c)
def VReg.col (v : VReg) (c : Nat) : List Word := (upto 0 16).map (fun r => v.at r c)

def Core.vreg (k : Core) (n : Nat) : VReg := k.vfile.get VReg.zero n
def Core.setVreg (k : Core) (n : Nat) (v : VReg) : Core := { k with vfile := k.vfile.set VReg.zero n v }

/-- B(s): the sum of the windows of the resident strands with lower ids (R14). -/
def Core.windowBase (k : Core) (i : Nat) : Nat :=
  ((upto 0 i).map (fun j => if (k.strand j).run = .absent then 0 else (k.strand j).wv)).sum

/-- The core register a vector name of the current strand maps to (R14, R15). -/
def State.vphys (s : State) (n : Nat) : Nat := (s.core s.myCore).windowBase s.myStrand + s.me.physV n
/-- v[n] read and written. -/
def State.rv (s : State) (n : Nat) : VReg := (s.core s.myCore).vreg (s.vphys n)
def State.wv (s : State) (n : Nat) (v : VReg) : State := s.modCore s.myCore (fun k => k.setVreg (s.vphys n) v)

/-- The checks of step 5 for the operands `regs`, each a run of consecutive names: the window, the group bounds, overlap of
the first two when they must lie `apart`, then type, rm and immediate ranges, `ok` (R174, R175, R177). -/
def State.vcheck (s : State) (regs : List (Nat × Nat)) (apart ok : Bool) : Option Raise :=
  let names := regs.flatMap (fun r => upto r.1 r.2)
  let sets := regs.map (fun r => (upto r.1 r.2).map s.vphys)
  if names.any (fun n => decide (s.me.wv ≤ n ∧ n < 64)) then some (raise 0x07)
  else if names.any (fun n => decide (64 ≤ n)) then some (raise 0x02)
  else if apart && (sets.getD 0 []).any (fun n => (sets.getD 1 []).contains n) then some (raise 0x03)
  else if !ok then some (raise 0x02)
  else none

/-- A vector instruction: its checks whatever the mask, then its effect (R173, R177). -/
def State.runV (s : State) (len : Nat) (regs : List (Nat × Nat)) (apart ok : Bool) (uses : List (BitVec 5))
    (op : State → State) : Out :=
  s.run len (s.vcheck regs apart ok) true uses (fun s => .next (op s))

/-- The active elements of v[d] written from `new`, every source having been read (R173). -/
def State.wvActive (s : State) (d : Nat) (mask : Pred) (new : VReg) : State := s.wv d (VReg.merge mask (s.rv d) new)

/-- Values and flags of the elements of the mask, row-major; the others keep 0 and raise nothing. -/
def eachActive (mask : Pred) (f : Nat → Nat → Word × Flags) : VReg × Flags :=
  let v : Vector (Word × Flags) 1024 := Vector.ofFn (fun i =>
    if mask.getLsbD i.val then f (i.val / 64) (i.val % 64) else (0, 0))
  (v.map (fun p => p.1), v.toArray.foldl (fun a p => a ||| p.2) 0)

/-- The long-form fields of a short form (R195). -/
def longForm (f : FV) (ty : Nat) (vc : BitVec 6) (imm : Nat) : FVL :=
  { g := BitVec.ofNat 7 (guardName4 f.g), vd := f.vd, va := f.va, vb := f.vb, vc := vc, rm := 0, ty := BitVec.ofNat 3 ty,
    imm := BitVec.ofNat 13 imm }

/-- The registers an elementwise operation names (R180, R187). -/
def vregs (f : FVL) (srcs : Nat) : List (Nat × Nat) :=
  [(f.vd.toNat, 1), (f.va.toNat, 1), (f.vb.toNat, 1), (f.vc.toNat, 1)].take (srcs + 1)

/-- An elementwise operation (R173, R176): lane results into the active elements of vd, their flags into fstat. -/
def State.elementwise (s : State) (len : Nat) (f : FVL) (o : VecOp) : Out :=
  s.runV len (vregs f o.srcs) false (o.ok f.rm f.ty.toNat f.imm.toNat) [] (fun s =>
    let mask := s.me.mask7 f.g
    let a := s.rv f.va.toNat
    let b := s.rv f.vb.toNat
    let c := s.rv f.vc.toNat
    let r := eachActive mask (fun i j =>
      o.elem (Rm.ofBits f.rm) f.ty.toNat f.imm.toNat (a.at i j) (b.at i j) (c.at i j))
    (s.wvActive f.vd.toNat mask r.1).modMe (fun t => t.raise r.2))

/-! ## Major 0x50 (R180–R184) -/

/-- VADD (R180). -/
def execVadd (f : FVL) (s : State) : Out := s.elementwise 2 f opVadd
/-- VSUB (R180). -/
def execVsub (f : FVL) (s : State) : Out := s.elementwise 2 f opVsub
/-- VMUL (R180). -/
def execVmul (f : FVL) (s : State) : Out := s.elementwise 2 f opVmul
/-- VFMA (R180). -/
def execVfma (f : FVL) (s : State) : Out := s.elementwise 2 f opVfma
/-- VFMS (R180). -/
def execVfms (f : FVL) (s : State) : Out := s.elementwise 2 f opVfms
/-- VFNMA (R180). -/
def execVfnma (f : FVL) (s : State) : Out := s.elementwise 2 f opVfnma
/-- VDIV (R180). -/
def execVdiv (f : FVL) (s : State) : Out := s.elementwise 2 f opVdiv
/-- VSQRT (R180). -/
def execVsqrt (f : FVL) (s : State) : Out := s.elementwise 2 f opVsqrt
/-- VMAX (R180). -/
def execVmax (f : FVL) (s : State) : Out := s.elementwise 2 f opVmax
/-- VMIN (R180). -/
def execVmin (f : FVL) (s : State) : Out := s.elementwise 2 f opVmin
/-- VABS (R180). -/
def execVabs (f : FVL) (s : State) : Out := s.elementwise 2 f opVabs
/-- VNEG (R180). -/
def execVneg (f : FVL) (s : State) : Out := s.elementwise 2 f opVneg
/-- VCPSGN (R180). -/
def execVcpsgn (f : FVL) (s : State) : Out := s.elementwise 2 f opVcpsgn
/-- VRINT (R180). -/
def execVrint (f : FVL) (s : State) : Out := s.elementwise 2 f opVrint
/-- VLDEXP (R180). -/
def execVldexp (f : FVL) (s : State) : Out := s.elementwise 2 f opVldexp
/-- VRCP (R180). -/
def execVrcp (f : FVL) (s : State) : Out := s.elementwise 2 f opVrcp
/-- VRSQRT (R180). -/
def execVrsqrt (f : FVL) (s : State) : Out := s.elementwise 2 f opVrsqrt
/-- VEXP (R180). -/
def execVexp (f : FVL) (s : State) : Out := s.elementwise 2 f opVexp
/-- VEXP2 (R180). -/
def execVexp2 (f : FVL) (s : State) : Out := s.elementwise 2 f opVexp2
/-- VLOG2 (R180). -/
def execVlog2 (f : FVL) (s : State) : Out := s.elementwise 2 f opVlog2
/-- VTANH (R180). -/
def execVtanh (f : FVL) (s : State) : Out := s.elementwise 2 f opVtanh
/-- VSIGM (R180). -/
def execVsigm (f : FVL) (s : State) : Out := s.elementwise 2 f opVsigm
/-- VSILU (R180). -/
def execVsilu (f : FVL) (s : State) : Out := s.elementwise 2 f opVsilu
/-- VGELU (R180). -/
def execVgelu (f : FVL) (s : State) : Out := s.elementwise 2 f opVgelu
/-- VCVT (R184). -/
def execVcvt (f : FVL) (s : State) : Out := s.elementwise 2 f opVcvt
/-- VMAXNUM (R180). -/
def execVmaxnum (f : FVL) (s : State) : Out := s.elementwise 2 f opVmaxnum
/-- VMINNUM (R180). -/
def execVminnum (f : FVL) (s : State) : Out := s.elementwise 2 f opVminnum
/-- VDOT2 (R180). -/
def execVdot2 (f : FVL) (s : State) : Out := s.elementwise 2 f opVdot2
/-- VSQD (R180). -/
def execVsqd (f : FVL) (s : State) : Out := s.elementwise 2 f opVsqd
/-- VLERP (R180). -/
def execVlerp (f : FVL) (s : State) : Out := s.elementwise 2 f opVlerp

/-- The conversions of VCVTN (R185): destination type, source type. -/
def narrowLane (dst src : Nat) (rm : Rm) (a : Nat) : Res :=
  match dst, src with
  | 1, _ => fpConvert Fmt.bf16 rm (fp32 a)
  | 2, _ => fpConvert Fmt.fp16 rm (fp32 a)
  | 5, _ => mk8From (fp32 a)
  | 4, 0 => (intFrom 8 rm (fp32 a)).lane 8
  | 4, _ => (intOfFrac (-128) 127 rm (Frac.ofInt (sextNat a 32))).lane 8
  | _, 0 => (intFrom 4 rm (fp32 a)).lane 4
  | _, _ => (intOfFrac (-8) 7 rm (Frac.ofInt (sextNat a 32))).lane 4
def narrowOk (dst src : Nat) : Bool := [(1, 0), (2, 0), (5, 0), (4, 0), (4, 3), (6, 0), (6, 3)].contains (dst, src)

/-- VCVTN (R185): the group va, of 32 / width registers, into vd, which is no member of it. With a type pair that the form does not
take the group is one register, so that 0x02 comes before a window, bounds or overlap fault of a later member (DESIGN CHOICE,
log 91). -/
def execVcvtn (f : FVL) (s : State) : Out :=
  let ty := f.ty.toNat
  let src := f.imm.toNat
  let k := if narrowOk ty src then 32 / laneWidth ty else 1
  s.runV 2 [(f.vd.toNat, 1), (f.va.toNat, k)] (narrowOk ty src) (narrowOk ty src) [] (fun s =>
    let mask := s.me.mask7 f.g
    let group := (upto 0 k).map (fun j => s.rv (f.va.toNat + j))
    let r := eachActive mask (fun i c =>
      packLanes (laneWidth ty) (group.map (fun v => narrowLane ty src (Rm.ofBits f.rm) (v.at i c).toNat)))
    (s.wvActive f.vd.toNat mask r.1).modMe (fun t => t.raise r.2))

/-- The conversions of VCVTW (R186). -/
def widenLane (dst src : Nat) (rm : Rm) (a : Nat) : Res :=
  match dst, src with
  | 0, 1 => fpConvert Fmt.fp32 rm ⟨Fmt.bf16, a⟩
  | 0, 2 => fpConvert Fmt.fp32 rm ⟨Fmt.fp16, a⟩
  | 0, 5 => fpOfMk8 Fmt.fp32 rm a
  | 0, 4 => fpOfInt Fmt.fp32 rm (sextNat a 8)
  | 0, _ => fpOfInt Fmt.fp32 rm (sextNat a 4)
  | _, 1 => (intFrom 32 rm ⟨Fmt.bf16, a⟩).lane 32
  | _, 2 => (intFrom 32 rm ⟨Fmt.fp16, a⟩).lane 32
  | _, 5 => (intOfMk8 (-2 ^ 31) (2 ^ 31 - 1) rm a).lane 32
  | _, 4 => ⟨(sextNat a 8 % 2 ^ 32).toNat, 0⟩
  | _, _ => ⟨(sextNat a 4 % 2 ^ 32).toNat, 0⟩
def widenOk (dst src : Nat) : Bool := (dst == 0 || dst == 3) && [1, 2, 4, 5, 6].contains src

/-- VCVTW (R186): the lanes of va into the group vd, of which va is no member; the group of a type pair that the form does not take
is one register (DESIGN CHOICE, log 91). -/
def execVcvtw (f : FVL) (s : State) : Out :=
  let ty := f.ty.toNat
  let src := f.imm.toNat
  let k := if widenOk ty src then 32 / laneWidth src else 1
  s.runV 2 [(f.vd.toNat, k), (f.va.toNat, 1)] (widenOk ty src) (widenOk ty src) [] (fun s =>
    let mask := s.me.mask7 f.g
    let a := s.rv f.va.toNat
    (upto 0 k).foldl (fun s j =>
      let r := eachActive mask (fun i c =>
        packLanes 32 [widenLane ty src (Rm.ofBits f.rm) (lane (laneWidth src) j (a.at i c))])
      (s.wvActive (f.vd.toNat + j) mask r.1).modMe (fun t => t.raise r.2)) s)

/-! ## Major 0x51 (R187) -/

/-- VIADD (R187). -/
def execViadd (f : FVL) (s : State) : Out := s.elementwise 2 f opViadd
/-- VISUB (R187). -/
def execVisub (f : FVL) (s : State) : Out := s.elementwise 2 f opVisub
/-- VIMUL (R187). -/
def execVimul (f : FVL) (s : State) : Out := s.elementwise 2 f opVimul
/-- VIMULH (R187). -/
def execVimulh (f : FVL) (s : State) : Out := s.elementwise 2 f opVimulh
/-- VIMAD (R187). -/
def execVimad (f : FVL) (s : State) : Out := s.elementwise 2 f opVimad
/-- VIADDS (R187). -/
def execViadds (f : FVL) (s : State) : Out := s.elementwise 2 f opViadds
/-- VISUBS (R187). -/
def execVisubs (f : FVL) (s : State) : Out := s.elementwise 2 f opVisubs
/-- VIADDUS (R187). -/
def execViaddus (f : FVL) (s : State) : Out := s.elementwise 2 f opViaddus
/-- VISUBUS (R187). -/
def execVisubus (f : FVL) (s : State) : Out := s.elementwise 2 f opVisubus
/-- VIMIN (R187). -/
def execVimin (f : FVL) (s : State) : Out := s.elementwise 2 f opVimin
/-- VIMAX (R187). -/
def execVimax (f : FVL) (s : State) : Out := s.elementwise 2 f opVimax
/-- VIMINU (R187). -/
def execViminu (f : FVL) (s : State) : Out := s.elementwise 2 f opViminu
/-- VIMAXU (R187). -/
def execVimaxu (f : FVL) (s : State) : Out := s.elementwise 2 f opVimaxu
/-- VIABS (R187). -/
def execViabs (f : FVL) (s : State) : Out := s.elementwise 2 f opViabs
/-- VAND (R187). -/
def execVand (f : FVL) (s : State) : Out := s.elementwise 2 f opVand
/-- VOR (R187). -/
def execVor (f : FVL) (s : State) : Out := s.elementwise 2 f opVor
/-- VXOR (R187). -/
def execVxor (f : FVL) (s : State) : Out := s.elementwise 2 f opVxor
/-- VANDN (R187). -/
def execVandn (f : FVL) (s : State) : Out := s.elementwise 2 f opVandn
/-- VNOT (R187). -/
def execVnot (f : FVL) (s : State) : Out := s.elementwise 2 f opVnot
/-- VSLL (R187). -/
def execVsll (f : FVL) (s : State) : Out := s.elementwise 2 f opVsll
/-- VSRL (R187). -/
def execVsrl (f : FVL) (s : State) : Out := s.elementwise 2 f opVsrl
/-- VSRA (R187). -/
def execVsra (f : FVL) (s : State) : Out := s.elementwise 2 f opVsra
/-- VSLLI (R187). -/
def execVslli (f : FVL) (s : State) : Out := s.elementwise 2 f opVslli
/-- VSRLI (R187). -/
def execVsrli (f : FVL) (s : State) : Out := s.elementwise 2 f opVsrli
/-- VSRAI (R187). -/
def execVsrai (f : FVL) (s : State) : Out := s.elementwise 2 f opVsrai
/-- VPOPC (R187). -/
def execVpopc (f : FVL) (s : State) : Out := s.elementwise 2 f opVpopc
/-- VCLZ (R187). -/
def execVclz (f : FVL) (s : State) : Out := s.elementwise 2 f opVclz
/-- VDOT4 (R187). -/
def execVdot4 (f : FVL) (s : State) : Out := s.elementwise 2 f opVdot4
/-- VADDI (R187). -/
def execVaddi (f : FVL) (s : State) : Out := s.elementwise 2 f opVaddi
/-- VANDI (R187). -/
def execVandi (f : FVL) (s : State) : Out := s.elementwise 2 f opVandi
/-- VSRAR (R187). -/
def execVsrar (f : FVL) (s : State) : Out := s.elementwise 2 f opVsrar
/-- VCLAMP (R187). -/
def execVclamp (f : FVL) (s : State) : Out := s.elementwise 2 f opVclamp

/-! ## Short forms of majors 0x30 and 0x31 (R195) -/

/-- The short VADD.f32 (R195). -/
def execVaddShort (f : FV) (s : State) : Out := s.elementwise 1 (longForm f 0 0 0) opVadd
/-- The short VSUB.f32 (R195). -/
def execVsubShort (f : FV) (s : State) : Out := s.elementwise 1 (longForm f 0 0 0) opVsub
/-- The short VMUL.f32 (R195). -/
def execVmulShort (f : FV) (s : State) : Out := s.elementwise 1 (longForm f 0 0 0) opVmul
/-- The short VFMA.f32 (R195). -/
def execVfmaShort (f : FV) (s : State) : Out := s.elementwise 1 (longForm f 0 f.vd 0) opVfma
/-- The short VMAX.f32 (R195). -/
def execVmaxShort (f : FV) (s : State) : Out := s.elementwise 1 (longForm f 0 0 0) opVmax
/-- The short VMIN.f32 (R195). -/
def execVminShort (f : FV) (s : State) : Out := s.elementwise 1 (longForm f 0 0 0) opVmin
/-- The short VEXP.f32 (R195). -/
def execVexpShort (f : FV) (s : State) : Out := s.elementwise 1 (longForm f 0 0 0) opVexp
/-- The short VSIGM.f32 (R195). -/
def execVsigmShort (f : FV) (s : State) : Out := s.elementwise 1 (longForm f 0 0 0) opVsigm
/-- The short VIADD.i32 (R195). -/
def execViaddShort (f : FV) (s : State) : Out := s.elementwise 1 (longForm f 3 0 0) opViadd
/-- The short VISUB.i32 (R195). -/
def execVisubShort (f : FV) (s : State) : Out := s.elementwise 1 (longForm f 3 0 0) opVisub
/-- The short VIMUL.i32 (R195). -/
def execVimulShort (f : FV) (s : State) : Out := s.elementwise 1 (longForm f 3 0 0) opVimul
/-- The short VAND.i32 (R195). -/
def execVandShort (f : FV) (s : State) : Out := s.elementwise 1 (longForm f 3 0 0) opVand
/-- The short VOR.i32 (R195). -/
def execVorShort (f : FV) (s : State) : Out := s.elementwise 1 (longForm f 3 0 0) opVor
/-- The short VXOR.i32 (R195). -/
def execVxorShort (f : FV) (s : State) : Out := s.elementwise 1 (longForm f 3 0 0) opVxor
/-- The short VIMAX.i32 (R195). -/
def execVimaxShort (f : FV) (s : State) : Out := s.elementwise 1 (longForm f 3 0 0) opVimax
/-- The short VIMIN.i32 (R195). -/
def execViminShort (f : FV) (s : State) : Out := s.elementwise 1 (longForm f 3 0 0) opVimin

end Sys2Proof.Machine
end

