-- ==== Sys2Proof/Machine/VectorData.lean ====
section
/-! DEFINITION. Vector compares, predicate instructions, data movement, reductions, scans, VTOPK and VSAMP
(spec/06_vector_unit.md, R188–R195). -/

namespace Sys2Proof.Machine

/-! ## Predicates (R188) -/

/-- The predicate whose bit (r, c) is f r c. -/
def genPred (f : Nat → Nat → Bool) : Pred :=
  BitVec.ofNat 1024 ((upto 0 1024).foldr (fun i acc => (if f (i / 64) (i % 64) then 1 else 0) + 2 * acc) 0)
def predBit (p : Pred) (r c : Nat) : Bool := p.getLsbD (64 * r + c)

/-- Predicate numbers of 6 bits and an extension bit of imm13 (R188). -/
def pdOf (f : FVL) : Nat := f.vd.toNat + 64 * bits f.imm.toNat 12 1
def paOf (f : FVL) : Nat := f.va.toNat + 64 * bits f.imm.toNat 11 1
def pbOf (f : FVL) : Nat := f.vb.toNat + 64 * bits f.imm.toNat 10 1

/-- A predicate result merged under the mask (R188); p0 ignores it (R13). -/
def State.wpMerge (s : State) (pd : Nat) (mask r : Pred) : State :=
  s.modMe (fun t => t.wp pd ((mask &&& r) ||| (~~~mask &&& t.rp pd)))

def typeless (f : FVL) : Bool := f.ty == 0 && f.rm == 0

/-- A compare of the elements of va and vb (R188, R189). -/
def State.compare (s : State) (len : Nat) (f : FVL) (types : List Nat) (cmp : Nat → Word → Word → Bool × Flags) : Out :=
  s.runV len [(f.va.toNat, 1), (f.vb.toNat, 1)] false (types.contains f.ty.toNat && f.rm == 0) [] (fun s =>
    let mask := s.me.mask7 f.g
    let a := s.rv f.va.toNat
    let b := s.rv f.vb.toNat
    let r := eachActive mask (fun i c =>
      let p := cmp f.ty.toNat (a.at i c) (b.at i c)
      (if p.1 then 1 else 0, p.2))
    (s.wpMerge (pdOf f) mask (genPred (fun i c => r.1.at i c != 0))).modMe (fun t => t.raise r.2))

/-- A predicate formed from predicates (R188). -/
def State.predOp (s : State) (len : Nat) (f : FVL) (v : State → Pred) : Out :=
  s.runV len [] false (typeless f) [] (fun s => s.wpMerge (pdOf f) (s.me.mask7 f.g) (v s))

/-- A predicate formed from va, typeless (R188). -/
def State.predOfVec (s : State) (f : FVL) (v : VReg → Nat → Nat → Bool) : Out :=
  s.runV 2 [(f.va.toNat, 1)] false (typeless f) [] (fun s =>
    s.wpMerge (pdOf f) (s.me.mask7 f.g) (genPred (v (s.rv f.va.toNat))))

/-- A vector formed from pa, typeless (R188). -/
def State.vecOfPred (s : State) (f : FVL) (v : Pred → Nat → Nat → Word) : Out :=
  s.runV 2 [(f.vd.toNat, 1)] false (typeless f) [] (fun s =>
    s.wvActive f.vd.toNat (s.me.mask7 f.g) (VReg.gen (v (s.me.rp (paOf f)))))

/-- A float compare with its NaN rule: `quiet` raises NV for a signalling NaN only (R189). -/
def floatCmp (quiet nan : Bool) (p : Fp → Fp → Bool) (a b : Word) : Bool × Flags :=
  let x := fp32 a.toNat
  let y := fp32 b.toNat
  if x.isNan || y.isNan then (nan, if quiet then snanFlag [x, y] else Flags.nv) else (p x y, 0)
def fpLe (a b : Fp) : Bool := fpLt a b || fpEq a b

def cmpEq (ty : Nat) (a b : Word) : Bool × Flags := if ty = 0 then floatCmp true false fpEq a b else (a == b, 0)
def cmpNe (ty : Nat) (a b : Word) : Bool × Flags := if ty = 0 then floatCmp true true (fun x y => !fpEq x y) a b else (a != b, 0)
def cmpLt (ty : Nat) (a b : Word) : Bool × Flags := if ty = 0 then floatCmp false false fpLt a b else (a.slt b, 0)
def cmpLe (ty : Nat) (a b : Word) : Bool × Flags := if ty = 0 then floatCmp false false fpLe a b else (a.sle b, 0)
def cmpGt (ty : Nat) (a b : Word) : Bool × Flags := if ty = 0 then floatCmp false false (fun x y => fpLt y x) a b else (b.slt a, 0)
def cmpGe (ty : Nat) (a b : Word) : Bool × Flags := if ty = 0 then floatCmp false false (fun x y => fpLe y x) a b else (b.sle a, 0)
def cmpLtu (_ : Nat) (a b : Word) : Bool × Flags := (a.ult b, 0)

/-- VCMPEQ (R188, R189). -/
def execVcmpeq (f : FVL) (s : State) : Out := s.compare 2 f [0, 3] cmpEq
/-- VCMPNE (R188, R189). -/
def execVcmpne (f : FVL) (s : State) : Out := s.compare 2 f [0, 3] cmpNe
/-- VCMPLT (R188, R189). -/
def execVcmplt (f : FVL) (s : State) : Out := s.compare 2 f [0, 3] cmpLt
/-- VCMPLE (R188, R189). -/
def execVcmple (f : FVL) (s : State) : Out := s.compare 2 f [0, 3] cmpLe
/-- VCMPGT (R188, R189). -/
def execVcmpgt (f : FVL) (s : State) : Out := s.compare 2 f [0, 3] cmpGt
/-- VCMPGE (R188, R189). -/
def execVcmpge (f : FVL) (s : State) : Out := s.compare 2 f [0, 3] cmpGe
/-- VCMPLTU (R188). -/
def execVcmpltu (f : FVL) (s : State) : Out := s.compare 2 f [3] cmpLtu
/-- VCMPGEU (R188). -/
def execVcmpgeu (f : FVL) (s : State) : Out := s.compare 2 f [3] (fun _ a b => (!a.ult b, 0))
/-- VCMPUN (R188, R189). -/
def execVcmpun (f : FVL) (s : State) : Out := s.compare 2 f [0] (fun _ a b => floatCmp true true (fun _ _ => false) a b)

/-- The class bit of an FP32 value (R189). -/
def classBit (x : Fp) : Nat :=
  if x.isNan then (if x.isSnan then 8 else 9)
  else if x.isInf then (if x.sign then 0 else 7)
  else if x.isZero then (if x.sign then 3 else 4)
  else if x.isSubnormal then (if x.sign then 2 else 5)
  else if x.sign then 1 else 6

/-- VFTEST (R188, R189). -/
def execVftest (f : FVL) (s : State) : Out :=
  s.runV 2 [(f.va.toNat, 1)] false (f.ty == 0 && f.rm == 0) [] (fun s =>
    let a := s.rv f.va.toNat
    s.wpMerge (pdOf f) (s.me.mask7 f.g) (genPred (fun r c => f.imm.getLsbD (classBit (fp32 (a.at r c).toNat)))))

/-- PAND (R188). -/
def execPand (f : FVL) (s : State) : Out := s.predOp 2 f (fun s => s.me.rp (paOf f) &&& s.me.rp (pbOf f))
/-- POR (R188). -/
def execPor (f : FVL) (s : State) : Out := s.predOp 2 f (fun s => s.me.rp (paOf f) ||| s.me.rp (pbOf f))
/-- PXOR (R188). -/
def execPxor (f : FVL) (s : State) : Out := s.predOp 2 f (fun s => s.me.rp (paOf f) ^^^ s.me.rp (pbOf f))
/-- PANDN (R188). -/
def execPandn (f : FVL) (s : State) : Out := s.predOp 2 f (fun s => s.me.rp (paOf f) &&& ~~~(s.me.rp (pbOf f)))
/-- PORN (R188). -/
def execPorn (f : FVL) (s : State) : Out := s.predOp 2 f (fun s => s.me.rp (paOf f) ||| ~~~(s.me.rp (pbOf f)))
/-- PNOT (R188). -/
def execPnot (f : FVL) (s : State) : Out := s.predOp 2 f (fun s => ~~~(s.me.rp (paOf f)))
/-- PSET (R188). -/
def execPset (f : FVL) (s : State) : Out := s.predOp 2 f (fun _ => BitVec.allOnes 1024)
/-- PCLR (R188). -/
def execPclr (f : FVL) (s : State) : Out := s.predOp 2 f (fun _ => 0)
/-- PLEN (R188). -/
def execPlen (f : FVL) (s : State) : Out := s.predOfVec f (fun v r c => decide (c < (v.at r c).toNat))
/-- PLENR (R188). -/
def execPlenr (f : FVL) (s : State) : Out := s.predOfVec f (fun v r c => decide (r < (v.at r c).toNat))

/-- The lowest set bit of `p` among the `n` from `lo`. -/
def firstBit (p : Pred) (lo n : Nat) : Option Nat := (upto lo n).find? (fun i => p.getLsbD i)
/-- The number of set bits among the `n` from `lo`. -/
def bitCount (p : Pred) (lo n : Nat) : Nat := ((upto lo n).filter (fun i => p.getLsbD i)).length

/-- PFIRST (R188). -/
def execPfirst (f : FVL) (s : State) : Out :=
  s.predOp 2 f (fun s =>
    let k := firstBit (s.me.rp (paOf f)) 0 1024
    genPred (fun r c => k == some (64 * r + c)))
/-- PFIRSTR (R188). -/
def execPfirstr (f : FVL) (s : State) : Out :=
  s.predOp 2 f (fun s =>
    let p := s.me.rp (paOf f)
    let ks := (upto 0 16).map (fun r => firstBit p (64 * r) 64)
    genPred (fun r c => ks.getD r none == some (64 * r + c)))
/-- PCNT (R188). -/
def execPcnt (f : FVL) (s : State) : Out :=
  s.vecOfPred f (fun p => let n := bitCount p 0 1024; fun _ _ => BitVec.ofNat 32 n)
/-- PCNTR (R188). -/
def execPcntr (f : FVL) (s : State) : Out :=
  s.vecOfPred f (fun p =>
    let ns := (upto 0 16).map (fun r => bitCount p (64 * r) 64)
    fun r _ => BitVec.ofNat 32 (ns.getD r 0))
/-- VSEL (R188). -/
def execVsel (f : FVL) (s : State) : Out :=
  s.runV 2 [(f.vd.toNat, 1), (f.va.toNat, 1), (f.vb.toNat, 1)] false (typeless f) [] (fun s =>
    let p := s.me.rp (bits f.imm.toNat 0 7)
    s.wvActive f.vd.toNat (s.me.mask7 f.g) (VReg.merge p (s.rv f.vb.toNat) (s.rv f.va.toNat)))
/-- VPTOV (R188). -/
def execVptov (f : FVL) (s : State) : Out := s.vecOfPred f (fun p r c => if predBit p r c then 1 else 0)
/-- VTOP (R188). -/
def execVtop (f : FVL) (s : State) : Out := s.predOfVec f (fun v r c => v.at r c != 0)
/-- PANY (R188). -/
def execPany (f : FVL) (s : State) : Out := s.predOp 2 f (fun s => allOrNone (s.me.rp (paOf f) != 0))
/-- PALL (R188). -/
def execPall (f : FVL) (s : State) : Out := s.predOp 2 f (fun s => allOrNone (s.me.rp (paOf f) == BitVec.allOnes 1024))
/-- PANYR (R188). -/
def execPanyr (f : FVL) (s : State) : Out :=
  s.predOp 2 f (fun s =>
    let p := s.me.rp (paOf f)
    genPred (fun r _ => (firstBit p (64 * r) 64).isSome))
/-- PROTR (R188). -/
def execProtr (f : FVL) (s : State) : Out :=
  s.predOp 2 f (fun s => genPred (fun r c => predBit (s.me.rp (paOf f)) r ((c + 64 - bits f.imm.toNat 0 6) % 64)))
/-- PROWB (R188). -/
def execProwb (f : FVL) (s : State) : Out := s.predOp 2 f (fun s => genPred (fun _ c => predBit (s.me.rp (paOf f)) 0 c))

/-! ## Data movement (R190) -/

/-- A typeless move from va: element (r, c) of the result from the register (R190). -/
def State.move (s : State) (len : Nat) (f : FVL) (ok : Bool) (v : VReg → Nat → Nat → Word) : Out :=
  s.runV len [(f.vd.toNat, 1), (f.va.toNat, 1)] false (typeless f && ok) [] (fun s =>
    s.wvActive f.vd.toNat (s.me.mask7 f.g) (VReg.gen (v (s.rv f.va.toNat))))

/-- A typeless move from va by the indices in vb (R190). -/
def State.moveBy (s : State) (len : Nat) (f : FVL) (v : VReg → VReg → Nat → Nat → Word) : Out :=
  s.runV len [(f.vd.toNat, 1), (f.va.toNat, 1), (f.vb.toNat, 1)] false (typeless f) [] (fun s =>
    s.wvActive f.vd.toNat (s.me.mask7 f.g) (VReg.gen (v (s.rv f.va.toNat) (s.rv f.vb.toNat))))

/-- A typeless result that reads no vector register (R190). -/
def State.fill (s : State) (len : Nat) (f : FVL) (v : State → Nat → Nat → Word) (uses : List (BitVec 5)) : Out :=
  s.runV len [(f.vd.toNat, 1)] false (typeless f) uses (fun s =>
    s.wvActive f.vd.toNat (s.me.mask7 f.g) (VReg.gen (v s)))

/-- sext(imm13, 13) mod 2^32. -/
def imm13Word (f : FVL) : Word := f.imm.signExtend 32
/-- VBCX's, VINS's register (R190). -/
def xbOf (f : FVL) : BitVec 5 := BitVec.ofNat 5 f.vb.toNat

/-- VMOV (R190). -/
def execVmov (f : FVL) (s : State) : Out := s.move 2 f true (fun v r c => v.at r c)
/-- VLI (R190). -/
def execVli (f : FVL) (s : State) : Out := s.fill 2 f (fun _ _ _ => imm13Word f) []
/-- VBCX (R190). -/
def execVbcx (f : FVL) (s : State) : Out := s.fill 2 f (fun s _ _ => (s.rx (xbOf f)).setWidth 32) [xbOf f]
/-- VINS (R190). -/
def execVins (f : FVL) (s : State) : Out :=
  s.runV 2 [(f.vd.toNat, 1)] false (typeless f) [xbOf f] (fun s =>
    let at_ : Pred := 1 <<< (64 * bits f.imm.toNat 0 4 + bits f.imm.toNat 4 6)
    s.wvActive f.vd.toNat (s.me.mask7 f.g &&& at_) (VReg.gen (fun _ _ => (s.rx (xbOf f)).setWidth 32)))
/-- VEXT (R190). -/
def execVext (f : FVL) (s : State) : Out :=
  let d := BitVec.ofNat 5 f.vd.toNat
  let row := bits f.imm.toNat 0 4
  let col := bits f.imm.toNat 4 6
  s.runV 2 [(f.va.toNat, 1)] false (typeless f) [d] (fun s =>
    if predBit (s.me.mask7 f.g) row col then s.wx d (((s.rv f.va.toNat).at row col).setWidth 64) else s)
/-- VIOTA (R190). -/
def execViota (f : FVL) (s : State) : Out := s.fill 2 f (fun _ r c => BitVec.ofNat 32 (64 * r + c) + imm13Word f) []
/-- VROTR (R190). -/
def execVrotr (f : FVL) (s : State) : Out := s.move 2 f true (fun v r c => v.at r ((c + 64 - bits f.imm.toNat 0 6) % 64))
/-- VROTC (R190). -/
def execVrotc (f : FVL) (s : State) : Out := s.move 2 f true (fun v r c => v.at ((r + 16 - bits f.imm.toNat 0 4) % 16) c)
/-- VSHR (R190): k from 0 to 64. -/
def execVshr (f : FVL) (s : State) : Out :=
  let k := f.imm.toNat
  s.move 2 f (decide (k ≤ 64)) (fun v r c => if k ≤ c then v.at r (c - k) else 0)
/-- VSHC (R190): k from 0 to 16. -/
def execVshc (f : FVL) (s : State) : Out :=
  let k := f.imm.toNat
  s.move 2 f (decide (k ≤ 16)) (fun v r c => if k ≤ r then v.at (r - k) c else 0)
/-- VREV (R190). -/
def execVrev (f : FVL) (s : State) : Out := s.move 2 f true (fun v r c => v.at r (63 - c))
/-- VREVC (R190). -/
def execVrevc (f : FVL) (s : State) : Out := s.move 2 f true (fun v r c => v.at (15 - r) c)
/-- VTR16 (R190). -/
def execVtr16 (f : FVL) (s : State) : Out := s.move 2 f true (fun v r c => v.at (c % 16) (16 * (c / 16) + r))
/-- VBCR (R190). -/
def execVbcr (f : FVL) (s : State) : Out := s.move 2 f true (fun v _ c => v.at (bits f.imm.toNat 0 4) c)
/-- VBCC (R190). -/
def execVbcc (f : FVL) (s : State) : Out := s.move 2 f true (fun v r _ => v.at r (bits f.imm.toNat 0 6))

/-- An element gathered along the row (R190). -/
def gatherRow (a b : VReg) (r c : Nat) : Word := a.at r ((b.at r c).toNat % 64)
/-- Bytes permuted within 16-byte groups (R190). -/
def permuteBytes (a b : VReg) (r c : Nat) : Word :=
  BitVec.ofNat 32 (ofBytes ((upto 0 4).map (fun j =>
    let i := lane 8 j (b.at r c)
    if i.testBit 7 then 0 else BitVec.ofNat 8 (lane 8 (i % 4) (a.at r (4 * (c / 4) + i % 16 / 4))))))

/-- VGATHR (R190). -/
def execVgathr (f : FVL) (s : State) : Out := s.moveBy 2 f gatherRow
/-- VGATHC (R190). -/
def execVgathc (f : FVL) (s : State) : Out := s.moveBy 2 f (fun a b r c => a.at ((b.at r c).toNat % 16) c)
/-- VPERMB (R190). -/
def execVpermb (f : FVL) (s : State) : Out := s.moveBy 2 f permuteBytes
/-- VSWAPH (R190). -/
def execVswaph (f : FVL) (s : State) : Out := s.move 2 f true (fun v r c => (v.at r c).rotateLeft 16)
/-- VBSWAP (R190). -/
def execVbswap (f : FVL) (s : State) : Out :=
  s.move 2 f true (fun v r c => BitVec.ofNat 32 (ofBytes (toBytes 4 (v.at r c).toNat).reverse))

/-- A row compressed: its active elements first, then zeros (R192). -/
def compressRow (mask : Pred) (v : VReg) (r : Nat) : List Word :=
  (upto 0 64).filterMap (fun c => if predBit mask r c then some (v.at r c) else none)
/-- VCOMPR (R192): every element of vd, whatever the mask. -/
def execVcompr (f : FVL) (s : State) : Out :=
  s.runV 2 [(f.vd.toNat, 1), (f.va.toNat, 1)] false (typeless f) [] (fun s =>
    let rows := (upto 0 16).map (fun r => compressRow (s.me.mask7 f.g) (s.rv f.va.toNat) r)
    s.wv f.vd.toNat (VReg.gen (fun r c => (rows.getD r []).getD c 0)))
/-- VEXPD (R192). -/
def execVexpd (f : FVL) (s : State) : Out :=
  s.runV 2 [(f.vd.toNat, 1), (f.va.toNat, 1)] false (typeless f) [] (fun s =>
    let mask := s.me.mask7 f.g
    s.wvActive f.vd.toNat mask (VReg.gen (fun r c => (s.rv f.va.toNat).at r (bitCount mask (64 * r) c))))

/-! ## Reductions and scans (R191) -/

/-- A value with the flags raised so far. -/
abbrev Flagged := Word × Flags

/-- comb of two values (R191). -/
def combine (op : Nat) (rm : Rm) (x y : Flagged) : Flagged :=
  let fl := x.2 ||| y.2
  let fp (r : Res) : Flagged := (BitVec.ofNat 32 r.bits, fl ||| r.flags)
  let a := fp32 x.1.toNat
  let b := fp32 y.1.toNat
  match op with
  | 0 => fp (fpAdd Fmt.fp32 rm a b)
  | 1 => fp (fpMax Fmt.fp32 a b)
  | 2 => fp (fpMin Fmt.fp32 a b)
  | 3 => (x.1 + y.1, fl)
  | 4 => (if x.1.slt y.1 then y.1 else x.1, fl)
  | 5 => (if y.1.slt x.1 then y.1 else x.1, fl)
  | 6 => (x.1 ||| y.1, fl)
  | _ => (x.1 &&& y.1, fl)

/-- The identity of an operation (R191). -/
def identity (op : Nat) : Word :=
  match op with
  | 1 => 0xFF800000
  | 2 => 0x7F800000
  | 4 => 0x80000000
  | 5 => 0x7FFFFFFF
  | 7 => 0xFFFFFFFF
  | _ => 0

/-- Type and rm of an operation (R190, R191): an rm other than 0 goes with FADD only, in reductions and in scans alike (R190 can be
read to allow it in every scan; DESIGN CHOICE, log 85). -/
def reduceOk (op ty : Nat) (rm : BitVec 2) : Bool :=
  decide (op < 8) && (if op < 3 then ty == 0 else ty == 3) && (rm == 0 || op == 0)

/-- One level of the tree: neighbours combined. -/
def treeStep (f : Flagged → Flagged → Flagged) : List Flagged → List Flagged
  | a :: b :: rest => f a b :: treeStep f rest
  | l => l
/-- tree over 2^n values (R191). -/
def tree (f : Flagged → Flagged → Flagged) : Nat → List Flagged → Flagged
  | 0, l => l.headD (0, 0)
  | n + 1, l => tree f n (treeStep f l)

/-- The elements that take part, in place; the others give the identity (R191). -/
def taking (op : Nat) (mask : Pred) (v : VReg) (r c : Nat) : Flagged :=
  if predBit mask r c then (v.at r c, 0) else (identity op, 0)

/-- The end of a reduction: the identity +0 takes part in an FADD reduction, so that −0 values give +0 (R191). -/
def closeReduce (op : Nat) (rm : Rm) (x : Flagged) : Flagged := if op = 0 then combine 0 rm (0, 0) x else x

/-- The results of the rows, and of the columns. -/
def reduceRows (op : Nat) (rm : Rm) (t : Nat → Nat → Flagged) : List Flagged :=
  (upto 0 16).map (fun r => tree (combine op rm) 6 ((upto 0 64).map (fun c => t r c)))
def reduceCols (op : Nat) (rm : Rm) (t : Nat → Nat → Flagged) : List Flagged :=
  (upto 0 64).map (fun c => tree (combine op rm) 4 ((upto 0 16).map (fun r => t r c)))

/-- Results written to the active elements, and the flags of all of them raised. -/
def State.putReduced (s : State) (f : FVL) (rs : List Flagged) (pick : Nat → Nat → Nat) : State :=
  (s.wvActive f.vd.toNat (s.me.mask7 f.g) (VReg.gen (fun r c => (rs.getD (pick r c) (0, 0)).1))).modMe
    (fun t => t.raise (rs.foldl (fun a x => a ||| x.2) 0))

/-- A reduction of va (R191). -/
def State.reduce (s : State) (len : Nat) (f : FVL) (rs : Nat → Rm → (Nat → Nat → Flagged) → List Flagged)
    (pick : Nat → Nat → Nat) : Out :=
  let op := f.imm.toNat
  s.runV len [(f.vd.toNat, 1), (f.va.toNat, 1)] false (reduceOk op f.ty.toNat f.rm) [] (fun s =>
    let rm := Rm.ofBits f.rm
    s.putReduced f ((rs op rm (taking op (s.me.mask7 f.g) (s.rv f.va.toNat))).map (closeReduce op rm)) pick)

/-- VREDR (R191). -/
def execVredr (f : FVL) (s : State) : Out := s.reduce 2 f reduceRows (fun r _ => r)
/-- VREDC (R191). -/
def execVredc (f : FVL) (s : State) : Out := s.reduce 2 f reduceCols (fun _ c => c)
/-- VREDA (R191): the tree of the row results. -/
def execVreda (f : FVL) (s : State) : Out :=
  s.reduce 2 f (fun op rm t => [tree (combine op rm) 4 (reduceRows op rm t)]) (fun _ _ => 0)

/-- VSUMSQR (R190): the FADD reduction of each row's squares. -/
def execVsumsqr (f : FVL) (s : State) : Out :=
  s.runV 2 [(f.vd.toNat, 1), (f.va.toNat, 1)] false (f.ty == 0) [] (fun s =>
    let rm := Rm.ofBits f.rm
    let v := s.rv f.va.toNat
    let mask := s.me.mask7 f.g
    let sq (r c : Nat) : Flagged :=
      if predBit mask r c then
        let x := fp32 (v.at r c).toNat
        let p := fpMul Fmt.fp32 rm x x
        (BitVec.ofNat 32 p.bits, p.flags)
      else (0, 0)
    s.putReduced f ((reduceRows 0 rm sq).map (closeReduce 0 rm)) (fun r _ => r))

/-- The inclusive scan of a line of values, `none` where inactive (R191). -/
def scanLine (f : Flagged → Flagged → Flagged) : Flagged → List (Option Word) → List Flagged
  | _, [] => []
  | acc, none :: rest => (0, 0) :: scanLine f acc rest
  | acc, some x :: rest =>
    let a := f (acc.1, 0) (x, 0)
    a :: scanLine f a rest

/-- A scan of va along rows or columns (R191). -/
def State.scan (s : State) (f : FVL) (lines len : Nat) (cell : Nat → Nat → Nat × Nat) (pick : Nat → Nat → Nat × Nat) : Out :=
  let op := f.imm.toNat
  s.runV 2 [(f.vd.toNat, 1), (f.va.toNat, 1)] false (reduceOk op f.ty.toNat f.rm) [] (fun s =>
    let mask := s.me.mask7 f.g
    let v := s.rv f.va.toNat
    let out := (upto 0 lines).map (fun i =>
      scanLine (combine op (Rm.ofBits f.rm)) (identity op, 0) ((upto 0 len).map (fun j =>
        let rc := cell i j
        if predBit mask rc.1 rc.2 then some (v.at rc.1 rc.2) else none)))
    (s.wvActive f.vd.toNat mask (VReg.gen (fun r c =>
      let p := pick r c
      ((out.getD p.1 []).getD p.2 (0, 0)).1))).modMe
      (fun t => t.raise (out.foldl (fun a l => l.foldl (fun a x => a ||| x.2) a) 0)))

/-- VSCANR (R191). -/
def execVscanr (f : FVL) (s : State) : Out := s.scan f 16 64 (fun r c => (r, c)) (fun r c => (r, c))
/-- VSCANC (R191). -/
def execVscanc (f : FVL) (s : State) : Out := s.scan f 64 16 (fun c r => (r, c)) (fun r c => (c, r))

/-- VPSCAN (R190). -/
def execVpscan (f : FVL) (s : State) : Out :=
  s.fill 2 f (fun s r c => BitVec.ofNat 32 (bitCount (s.me.rp (bits f.imm.toNat 0 7)) (64 * r) c)) []
/-- VPSCANA (R190). -/
def execVpscana (f : FVL) (s : State) : Out :=
  s.fill 2 f (fun s r c => BitVec.ofNat 32 (bitCount (s.me.rp (bits f.imm.toNat 0 7)) 0 (64 * r + c))) []

/-! ## VTOPK and VSAMP (R193, R194) -/

/-- A candidate's value for ranking (R71). -/
def rankValue (ty : Nat) (w : Word) : Ext := if ty = 0 then extOfFp (fp32 w.toNat) else .fin (Frac.ofInt w.toInt)

/-- A ranked list with one more candidate (R71). -/
def rankInsert (ty : Nat) (x : Word × Nat) : List (Word × Nat) → List (Word × Nat)
  | [] => [x]
  | y :: rest =>
    if ranksBefore (rankValue ty x.1) x.2 (rankValue ty y.1) y.2 then x :: y :: rest else y :: rankInsert ty x rest

/-- The active elements of a row, best first (R71, R193). -/
def rankRow (ty : Nat) (mask : Pred) (v : VReg) (r : Nat) : List (Word × Nat) :=
  (upto 0 64).foldl (fun l c => if predBit mask r c then rankInsert ty (v.at r c, c) l else l) []

/-- VTOPK (R193). With no active element at all it writes nothing (R173). -/
def execVtopk (f : FVL) (s : State) : Out :=
  let k := f.imm.toNat
  let ty := f.ty.toNat
  s.runV 2 [(f.vd.toNat, 2), (f.va.toNat, 1)] true ((ty == 0 || ty == 3) && f.rm == 0 && decide (1 ≤ k ∧ k ≤ 64)) []
    (fun s =>
      let mask := s.me.mask7 f.g
      if mask = 0 then s
      else
        let rows := (upto 0 16).map (fun r => rankRow ty mask (s.rv f.va.toNat) r)
        let fill : Word × Nat := (if ty = 0 then 0x7FC00000 else 0x80000000, 0xFFFFFFFF)
        let cols := genPred (fun _ c => decide (c < k))
        let s := s.wvActive f.vd.toNat cols (VReg.gen (fun r i => ((rows.getD r []).getD i fill).1))
        s.wvActive (f.vd.toNat + 1) cols (VReg.gen (fun r i => BitVec.ofNat 32 ((rows.getD r []).getD i fill).2)))

/-- VSAMP (R194). -/
def execVsamp (f : FVL) (s : State) : Out :=
  s.runV 2 [(f.vd.toNat, 1), (f.va.toNat, 1), (f.vb.toNat, 1)] false (f.ty == 0 && f.rm == 0) [] (fun s =>
    let mask := s.me.mask7 f.g
    let a := s.rv f.va.toNat
    let b := s.rv f.vb.toNat
    let picks := (upto 0 16).map (fun r =>
      let t := fp32 (b.at r 0).toNat
      ((upto 0 64).find? (fun c =>
        let x := fp32 (a.at r c).toNat
        predBit mask r c && !x.isNan && !t.isNan && fpLt t x)).getD 64)
    s.wvActive f.vd.toNat mask (VReg.gen (fun r _ => BitVec.ofNat 32 (picks.getD r 64))))

/-! ## Short forms of majors 0x32 and 0x33 (R195) -/

/-- The short VCMPEQ.f32 (R195). -/
def execVcmpeqF32Short (f : FV) (s : State) : Out := s.compare 1 (longForm f 0 0 0) [0, 3] cmpEq
/-- The short VCMPLT.f32 (R195). -/
def execVcmpltF32Short (f : FV) (s : State) : Out := s.compare 1 (longForm f 0 0 0) [0, 3] cmpLt
/-- The short VCMPLE.f32 (R195). -/
def execVcmpleF32Short (f : FV) (s : State) : Out := s.compare 1 (longForm f 0 0 0) [0, 3] cmpLe
/-- The short VCMPEQ.i32 (R195). -/
def execVcmpeqI32Short (f : FV) (s : State) : Out := s.compare 1 (longForm f 3 0 0) [0, 3] cmpEq
/-- The short VCMPLT.i32 (R195). -/
def execVcmpltI32Short (f : FV) (s : State) : Out := s.compare 1 (longForm f 3 0 0) [0, 3] cmpLt
/-- The short VCMPLTU.i32 (R195). -/
def execVcmpltuI32Short (f : FV) (s : State) : Out := s.compare 1 (longForm f 3 0 0) [3] cmpLtu
/-- The short PAND (R195). -/
def execPandShort (f : FV) (s : State) : Out :=
  s.predOp 1 (longForm f 0 0 0) (fun s => s.me.rp f.va.toNat &&& s.me.rp f.vb.toNat)
/-- The short PNOT (R195). -/
def execPnotShort (f : FV) (s : State) : Out := s.predOp 1 (longForm f 0 0 0) (fun s => ~~~(s.me.rp f.va.toNat))
/-- The short VMOV (R195). -/
def execVmovShort (f : FV) (s : State) : Out := s.move 1 (longForm f 0 0 0) true (fun v r c => v.at r c)
/-- The short VPERMB (R195). -/
def execVpermbShort (f : FV) (s : State) : Out := s.moveBy 1 (longForm f 0 0 0) permuteBytes
/-- The short VGATHR (R195). -/
def execVgathrShort (f : FV) (s : State) : Out := s.moveBy 1 (longForm f 0 0 0) gatherRow
/-- The short VREDR.FADD (R195). -/
def execVredrFaddShort (f : FV) (s : State) : Out := s.reduce 1 (longForm f 0 0 0) reduceRows (fun r _ => r)
/-- The short VREDR.FMAX (R195). -/
def execVredrFmaxShort (f : FV) (s : State) : Out := s.reduce 1 (longForm f 0 0 1) reduceRows (fun r _ => r)
/-- The short VBCX (R195). -/
def execVbcxShort (f : FV) (s : State) : Out :=
  s.fill 1 (longForm f 0 0 0) (fun s _ _ => (s.rx (xbOf (longForm f 0 0 0))).setWidth 32) [xbOf (longForm f 0 0 0)]
/-- The short VREDC.FADD (R195). -/
def execVredcFaddShort (f : FV) (s : State) : Out := s.reduce 1 (longForm f 0 0 0) reduceCols (fun _ c => c)
/-- The short VIOTA with imm 0 (R195). -/
def execViotaShort (f : FV) (s : State) : Out :=
  s.fill 1 (longForm f 0 0 0) (fun _ r c => BitVec.ofNat 32 (64 * r + c)) []

end Sys2Proof.Machine
end

