-- ==== Sys2Proof/Machine/VectorMemory.lean ====
section
/-! DEFINITION. Vector loads and stores (spec/06_vector_unit.md, R196–R199). -/

namespace Sys2Proof.Machine

/-! ## Layouts (R196) -/

/-- Image bytes, element bytes, and where element (r, c) lies, of layout `fn`. -/
def imageBytes (fn : Nat) : Nat :=
  match fn with
  | 0 | 1 => 4096
  | 2 => 256
  | 3 => 64
  | 4 | 6 => 1024
  | _ => 2048
def elemBytes (fn : Nat) : Nat := if fn < 4 then 4 else if fn % 2 = 0 then 1 else 2
def elemOffset (fn r c : Nat) : Nat :=
  match fn with
  | 0 => 256 * r + 4 * c
  | 1 => 64 * c + 4 * r
  | 2 => 4 * c
  | 3 => 4 * r
  | 4 | 6 => 64 * r + c
  | _ => 128 * r + 2 * c

/-- The elements a load reads or a store writes: VST.ROW0 and VST.COL0 take one line (R196). -/
def taken (fn : Nat) (store : Bool) (mask : Pred) : Pred :=
  mask &&& genPred (fun r c => !store || (fn != 2 || r == 0) && (fn != 3 || c == 0))

/-! ## Addresses and checks (R197, R198) -/

/-- The configuration checks of ring-relative mode, made whatever the guard (R198). -/
def State.vmemCheck (s : State) (f : FVM) (fn : Nat) : Option Raise :=
  (s.vcheck [(f.v.toNat, 1)] false true).or
    (if f.mode = 1 then
      let r := s.myRing f.q
      if !r.en || r.mode == 1 || decide (r.ssize.toNat * 64 < f.off.toNat + imageBytes fn) then some (raise 0x08) else none
    else none)

/-- The image address, or the fault of the checks made when an element is active (R197, R198). -/
def State.vmemAddr (s : State) (f : FVM) (fn : Nat) (store : Bool) : Nat ⊕ Raise :=
  let at_ (c : BitVec 8) (a : Int) : Nat ⊕ Raise := .inr (raiseAt c (a % 2 ^ 64).toNat f.cls)
  if f.mode = 0 then
    let a : Int := s.ux f.a + f.off.toInt
    if a % 64 ≠ 0 then at_ 0x05 a
    else if a < 0 ∨ 2 ^ 22 ≤ a ∨ 0x300000 < a + imageBytes fn then at_ 0x06 a
    else if store ∧ 0x2FE000 < a + imageBytes fn then at_ 0x07 a
    else .inl a.toNat
  else
    let r := s.myRing f.q
    let k := ((if store then r.tail else r.head) + BitVec.ofNat 9 (s.ux f.a))
    let a := r.slotAddr k.toNat + f.off.toNat
    if a % 64 ≠ 0 then at_ 0x05 a
    else if !store && decide (r.filled + r.claimed ≤ (k - r.head).toNat) then .inr (raise 0x08)
    else if store && decide (r.claimed ≤ (k - r.tail).toNat) then .inr (raise 0x08)
    else .inl a

/-! ## Accesses (R196, R199) -/

/-- The element a load forms from its bytes: zero- or sign-extended (R196). -/
def loadElem (fn v : Nat) : Word :=
  let n := 8 * elemBytes fn
  if 6 ≤ fn then BitVec.ofInt 32 (sextNat v n) else BitVec.ofNat 32 (v % 2 ^ n)
/-- The bytes a store writes for an element: the low ones, or saturated (R196). -/
def storeElem (fn : Nat) (e : Word) : Nat :=
  let n := 8 * elemBytes fn
  if 6 ≤ fn then (sat e.toInt (-2 ^ (n - 1)) (2 ^ (n - 1) - 1) % 2 ^ n).toNat else e.toNat % 2 ^ n

/-- A vector load (R196–R199): a .S access of class cls, through the strand's own queued stores (R134, R147). -/
def State.vload (s : State) (f : FVM) (fn : Nat) : Out :=
  s.run 2 (s.vmemCheck f fn) true [f.a] (fun s =>
    let mask := taken fn false (s.me.mask7 f.g)
    if mask = 0 then .next s
    else match s.vmemAddr f fn false with
      | .inr r => .fault s r
      | .inl a =>
        let s := s.drain s.cur
        let n := imageBytes fn
        if s.me.loadWaits f.cls 0 a n then .again s
        else
          let read (b m : Nat) : Nat := bytesAt (s.core s.myCore).scratch b m
          let img := s.me.overlay read 0 a n (read a n)
          .next (s.wvActive f.v.toNat mask (VReg.gen (fun r c => loadElem fn (img >>> (8 * elemOffset fn r c))))))

/-- A vector store (R196–R199): one store-queue entry (R146). -/
def State.vstore (s : State) (f : FVM) (fn : Nat) : Out :=
  s.run 2 (s.vmemCheck f fn) true [f.a] (fun s =>
    let mask := taken fn true (s.me.mask7 f.g)
    if mask = 0 then .next s
    else match s.vmemAddr f fn true with
      | .inr r => .fault s r
      | .inl a =>
        let v := s.rv f.v.toNat
        let n := elemBytes fn
        let img := (upto 0 1024).foldl (fun (acc : Nat × Nat) i =>
          if mask.getLsbD i then
            let o := elemOffset fn (i / 64) (i % 64)
            (acc.1 ||| storeElem fn (v.at (i / 64) (i % 64)) <<< (8 * o), acc.2 ||| (2 ^ n - 1) <<< o)
          else acc) (0, 0)
        s.enqueue ⟨.store, 0, a, imageBytes fn, img.1, img.2, f.cls, 0, none, none, none, false, false, 0⟩)

/-- VLD (R196). -/
def execVld (f : FVM) (s : State) : Out := s.vload f 0
/-- VLD.T (R196). -/
def execVldT (f : FVM) (s : State) : Out := s.vload f 1
/-- VLD.ROWB (R196). -/
def execVldRowb (f : FVM) (s : State) : Out := s.vload f 2
/-- VLD.COLB (R196). -/
def execVldColb (f : FVM) (s : State) : Out := s.vload f 3
/-- VLD.N8 (R196). -/
def execVldN8 (f : FVM) (s : State) : Out := s.vload f 4
/-- VLD.N16 (R196). -/
def execVldN16 (f : FVM) (s : State) : Out := s.vload f 5
/-- VLD.N8S (R196). -/
def execVldN8s (f : FVM) (s : State) : Out := s.vload f 6
/-- VLD.N16S (R196). -/
def execVldN16s (f : FVM) (s : State) : Out := s.vload f 7
/-- VST (R196). -/
def execVst (f : FVM) (s : State) : Out := s.vstore f 0
/-- VST.T (R196). -/
def execVstT (f : FVM) (s : State) : Out := s.vstore f 1
/-- VST.ROW0 (R196). -/
def execVstRow0 (f : FVM) (s : State) : Out := s.vstore f 2
/-- VST.COL0 (R196). -/
def execVstCol0 (f : FVM) (s : State) : Out := s.vstore f 3
/-- VST.N8 (R196). -/
def execVstN8 (f : FVM) (s : State) : Out := s.vstore f 4
/-- VST.N16 (R196). -/
def execVstN16 (f : FVM) (s : State) : Out := s.vstore f 5
/-- VST.N8S (R196). -/
def execVstN8s (f : FVM) (s : State) : Out := s.vstore f 6
/-- VST.N16S (R196). -/
def execVstN16s (f : FVM) (s : State) : Out := s.vstore f 7

end Sys2Proof.Machine
end

