-- ==== Sys2Proof/Machine/VectorEngine.lean ====
section
/-! DEFINITION. VAPPLY, the macro of the vector unit (spec/07_engine_commands.md, R206, R223; spec/09_memory_model.md,
R269). One unit is one element row of one image. -/

namespace Sys2Proof.Machine

/-- The source rings of VAPPLY in operand order, and its destination ring (R223). -/
def applyRings (m : Nat) (o : VecOp) : List Nat := [bits m 27 5, bits m 32 5, bits m 37 5].take o.srcs
def applyDest (m : Nat) : Nat := bits m 42 5

/-- The run-time checks of the rings (R223, R269). -/
def State.applyFault (s : State) (c m : Nat) (o : VecOp) : Option (BitVec 8) :=
  let srcs := applyRings m o
  let group (q : Nat) : BitVec 4 := (s.ringAt c q).sgroup
  if (applyDest m :: srcs).any (fun q => !(s.ringAt c q).usable || decide ((s.ringAt c q).ssize.toNat < 64)) then some 0x08
  else if (srcs.drop 1).any (fun q => group q == group (bits m 27 5)) then some 0x04
  else none

/-- Every source has an image, and the destination a free slot. -/
def State.applyReady (s : State) (c m : Nat) (o : VecOp) : Bool :=
  (applyRings m o).all (fun q => decide (0 < (s.ringAt c q).filled)) && decide (0 < (s.ringAt c (applyDest m)).free)

/-- Releases one slot of each ring. -/
def State.releaseEach (s : State) (c : Nat) : List Nat → Option State
  | [] => some s
  | q :: rest =>
    match (s.ringAt c q).doRelease 1 with
    | some r => (s.setRingAt c q r).releaseEach c rest
    | none => none

/-- The result of row `row` and its flags: every element active (R223). -/
def State.applyRow (s : State) (c m row : Nat) (o : VecOp) : Nat × Flags :=
  let mem := (s.core c).scratch
  let srcs := applyRings m o
  let elem (i j : Nat) : Word :=
    match srcs[i]? with
    | some q =>
      let r := s.ringAt c q
      BitVec.ofNat 32 (bytesAt mem (r.slotAddr r.head.toNat + elemOffset 0 row j) 4)
    | none => 0
  let rs := (upto 0 64).map (fun j =>
    o.elem (Rm.ofBits (BitVec.ofNat 2 (bits m 25 2))) (bits m 22 3) (bits m 56 13) (elem 0 j) (elem 1 j) (elem 2 j))
  (packValues 4 (rs.map (fun r => r.1.toNat)), rs.foldl (fun f r => f ||| r.2) 0)

/-- One element row of one image (R206, R223). Counters: element row, image; the iteration field [47:32] of R44 stays 0, as R206
names no such unit of VAPPLY (DESIGN CHOICE, log 84). -/
def State.applyUnit (s : State) (c : Nat) (cmd : Command) : EUnit :=
  let m := cmd.bits.toNat
  match vapplyOp m with
  | none => .done s
  | some o =>
    let u := s.queueOf c 8
    let row := ctrField u.ctr 0
    let img := ctrField u.ctr 1
    let after := if row = 15 then (img + 1) * 2 ^ 16 else row + 1 + img * 2 ^ 16
    let dest := applyDest m
    match (if row = 0 then s.applyFault c m o else none) with
    | some f => .stop s f after
    | none =>
      if row = 0 ∧ !s.applyReady c m o then .wait s 3
      else
        let s := if row ≠ 0 then s else
          let r := s.ringAt c dest
          match r.doClaim 1 with
          | some r' => (s.setRingAt c dest r').modQueue c 8 (fun u => { u with base := r.claim })
          | none => s
        let x := s.applyRow c m row o
        let s := s.putStream c (s.ringAt c dest) (s.queueOf c 8).base (256 * row) (toBytes 256 x.1)
        let s := s.modCore c (fun k => k.raiseVstat x.2)
        if row ≠ 15 then .next s after
        else match (s.ringAt c dest).doCommit 1 with
          | none => .stop s 0x08 after
          | some r =>
            match (s.setRingAt c dest r).releaseEach c (applyRings m o).eraseDups with
            | none => .stop s 0x08 after
            | some s => if img = bits m 47 8 then .done s else .next s after

/-- VAPPLY (R223). -/
def execVapply (c : CoreId) (s : State) : Out :=
  .next (s.runUnit c.toNat 8 (fun m => mopOf m == 0x10) (fun s cmd => s.applyUnit c.toNat cmd))

end Sys2Proof.Machine
end

