-- ==== Sys2Proof/Machine/Copy.lean ====
section
/-! DEFINITION. CPY, the macro of the copy engines (spec/07_engine_commands.md, R206, R224, R225;
spec/09_memory_model.md, R269). One unit is one piece of at most 64 bytes. -/

namespace Sys2Proof.Machine

/-- Bytes of a run, and the extents of the counters: pieces of a run, then levels 1 to 4 (R224). -/
def copyRun (m : Nat) : Nat := bits m 192 16 + 1
def copyExtent (m i : Nat) : Nat := if i = 0 then ceilDiv (copyRun m) 64 else bits m (192 + 64 * i) 16 + 1

/-- The address of the piece at counters `ctr`: saddr or daddr, the strides of its levels at bit `lo`, its place in the run
(R225). -/
def copyAddr (m start lo ctr : Nat) : Nat :=
  let sum : Int := (upto 1 4).foldl (fun t i => t + bits ctr (16 * i) 16 * sextNat (bits m (192 + 64 * i + lo) 24) 24) start
  ((sum + 64 * bits ctr 0 16) % 2 ^ 64).toNat

/-- Where one side of a copy lies: its space, and in ring mode the ring, its first slot and its slots. -/
structure CopySide where
  space : Nat
  ring : Option Nat
  start : BitVec 9
  slots : Nat

def State.copySource (s : State) (c m : Nat) : CopySide :=
  ⟨bits m 16 3, if bit m 22 then some (bits m 23 5) else none, (s.ringAt c (bits m 23 5)).head, bits m 36 8⟩
def State.copyDest (s : State) (c q m : Nat) : CopySide :=
  ⟨bits m 19 3, if bit m 28 then some (bits m 29 5) else none, (s.queueOf c q).base, bits m 44 8⟩

/-- An address of a ring side lies within its slots (R225). -/
def State.copyInside (s : State) (c : Nat) (x : CopySide) (a n : Nat) : Bool :=
  match x.ring with
  | some q => decide (a + n ≤ x.slots * (s.ringAt c q).slotBytes)
  | none => true

/-- The scratchpad address of byte `a` of a side, if it is in the scratchpad. -/
def State.copyScratch (s : State) (c : Nat) (x : CopySide) (a : Nat) : Option Nat :=
  if x.space ≠ 0 then none
  else match x.ring with
    | some q => some ((s.ringAt c q).streamAddr x.start a)
    | none => some a

/-- S-groups of the first and last byte of a piece (R269). -/
def State.copyGroups (s : State) (c : Nat) (x : CopySide) (a n : Nat) : List Nat :=
  ([s.copyScratch c x a, s.copyScratch c x (a + n - 1)].filterMap id).map (fun b => b / 2 ^ 18)

def State.copyRead (s : State) (c : Nat) (x : CopySide) (a n : Nat) : LoadRes × State :=
  match x.ring with
  | some q => (.val ((s.ringAt c q).streamRead (s.core c).scratch x.start a n), s)
  | none => s.engineRead c x.space a n
def State.copyWrite (s : State) (c : Nat) (x : CopySide) (a n v : Nat) (cls : BitVec 4) : StoreRes × State :=
  match x.ring with
  | some q => (.done, s.putStream c (s.ringAt c q) x.start a (toBytes n v))
  | none => s.engineWrite c x.space a n v cls

/-- The rings of a copy before its first piece (R225). -/
inductive CopyStart where
  | ready (s : State)
  | wait
  | fault (code : BitVec 8)

def State.copyStart (s : State) (c q m : Nat) : CopyStart :=
  let src := s.ringAt c (bits m 23 5)
  let dst := s.ringAt c (bits m 29 5)
  if bit m 22 && !src.usable || bit m 28 && !dst.usable then .fault 0x08
  else if bit m 22 && decide (src.filled < bits m 36 8) then .wait
  else if bit m 28 then
    match dst.doClaim (bits m 44 8) with
    | some r => .ready ((s.setRingAt c (bits m 29 5) r).modQueue c q (fun u => { u with base := dst.claim }))
    | none => .wait
  else .ready s

/-- The commit of dn and the release of sn at completion (R159, R225). -/
def State.copyEnd (s : State) (c m : Nat) : Option State :=
  let committed := if bit m 28 then ((s.ringAt c (bits m 29 5)).doCommit (bits m 44 8)).map (s.setRingAt c (bits m 29 5)) else some s
  committed.bind (fun s =>
    if bit m 22 then ((s.ringAt c (bits m 23 5)).doRelease (bits m 36 8)).map (s.setRingAt c (bits m 23 5)) else some s)

/-- One piece (R206, R225). -/
def State.copyUnit (s : State) (c q : Nat) (cmd : Command) : EUnit :=
  let m := cmd.bits.toNat
  let u := s.queueOf c q
  let ctr := u.ctr.toNat
  let cls := BitVec.ofNat 4 (bits m 52 4)
  let hi := nestNext (copyExtent m) ctr
  let finish (s : State) : EUnit :=
    match s.copyEnd c m with
    | some s => .done s
    | none => .stop (s.modQueue c q (fun u => { u with ctr := BitVec.ofNat 80 hi, started := true })) 0x08 hi
  let piece (s : State) : EUnit :=
    let s := s.modQueue c q (fun u => { u with started := true })
    let n := min 64 (copyRun m - 64 * bits ctr 0 16)
    let src := s.copySource c m
    let dst := s.copyDest c q m
    let a := copyAddr m (bits m 64 64) 16 ctr
    let d := copyAddr m (bits m 128 64) 40 ctr
    if !s.copyInside c src a n || !s.copyInside c dst d n then .stop s 0x08 hi
    else if (s.copyGroups c src a n).any (fun g => (s.copyGroups c dst d n).contains g) then .stop s 0x04 hi
    else match s.copyRead c src a n with
      | (.fault f, s) => .fault s f (some a) cls hi 5
      | (.miss va, s) => s.engineMiss c q cmd va cls hi
      | (.val v, s) =>
        match s.copyWrite c dst d n v cls with
        | (.fault f, s) => .fault s f (some d) cls hi 5
        | (.miss va, s) => s.engineMiss c q cmd va cls hi
        | (_, s) => if nestOver (copyExtent m) hi then finish s else .next s hi
  if nestOver (copyExtent m) ctr then finish s
  else if u.started then piece s
  else match s.copyStart c q m with
    | .wait => .wait s 3
    | .fault f => .stop s f hi
    | .ready s => piece s

/-- CPY (R224, R225). -/
def execCpy (c : CoreId) (q : QueueId) (s : State) : Out :=
  .next (s.runUnit c.toNat q.toNat (fun m => mopOf m == 0x30) (fun s cmd => s.copyUnit c.toNat q.toNat cmd))

end Sys2Proof.Machine
end

