-- ==== Sys2Proof/Machine/Kv.lean ====
section
/-! DEFINITION. Page lists and the macros of the KV engine (spec/07_engine_commands.md, R226–R231;
spec/10_requests_steps_ticks.md, R318–R321; spec/14_programs_decode_streaming.md, R385), and the per-request fault. -/

namespace Sys2Proof.Machine

/-! ## Page lists in placed memory (R226) -/

/-- A KV or vestibule access to [addr, addr + n) of placed memory: any present place, not the cellar. -/
def State.kvFault (s : State) (addr n : Nat) : Option (BitVec 8) :=
  let off := addr % 2 ^ 27
  if 2 ^ 40 ≤ addr ∨ s.placedBytes < off + n then some 0x06
  else if !s.present (addr / 2 ^ 27) then some 0x0F
  else if s.cellarBase < off + n then some 0x07
  else if s.badPlaced (addr / 2 ^ 27) off n then some 0x0D
  else none

/-- The first of some accesses that faults, with its address. -/
def State.kvFaults (s : State) (accesses : List (Nat × Nat)) : Option (BitVec 8 × Nat) :=
  accesses.findSome? (fun a => (s.kvFault a.1 a.2).map (fun f => (f, a.1)))

/-- Entry i leaves the list at l and later entries move up. -/
def State.removeEntry (s : State) (l i : Nat) : State :=
  let np := s.kvPages l
  let tail := s.placedNat (kvEntry l (i + 1)) (32 * (np - 1 - i))
  (s.setPlaced (kvEntry l i) (32 * (np - 1 - i)) tail).setPlaced l 2 (np - 1)

/-- Count and capacity of a free list, its entry i, a pop and a push. -/
def State.freeCount (s : State) (fl : Nat) : Nat := s.placedNat fl 4
def State.freeCap (s : State) (fl : Nat) : Nat := s.placedNat (fl + 4) 4
def freeEntry (fl i : Nat) : Nat := fl + 8 + 8 * i
def State.popPage (s : State) (fl : Nat) : Nat × State :=
  let n := s.freeCount fl
  (s.placedNat (freeEntry fl (n - 1)) 8, s.setPlaced fl 4 (n - 1))
def State.pushPage (s : State) (fl page : Nat) : State :=
  let n := s.freeCount fl
  (s.setPlaced (freeEntry fl n) 8 page).setPlaced fl 4 (n + 1)

/-- A page whose place the free list may take back: neither spilled nor poisoned (R317, R319, R230). -/
def State.pushable (s : State) (e : Nat) : Bool := !s.entSpilled e && !s.entPoisoned e

/-! ## Units (R44, R206) -/

/-- How a unit of the KV engine ends. -/
inductive KvRes where
  /-- Complete; whether the entry it worked on has left its list. -/
  | ok (s : State) (removed : Bool)
  /-- A per-request fault on the unit's slot. -/
  | slot (s : State) (code : BitVec 8)
  /-- A fault of the queue. -/
  | fault (code : BitVec 8) (addr : Nat)
  | miss (addr : Nat)
  /-- It waits for a ring. -/
  | wait

/-- A fault of an access to a list of the slot's request: an uncorrectable error there is the request's own (R207, R320). -/
def KvRes.ofList (s : State) (f : BitVec 8 × Nat) : KvRes := if f.1 = 0x0D then .slot s 0x0D else .fault f.1 f.2

/-- A fault of an access to the page of entry e: an uncorrectable error there is the request's own, and poisons the page
(R319, R320). -/
def KvRes.ofPage (s : State) (e : Nat) (code : BitVec 8) (addr : Nat) : KvRes :=
  if code = 0x0D then .slot (s.poisonEntry e) 0x0D else .fault code addr

/-- Counters: token, page, head, slot (R44). -/
def kvCtr (slot head page token : Nat) : Nat := token % 2 ^ 32 + page * 2 ^ 32 + head * 2 ^ 48 + slot * 2 ^ 64

/-- A slot of the table that holds a request. A number above 511 names none: the slots of a macro that run past the table are
passed over, also those of a KVEVICT, for which R229 gives no check at PUSH (DESIGN CHOICE, log 92). -/
def State.kvValid (s : State) (c n : Nat) : Bool := decide (n ≤ 511) && slotValid (s.slotEntry c n)
def State.kvMasked (s : State) (c n : Nat) : Bool := slotMasked (s.slotEntry c n)

/-- The heads of an hmask. -/
def headsOf (mask : Nat) : List Nat := colsOf mask

/-- The KV queue shows the unit it works on. -/
def State.kvAt (s : State) (c sub ctr : Nat) : State :=
  s.modQueue c 12 (fun u => { u with espec := BitVec.ofNat 8 sub, ctr := BitVec.ofNat 80 ctr })

/-- A page at `addr` of placed or, when spilled, host memory. -/
def State.pageRead (s : State) (c : Nat) (spilled : Bool) (addr n : Nat) : LoadRes × State :=
  if spilled then s.engineRead c 3 addr n
  else match s.kvFault addr n with
    | some f => (.fault f, s)
    | none => (.val (s.placedNat addr n), s)
def State.pageWrite (s : State) (c : Nat) (spilled : Bool) (addr n v : Nat) : StoreRes × State :=
  if spilled then s.engineWrite c 3 addr n v 0
  else match s.kvFault addr n with
    | some f => (.fault f, s)
    | none => (.done, s.setPlaced addr n v)

/-! ## KVAPPEND (R227, R385) -/

/-- Bytes of an entry of the source stream. -/
def appendBytes (m : Nat) : Nat := 32 * (bits m 47 3 + 1)
/-- The entries of the source stream: slot, token, head. -/
def State.appendUnits (s : State) (c m : Nat) : List (Nat × Nat × Nat) :=
  ((upto (bits m 16 9) (bits m 25 9 + 1)).filter (s.kvValid c)).flatMap (fun n =>
    (upto 0 (if bit m 50 then slotInCount (s.slotEntry c n) else 1)).flatMap (fun t =>
      (headsOf (bits m 34 8)).map (fun h => (n, t, h))))

/-- The page that takes the next token of the list at l, popped when needed: the entry's address (R227). -/
def State.appendPage (s : State) (l pos : Nat) : (State × Nat) ⊕ KvRes :=
  match s.kvFaults [(l, 16)] with
  | some f => .inr (.ofList s f)
  | none =>
    let np := s.kvPages l
    let last := kvEntry l (np - 1)
    match (if np = 0 then none else s.kvFaults [(last, 32)]) with
    | some f => .inr (.ofList s f)
    | none =>
      if np ≠ 0 ∧ s.entUsed last ≠ 64 then .inl (s, last)
      else
        let fl := s.kvFree l
        match s.kvFaults [(fl, 8)] with
        | some f => .inr (.fault f.1 f.2)
        | none =>
          if s.freeCount fl = 0 then .inr (.fault 0x0A fl)
          else if np = s.kvCap l then .inr (.slot s 0x02)
          else match s.kvFaults [(freeEntry fl (s.freeCount fl - 1), 8), (kvEntry l np, 32)] with
            | some f => .inr (if f.2 = kvEntry l np then .ofList s f else .fault f.1 f.2)
            | none =>
              let (p, s) := s.popPage fl
              let s := s.setPlaced (kvEntry l np) 32 (p + (pos % 2 ^ 48) * 2 ^ 208)
              .inl (s.setPlaced l 2 (np + 1), kvEntry l np)

/-- One token of one head (R227). -/
def State.appendToken (s : State) (c l pos dh kv : Nat) : KvRes :=
  match s.appendPage l pos with
  | .inr r => r
  | .inl (s, e) =>
    let t := s.entUsed e
    let page := s.entAddr e
    match s.pageWrite c (s.entSpilled e) (page + 128 * t) dh (kv % 2 ^ (8 * dh)) with
    | (.fault f, _) => .ofPage s e f (page + 128 * t)
    | (.miss va, _) => .miss va
    | (_, s) =>
      match s.pageWrite c (s.entSpilled e) (page + 8192 + 128 * t) dh (kv / 2 ^ (8 * dh)) with
      | (.fault f, _) => .ofPage s e f (page + 8192 + 128 * t)
      | (.miss va, _) => .miss va
      | (_, s) =>
        let s := s.setPlaced (e + 8) 8 (s.entSurv e ||| 2 ^ t)
        .ok (s.setPlaced (e + 24) 8 (putBits (s.entFlags e) 8 8 (t + 1))) false

/-- The release of the slots a stream has read (R385). -/
def State.releaseStream (s : State) (c q n : Nat) : Option State :=
  ((s.ringAt c q).doRelease ((s.ringAt c q).slotsFor n)).map (s.setRingAt c q)

/-- The page within its list of the token that head h of slot n appends after `ahead` others (R44). -/
def State.appendPageNo (s : State) (c n h ahead : Nat) : Nat :=
  let l := s.kvList (slotRec (s.slotEntry c n)) h
  let np := s.kvPages l
  let held := if np ≠ 0 then (np - 1) * 64 + s.entUsed (kvEntry l (np - 1)) else 0
  (held + ahead) / 64

/-- One unit of KVAPPEND. -/
def State.appendUnit (s : State) (c : Nat) (cmd : Command) : EUnit :=
  let m := cmd.bits.toNat
  let u := s.queueOf c 12
  let q := bits m 42 5
  let r := s.ringAt c q
  let size := appendBytes m
  let units := s.appendUnits c m
  let i := u.mark / size
  let ctrAt (s : State) (i : Nat) : Nat := match units[i]? with
    | some (n, t, h) => kvCtr n h (s.appendPageNo c n h 0) t
    | none => kvCtr (bits m 16 9 + bits m 25 9 + 1) 0 0 0
  let ctrOf (i : Nat) : Nat := ctrAt s i
  let hiOf : Nat := match units[i]?, units[i + 1]? with
    | some (n, _, h), some (n', t', h') => kvCtr n' h' (s.appendPageNo c n' h' (if n = n' ∧ h = h' then 1 else 0)) t'
    | _, _ => ctrOf (i + 1)
  let finish (s : State) (n : Nat) : EUnit :=
    match s.releaseStream c q n with
    | some s => .done s
    | none => .stop s 0x08 (ctrOf units.length)
  if !r.usable then .stop s 0x08 (ctrOf (i + 1))
  else match units[i]? with
    | none => finish s u.mark
    | some (n, t, h) =>
      if r.filled < r.slotsFor (u.mark + size) then .wait (s.kvAt c 0 (ctrOf i)) 3
      else
        let e := s.slotEntry c n
        let rec_ := slotRec e
        let l := s.kvList rec_ h
        let ctr := ctrOf i
        let on (s : State) : EUnit :=
          if i + 1 = units.length then finish (s.kvAt c 0 (ctrOf (i + 1))) (u.mark + size)
          else .next (s.modQueue c 12 (fun u => { u with mark := u.mark + size })) (ctrAt s (i + 1))
        let s := s.kvAt c 0 ctr
        if slotMasked e || s.recField rec_ 0 1 != 3 then on s
        else if s.kvHeads rec_ ≤ h then on (s.slotFault c n 0x02 ctr)
        else
          match s.appendToken c l (slotPos e + t) (size / 2) (r.streamRead (s.core c).scratch r.head u.mark size) with
          | .ok s _ => on s
          | .slot s f => on (s.slotFault c n f ctr)
          | .fault f a => .fault s f (some a) 0 hiOf 5
          | .miss a => s.engineMiss c 12 cmd a 0 hiOf
          | .wait => .wait s 3

/-- KVAPPEND (R227). -/
def execKvappend (c : CoreId) (s : State) : Out :=
  .next (s.runUnit c.toNat 12 (fun m => mopOf m == 0x40) (fun s cmd => s.appendUnit c.toNat cmd))

/-! ## KVPOS (R228) -/

/-- The result for position p in the list at l: the survivors before it, or all ones (R228). -/
def State.packedPos (s : State) (l p : Nat) : Nat :=
  let rec go : List Nat → Nat → Nat
    | [], _ => 0xFFFFFFFF
    | e :: rest, before =>
      let t := p - s.entPos e
      if s.entPos e ≤ p ∧ t < s.entUsed e then
        if bit (s.entSurv e) t then before + countOnes t (s.entSurv e) else 0xFFFFFFFF
      else go rest (before + countOnes 64 (s.entSurv e))
  go (s.kvEntries l) 0

/-- One position of KVPOS. Slots are claimed, committed and released as in CPY; a masked or invalid slot has no iterations
(R42), and its slots are committed and released all the same. -/
def State.posUnit (s : State) (c : Nat) (cmd : Command) : EUnit :=
  let m := cmd.bits.toNat
  let u := s.queueOf c 12
  let n := bits m 16 9
  let h := bits m 25 3
  let qi := bits m 28 5
  let qo := bits m 33 5
  let count := bits m 38 16 + 1
  let ri := s.ringAt c qi
  let ro := s.ringAt c qo
  let i := if u.started then bits u.ctr.toNat 0 32 else 0
  let ctr := kvCtr n h 0 i
  let hi := if i + 1 = count then kvCtr (n + 1) 0 0 0 else kvCtr n h 0 (i + 1)
  let finish (s : State) : EUnit :=
    match ((s.ringAt c qo).doCommit (ro.slotsFor (4 * count))).map (s.setRingAt c qo) with
    | none => .stop s 0x08 hi
    | some s =>
      match s.releaseStream c qi (8 * count) with
      | some s => .done s
      | none => .stop s 0x08 hi
  let unit (s : State) : EUnit :=
    let s := (s.kvAt c 1 ctr).modQueue c 12 (fun u => { u with started := true })
    let r := slotRec (s.slotEntry c n)
    let l := s.kvList r h
    if !s.kvValid c n || s.kvMasked c n then finish s
    else if s.kvHeads r ≤ h then finish (s.slotFault c n 0x02 ctr)
    else match s.kvFaults [(l, 16), (l + 16, 32 * s.kvPages l)] with
      | some f => if f.1 = 0x0D then finish (s.slotFault c n 0x0D ctr) else .fault s f.1 (some f.2) 0 hi 5
      | none =>
        let p := ri.streamRead (s.core c).scratch ri.head (8 * i) 8
        let s := s.putStream c (s.ringAt c qo) (s.queueOf c 12).base (4 * i) (toBytes 4 (s.packedPos l p))
        if i + 1 = count then finish s else .next s hi
  if u.started then unit s
  else if !ri.usable || !ro.usable then .stop s 0x08 hi
  else if ri.filled < ri.slotsFor (8 * count) then .wait (s.kvAt c 1 ctr) 3
  else match ro.doClaim (ro.slotsFor (4 * count)) with
    | none => .wait (s.kvAt c 1 ctr) 3
    | some r => unit ((s.setRingAt c qo r).modQueue c 12 (fun u => { u with base := ro.claim }))

/-- KVPOS (R228). -/
def execKvpos (c : CoreId) (s : State) : Out :=
  .next (s.runUnit c.toNat 12 (fun m => mopOf m == 0x41) (fun s cmd => s.posUnit c.toNat cmd))

/-! ## Macros that go through lists page by page (R226, R229, R230) -/

/-- Where a walk through the lists of a range of slots stands. -/
inductive KvSeek where
  | unit (s : State) (slot head page : Nat)
  | over (s : State)
  | fault (s : State) (code : BitVec 8) (addr slot head : Nat)

/-- `n` masks of the stream passed over (R229). -/
def State.skipMasks (s : State) (c n : Nat) : State := s.modQueue c 12 (fun u => { u with mark := u.mark + 8 * n })

/-- The next page at or after (slot, head, page). Invalid slots, heads outside hmask and lists at their end are passed
over; so are masked slots, except where their masks must be `consume`d (R229); a head at or above kv_heads is a per-request
fault (R226). The masks of a list whose length cannot be read are passed over too, as many as `Config.lostPages` says, which is
free (DESIGN CHOICE, log 77). -/
def State.kvSeek (c last hmask : Nat) (consume : Bool) : Nat → State → Nat → Nat → Nat → KvSeek
  | 0, s, _, _, _ => .over s
  | fuel + 1, s, n, h, p =>
    if last < n then .over s
    else if !s.kvValid c n || (s.kvMasked c n && !consume) || decide (8 ≤ h) then s.kvSeek c last hmask consume fuel (n + 1) 0 0
    else if !hmask.testBit h then s.kvSeek c last hmask consume fuel n (h + 1) 0
    else
      let r := slotRec (s.slotEntry c n)
      if s.kvHeads r ≤ h then
        let s := if s.kvMasked c n then s else s.slotFault c n 0x02 (kvCtr n h 0 0)
        s.kvSeek c last hmask consume fuel n (h + 1) 0
      else
        let l := s.kvList r h
        match s.kvFaults [(l, 16)] with
        | some f =>
          if f.1 = 0x0D then
            let s := if s.kvMasked c n then s else s.slotFault c n 0x0D (kvCtr n h 0 0)
            let s := if consume then s.skipMasks c (Config.lostPages l).toNat else s
            s.kvSeek c last hmask consume fuel n (h + 1) 0
          else .fault s f.1 f.2 n h
        | none => if s.kvPages l ≤ p then s.kvSeek c last hmask consume fuel n (h + 1) 0 else .unit s n h p

/-- Steps that suffice for any walk: 512 slots of 8 heads. -/
def kvFuel : Nat := 8192

/-- A macro that works page by page: sub-operation, first and last slot, heads, whether a masked slot's pages count, the
work on the entry at e of the list at l, what an entry that cannot be read takes, the end. -/
structure KvWork where
  sub : Nat
  first : Nat
  last : Nat
  hmask : Nat
  consume : Bool
  page : State → (slot l e : Nat) → KvRes
  pass : State → KvRes
  finish : State → KvRes

/-- One page (R206). -/
def State.kvPageUnit (s : State) (c : Nat) (cmd : Command) (w : KvWork) : EUnit :=
  let u := s.queueOf c 12
  let ctr := u.ctr.toNat
  let seek (s : State) (n h p : Nat) : KvSeek := s.kvSeek c w.last w.hmask w.consume kvFuel n h p
  let ctrOf (k : KvSeek) : Nat := match k with
    | .unit _ n h p => kvCtr n h p 0
    | .over _ => kvCtr (w.last + 1) 0 0 0
    | .fault _ _ _ n h => kvCtr n h 0 0
  let finish (s : State) : EUnit :=
    let past := kvCtr (w.last + 1) 0 0 0
    let at_ := (s.kvAt c w.sub past).modQueue c 12 (fun u => { u with started := true })
    match w.finish s with
    | .ok s _ => .done s
    | .wait => .wait at_ 3
    | _ => .stop at_ 0x08 past
  match (if u.started then seek s (bits ctr 64 16) (bits ctr 48 16) (bits ctr 32 16) else seek s w.first 0 0) with
  | .over s => finish s
  | .fault s f a n h => .fault ((s.kvAt c w.sub (kvCtr n h 0 0)).modQueue c 12 (fun u => { u with started := true })) f (some a) 0
      (ctrOf (seek s n (h + 1) 0)) 5
  | .unit s n h p =>
    let s := (s.kvAt c w.sub (kvCtr n h p 0)).modQueue c 12 (fun u => { u with started := true })
    let l := s.kvList (slotRec (s.slotEntry c n)) h
    let e := kvEntry l p
    let hi := ctrOf (seek s n h (p + 1))
    let on (s : State) (p : Nat) : EUnit :=
      match seek s n h p with
      | .over s => finish s
      | _ => .next s (kvCtr n h p 0)
    match s.kvFaults [(e, 32)] with
    | some f =>
      if f.1 = 0x0D then
        match w.pass s with
        | .ok s _ => on (if s.kvMasked c n then s else s.slotFault c n 0x0D (kvCtr n h p 0)) (p + 1)
        | _ => .wait s 3
      else .fault s f.1 (some f.2) 0 hi 5
    | none =>
      match w.page s n l e with
      | .ok s removed => on s (if removed then p else p + 1)
      | .slot s f => on (s.slotFault c n f (kvCtr n h p 0)) (p + 1)
      | .fault f a => .fault s f (some a) 0 hi 5
      | .miss a => s.engineMiss c 12 cmd a 0 hi
      | .wait => .wait s 3

/-- Why a free list takes no page (R226): it is full, found before the place of the entry is looked at, or an access to it
faults. -/
inductive Push where
  | room
  | full
  | fault (f : BitVec 8 × Nat)

def State.pushRoom (s : State) (fl : Nat) : Push :=
  match s.kvFaults [(fl, 8)] with
  | some f => .fault f
  | none =>
    if s.freeCap fl ≤ s.freeCount fl then .full
    else match s.kvFaults [(freeEntry fl (s.freeCount fl), 8)] with
      | some f => .fault f
      | none => .room

/-- The page of entry e goes to the free list of the list at l and the entry leaves it; a full free list is per-request
fault 0x02 (R229, R230). -/
def State.freeEntryAt (s : State) (l e : Nat) : KvRes :=
  let fl := s.kvFree l
  match s.pushRoom fl with
  | .fault f => .fault f.1 f.2
  | .full => .slot s 0x02
  | .room => .ok ((s.pushPage fl (s.entAddr e)).removeEntry l ((e - l - 16) / 32)) true

/-- After its bitmap is written, an unpinned page that is full and has no survivor is freed (R229, R319). -/
def State.evictPage (s : State) (l e surv : Nat) : KvRes :=
  let s := s.setPlaced (e + 8) 8 surv
  if !s.entPinned e && s.entUsed e == 64 && surv == 0 && s.pushable e then s.freeEntryAt l e else .ok s false

/-- KVEVICT mode 0 on a page (R229, R315): tokens below the cut in unpinned pages. -/
def State.evictWindow (s : State) (c n l e : Nat) : KvRes :=
  let entry := s.slotEntry c n
  let win := s.recField (slotRec entry) 0x18 4
  let cut : Int := (slotPos entry + slotInCount entry : Nat) - (win : Int)
  let below := (cut - s.entPos e).toNat
  s.evictPage l e (if win = 0 ∨ s.entPinned e then s.entSurv e else s.entSurv e / 2 ^ below * 2 ^ below)

/-- The fields of KVEVICT. -/
def evictWork (m sub : Nat) (consume : Bool) (page : State → Nat → Nat → Nat → KvRes) (pass finish : State → KvRes) :
    KvWork :=
  ⟨sub, bits m 16 9, bits m 16 9 + bits m 25 9, bits m 34 8, consume, page, pass, finish⟩

/-- Nothing is left to do. -/
def kvNothing (s : State) : KvRes := .ok s false

/-- KVEVICT_WINDOW: mode 0 (R229). -/
def execKvevictWindow (c : CoreId) (s : State) : Out :=
  .next (s.runUnit c.toNat 12 (fun m => mopOf m == 0x42 && !(bit m 42)) (fun s cmd =>
    s.kvPageUnit c.toNat cmd (evictWork cmd.bits.toNat 2 false (fun s n l e => s.evictWindow c.toNat n l e) kvNothing kvNothing)))

/-- The next mask of the stream, waited for, is passed over (R229). -/
def State.passMask (s : State) (c q : Nat) : KvRes :=
  let r := s.ringAt c q
  if r.filled < r.slotsFor ((s.queueOf c 12).mark + 8) then .wait else .ok (s.skipMasks c 1) false

/-- The end of mode 1: the masks passed over have come too, and the slots read are released (R229). -/
def State.endMasks (s : State) (c q : Nat) : KvRes :=
  let n := (s.queueOf c 12).mark
  if (s.ringAt c q).filled < (s.ringAt c q).slotsFor n then .wait
  else match s.releaseStream c q n with
    | some s => .ok s false
    | none => .fault 0x08 0

/-- KVEVICT mode 1 on a page: the next mask of the stream (R229). -/
def State.evictMask (s : State) (c q n l e : Nat) : KvRes :=
  let r := s.ringAt c q
  let u := s.queueOf c 12
  if r.filled < r.slotsFor (u.mark + 8) then .wait
  else
    let mask := r.streamRead (s.core c).scratch r.head u.mark 8
    let s := s.skipMasks c 1
    if s.kvMasked c n then .ok s false else s.evictPage l e (s.entSurv e &&& mask)

/-- KVEVICT_MASK: mode 1 (R229). -/
def execKvevictMask (c : CoreId) (s : State) : Out :=
  .next (s.runUnit c.toNat 12 (fun m => mopOf m == 0x42 && bit m 42) (fun s cmd =>
    let m := cmd.bits.toNat
    let c := c.toNat
    let q := bits m 43 5
    if !(s.ringAt c q).usable then .stop s 0x08 (kvCtr (bits m 16 9 + bits m 25 9 + 1) 0 0 0)
    else s.kvPageUnit c cmd (evictWork m 2 true (fun s n l e => s.evictMask c q n l e)
      (fun s => s.passMask c q) (fun s => s.endMasks c q))))

/-- KVPIN (R230): pinned set on the first n entries, cleared on the others. -/
def execKvpin (c : CoreId) (s : State) : Out :=
  .next (s.runUnit c.toNat 12 (fun m => mopOf m == 0x43) (fun s cmd =>
    let m := cmd.bits.toNat
    s.kvPageUnit c.toNat cmd
      { sub := 3, first := bits m 16 9, last := bits m 16 9, hmask := bits m 25 8, consume := false
        pass := kvNothing, finish := kvNothing
        page := fun s _ l e =>
          .ok (s.setPlaced (e + 24) 8 (putBits (s.entFlags e) 0 1 (if (e - l - 16) / 32 < bits m 33 3 then 1 else 0))) false }))

/-- KVFREE_LIST: mode 0 (R230). -/
def execKvfreeList (c : CoreId) (s : State) : Out :=
  .next (s.runUnit c.toNat 12 (fun m => mopOf m == 0x44 && !(bit m 33)) (fun s cmd =>
    let m := cmd.bits.toNat
    s.kvPageUnit c.toNat cmd
      { sub := 4, first := bits m 16 9, last := bits m 16 9, hmask := bits m 25 8, consume := false
        pass := kvNothing, finish := kvNothing
        page := fun s _ l e => if s.pushable e then s.freeEntryAt l e else .ok s false }))

/-- KVFREE_PAGE: mode 1 (R230). A full free list is fault 0x02 of the queue. -/
def execKvfreePage (c : CoreId) (s : State) : Out :=
  .next (s.runUnit c.toNat 12 (fun m => mopOf m == 0x44 && bit m 33) (fun s cmd =>
    let m := cmd.bits.toNat
    let fl := bits m 192 64
    let hi := kvCtr 1 0 0 0
    let s := s.kvAt c.toNat 4 0
    match s.pushRoom fl with
    | .fault f => .fault s f.1 (some f.2) 0 hi 5
    | .full => .stop s 0x02 hi
    | .room => .done (s.pushPage fl (bits m 128 64))))

/-! ## KVPROMOTE (R231) -/

/-- CRC-64, ECMA-182, reflected, initial value and final exclusive-or all ones (R231). -/
def crcBit (x : BitVec 64) : BitVec 64 := if x.getLsbD 0 then (x >>> 1) ^^^ 0xC96C5795D7870F42#64 else x >>> 1
def crcByte (x : BitVec 64) (b : Byte) : BitVec 64 :=
  (upto 0 8).foldl (fun x _ => crcBit x) (x ^^^ b.setWidth 64)
def crc64 (bs : List Byte) : BitVec 64 := ~~~(bs.foldl crcByte (BitVec.allOnes 64))

/-- The entry of KVPROMOTE and its list (R231): an absent entry, a head at or above kv_heads, are per-request fault
0x02. -/
def State.promoteEntry (s : State) (c m : Nat) : (Nat × Nat) ⊕ KvRes :=
  let r := slotRec (s.slotEntry c (bits m 16 9))
  let h := bits m 25 3
  let l := s.kvList r h
  let e := kvEntry l (bits m 28 16)
  if s.kvHeads r ≤ h then .inr (.slot s 0x02)
  else match s.kvFaults [(l, 16)] with
    | some f => .inr (.ofList s f)
    | none =>
      if s.kvPages l ≤ bits m 28 16 then .inr (.slot s 0x02)
      else match s.kvFaults [(e, 32)] with
        | some f => .inr (.ofList s f)
        | none => .inl (l, e)

/-- Promotion of entry e of the list at l (R231). -/
def State.promote (s : State) (c l e : Nat) : KvRes :=
  let fl := s.kvFree l
  if !s.entSpilled e then .slot s 0x02
  else match s.kvFaults [(fl, 8)] with
    | some f => .fault f.1 f.2
    | none =>
      if s.freeCount fl = 0 then .fault 0x0A fl
      else match s.kvFaults [(freeEntry fl (s.freeCount fl - 1), 8)] with
        | some f => .fault f.1 f.2
        | none =>
          let (p, s) := s.popPage fl
          match s.pageRead c true (s.entAddr e) 16384 with
          | (.fault f, s) => .fault f (s.entAddr e)
          | (.miss va, _) => .miss va
          | (.val v, s) =>
            match s.pageWrite c false p 16384 v with
            | (.fault f, _) => .fault f p
            | (.miss va, _) => .miss va
            | (_, s) =>
              if (crc64 (toBytes 16384 v)).toNat = s.placedNat (e + 16) 8 then
                .ok ((s.setPlaced e 8 p).setPlaced (e + 24) 8 (putBits (s.entFlags e) 1 1 0)) false
              else .slot ((s.pushPage fl p).poisonEntry e) 0x0B

/-- Demotion of entry e of the list at l to host address `target` (R231). A poisoned or already spilled page has no page to
push; a full free list is per-request fault 0x02. -/
def State.demote (s : State) (c l e target : Nat) : KvRes :=
  let fl := s.kvFree l
  let page := s.entAddr e
  let push := s.pushable e
  if s.entPinned e then .slot s 0x02
  else match (if push then s.pushRoom fl else .room) with
    | .fault f => .fault f.1 f.2
    | .full => .slot s 0x02
    | .room =>
      match s.pageRead c (s.entSpilled e) page 16384 with
        | (.fault f, _) => .ofPage s e f page
        | (.miss va, _) => .miss va
        | (.val v, s) =>
          match s.engineWrite c 3 target 16384 v 0 with
          | (.fault f, _) => .fault f target
          | (.miss va, _) => .miss va
          | (_, s) =>
            let s := (s.setPlaced e 8 target).setPlaced (e + 16) 8 (crc64 (toBytes 16384 v)).toNat
            let s := s.setPlaced (e + 24) 8 (putBits (s.entFlags e) 1 1 1)
            .ok (if push then s.pushPage fl page else s) false

/-- The core's step is being run again (R347). -/
def State.inRerun (s : State) (c : Nat) : Bool :=
  match s.groupOfCore c with
  | some g => (s.group g).rerun
  | none => false

/-- One page of KVPROMOTE; a masked or invalid slot has no iterations (R42). -/
def State.promoteUnit (s : State) (c : Nat) (cmd : Command) (work : State → Nat → Nat → KvRes) : EUnit :=
  let m := cmd.bits.toNat
  let n := bits m 16 9
  let ctr := kvCtr n (bits m 25 3) (bits m 28 16) 0
  let hi := kvCtr (n + 1) 0 0 0
  let s := s.kvAt c 5 ctr
  if !s.kvValid c n || s.kvMasked c n then .done s
  else match (match s.promoteEntry c m with | .inl (l, e) => work s l e | .inr r => r) with
    | .ok s _ => .done s
    | .slot s f => .done (s.slotFault c n f ctr)
    | .fault f a => .fault s f (some a) 0 hi 5
    | .miss a => s.engineMiss c 12 cmd a 0 hi
    | .wait => .wait s 3

/-- KVPROMOTE_PROMOTION: dir 0 (R231); in a re-run step an entry already promoted is left (R347). -/
def execKvpromotePromotion (c : CoreId) (s : State) : Out :=
  .next (s.runUnit c.toNat 12 (fun m => mopOf m == 0x45 && !(bit m 44)) (fun s cmd =>
    s.promoteUnit c.toNat cmd (fun s l e =>
      if s.inRerun c.toNat && !s.entSpilled e then .ok s false else s.promote c.toNat l e)))

/-- KVPROMOTE_DEMOTION: dir 1 (R231); in a re-run step an entry already spilled is left (R347). -/
def execKvpromoteDemotion (c : CoreId) (s : State) : Out :=
  .next (s.runUnit c.toNat 12 (fun m => mopOf m == 0x45 && bit m 44) (fun s cmd =>
    s.promoteUnit c.toNat cmd (fun s l e =>
      if s.inRerun c.toNat && s.entSpilled e then .ok s false
      else s.demote c.toNat l e (bits cmd.bits.toNat 128 64))))

end Sys2Proof.Machine
end

