-- ==== Sys2Proof/WellFormed.lean ====
section
/-! DEFINITION. Well-formed instructions: the zero fields and reserved values that step 4 of R86 checks on the fields of
the decoded instruction (R7, R82–R84 and the instruction's own chapter). A term that breaks one is fault 0x02. -/

namespace Sys2Proof

/-- Bits [lo + n − 1 : lo] of `w`. -/
def fld (w lo n : Nat) : BitVec n := BitVec.ofNat n (w / 2 ^ lo)

/-- The spaces an atomic may name: .S, .W, .G and .F (R153). -/
def atomicSpace (s : BitVec 3) : Bool := s == 0 || s == 1 || s == 2 || s == 4

/-- The system-register numbers of R239. -/
def sysregDefined (n : BitVec 24) : Bool :=
  match n.toNat with
  | 0x000 | 0x001 | 0x002 | 0x003 | 0x010 | 0x011 | 0x012 | 0x013 | 0x014 | 0x020 | 0x021 | 0x022 | 0x023 => true
  | _ => false

namespace Instr

/-- Every zero field is zero and no field holds a reserved value (R86, step 4). -/
def wf : Instr → Bool
  | .nop => true
  | .add _ => true
  | .sub _ => true
  | .and _ => true
  | .or _ => true
  | .xor _ => true
  | .andn _ => true
  | .orn _ => true
  | .xnor _ => true
  | .sll _ => true
  | .srl _ => true
  | .sra _ => true
  | .ror _ => true
  | .mul _ => true
  | .mulh _ => true
  | .mulhu _ => true
  | .mulhsu _ => true
  | .div _ => true
  | .divu _ => true
  | .rem _ => true
  | .remu _ => true
  | .addw _ => true
  | .subw _ => true
  | .mulw _ => true
  | .adds _ => true
  | .subs _ => true
  | .addus _ => true
  | .subus _ => true
  | .rol _ => true
  | .seq _ => true
  | .sne _ => true
  | .slt _ => true
  | .sltu _ => true
  | .sge _ => true
  | .sgeu _ => true
  | .min _ => true
  | .minu _ => true
  | .max _ => true
  | .maxu _ => true
  | .cmovnz _ => true
  | .cmovz _ => true
  | .tstnz _ => true
  | .tstz _ => true
  | .selb _ => true
  | .cmps _ => true
  | .clz f => (f.b == 0)
  | .ctz f => (f.b == 0)
  | .popc f => (f.b == 0)
  | .bswap f => (f.b == 0)
  | .bext _ => true
  | .bexts _ => true
  | .bins _ => true
  | .sh1add _ => true
  | .sh2add _ => true
  | .sh3add _ => true
  | .sh4add _ => true
  | .sh6add _ => true
  | .plw _ => true
  | .qaddr _ => true
  | .faddr _ => true
  | .alignup _ => true
  | .fadd _ => true
  | .fmul _ => true
  | .fma _ => true
  | .fmax _ => true
  | .fmin _ => true
  | .fcvtF32I64 _ => true
  | .fcvtF32U64 _ => true
  | .fcvtI64F32 _ => true
  | .fcvtI32F32 _ => true
  | .mfs f => (decide (f.sreg.toNat ≤ 11))
  | .mts f => (decide (f.sreg.toNat ≤ 11))
  | .addi _ => true
  | .andi _ => true
  | .ori _ => true
  | .xori _ => true
  | .slli _ => true
  | .srli _ => true
  | .srai _ => true
  | .rori _ => true
  | .widf f => decide (f.i.toNat ≤ 5)
  | .b _ => true
  | .call _ => true
  | .bloop _ => true
  | .br f => (f.d == 0) && (f.b == 0)
  | .callr f => (f.d == 0) && (f.b == 0)
  | .ret f => (f.d == 0) && (f.b == 0)
  | .yield f => (f.arg == 0)
  | .waitRing f => (fld f.arg.toNat 8 4 == 0)
  | .waitFree f => (fld f.arg.toNat 8 4 == 0)
  | .waitJoin f => (fld f.arg.toNat 14 3 == 0)
  | .waitStep f => (f.arg == 0)
  | .waitTime f => (fld f.arg.toNat 5 12 == 0)
  | .waitClk _ => true
  | .halt f => (f.arg == 0)
  | .ldS f => ((f.xc == 1 || f.cls == 0))
  | .stS f => ((f.xc == 1 || f.cls == 0))
  | .ldW f => ((f.xc == 1 || f.cls == 0))
  | .stW f => ((f.xc == 1 || f.cls == 0))
  | .ldG f => ((f.xc == 1 || f.cls == 0))
  | .stG f => ((f.xc == 1 || f.cls == 0))
  | .ldQ f => ((f.xc == 1 || f.cls == 0))
  | .stQ f => ((f.xc == 1 || f.cls == 0))
  | .rclaim _ => true
  | .rcommit _ => true
  | .rrelease _ => true
  | .rstat f => (f.cnt == 0)
  | .fenceShort f => (fld f.arg.toNat 16 1 == 0)
  | .mark f => (fld f.arg.toNat 14 3 == 0)
  | .mwaitS f => (fld f.arg.toNat 14 3 == 0)
  | .mwaitG f => (fld f.arg.toNat 14 3 == 0)
  | .mwaitQ f => (fld f.arg.toNat 14 3 == 0)
  | .push _ => true
  | .pushW _ => true
  | .kins _ => true
  | .vaddShort _ => true
  | .vsubShort _ => true
  | .vmulShort _ => true
  | .vfmaShort _ => true
  | .vmaxShort _ => true
  | .vminShort _ => true
  | .vexpShort f => (f.vb == 0)
  | .vsigmShort f => (f.vb == 0)
  | .viaddShort _ => true
  | .visubShort _ => true
  | .vimulShort _ => true
  | .vandShort _ => true
  | .vorShort _ => true
  | .vxorShort _ => true
  | .vimaxShort _ => true
  | .viminShort _ => true
  | .vcmpeqF32Short _ => true
  | .vcmpltF32Short _ => true
  | .vcmpleF32Short _ => true
  | .vcmpeqI32Short _ => true
  | .vcmpltI32Short _ => true
  | .vcmpltuI32Short _ => true
  | .pandShort _ => true
  | .pnotShort f => (f.vb == 0)
  | .vmovShort f => (f.vb == 0)
  | .vpermbShort _ => true
  | .vgathrShort _ => true
  | .vredrFaddShort f => (f.vb == 0)
  | .vredrFmaxShort f => (f.vb == 0)
  | .vbcxShort f => (f.va == 0) && (decide (f.vb.toNat < 32))
  | .vredcFaddShort f => (f.vb == 0)
  | .viotaShort f => (f.va == 0) && (f.vb == 0)
  | .bGuarded f => (f.a == 0) && (f.b == 0)
  | .beq _ => true
  | .bne _ => true
  | .blt _ => true
  | .bge _ => true
  | .bltu _ => true
  | .bgeu _ => true
  | .li f => (f.a == 0)
  | .lih _ => true
  | .addiWide _ => true
  | .andiWide _ => true
  | .oriWide _ => true
  | .xoriWide _ => true
  | .lip f => (f.a == 0) && (f.pos == 0) && (f.rows == 0) && (f.cols == 0)
  | .lir f => (f.a == 0) && (f.pos == 0)
  | .liw f => (f.pos == 0) && (f.rows == 0) && (f.cols == 0)
  | .kpl f => (f.a == 0) && (f.rows == 0) && (f.cols == 0) && (decide (f.d.toNat < 16))
  | .krl f => (f.a == 0) && (decide (f.d.toNat < 16))
  | .loopset f => (f.d == 0) && (f.b == 0) && (fld f.imm.toNat 22 2 == 0)
  | .callGuarded f => (f.d == 0) && (f.a == 0) && (fld f.imm.toNat 21 3 == 0) && (decide (f.b.toNat < 16))
  | .pcmp f => (f.d == 0) && (fld f.imm.toNat 11 13 == 0) && (decide (fld f.imm.toNat 8 3 ≤ 5#3))
  | .mpx f => (f.a == 0) && (f.b == 0) && (fld f.imm.toNat 7 17 == 0)
  | .mxp f => (f.d == 0) && (f.b == 0) && (fld f.imm.toNat 7 17 == 0)
  | .selp f => (fld f.imm.toNat 7 17 == 0)
  | .muli f => (f.b == 0)
  | .slti f => (f.b == 0)
  | .sltiu f => (f.b == 0)
  | .seqi f => (f.b == 0)
  | .mini f => (f.b == 0)
  | .maxi f => (f.b == 0)
  | .bexti f => (f.b == 0) && (fld f.imm.toNat 12 12 == 0)
  | .bextsi f => (f.b == 0) && (fld f.imm.toNat 12 12 == 0)
  | .binsi f => (f.b == 0) && (fld f.imm.toNat 12 12 == 0)
  | .addhi f => (f.b == 0)
  | .ld f => (decide (f.space.toNat ≤ 5)) && ((f.xc == 1 || f.cls == 0))
  | .lda f => (decide (f.space.toNat ≤ 5)) && ((f.xc == 1 || f.cls == 0))
  | .st f => (decide (f.space.toNat ≤ 5)) && ((f.xc == 1 || f.cls == 0))
  | .stl f => (decide (f.space.toNat ≤ 5)) && ((f.xc == 1 || f.cls == 0))
  | .amoSwap f => (f.c == 0) && (decide (2 ≤ f.sz.toNat)) && (atomicSpace f.space) && (f.ord != 3) && ((f.xc == 1 || f.cls == 0))
  | .amoAdd f => (f.c == 0) && (decide (2 ≤ f.sz.toNat)) && (atomicSpace f.space) && (f.ord != 3) && ((f.xc == 1 || f.cls == 0))
  | .amoAnd f => (f.c == 0) && (decide (2 ≤ f.sz.toNat)) && (atomicSpace f.space) && (f.ord != 3) && ((f.xc == 1 || f.cls == 0))
  | .amoOr f => (f.c == 0) && (decide (2 ≤ f.sz.toNat)) && (atomicSpace f.space) && (f.ord != 3) && ((f.xc == 1 || f.cls == 0))
  | .amoXor f => (f.c == 0) && (decide (2 ≤ f.sz.toNat)) && (atomicSpace f.space) && (f.ord != 3) && ((f.xc == 1 || f.cls == 0))
  | .amoMin f => (f.c == 0) && (decide (2 ≤ f.sz.toNat)) && (atomicSpace f.space) && (f.ord != 3) && ((f.xc == 1 || f.cls == 0))
  | .amoMax f => (f.c == 0) && (decide (2 ≤ f.sz.toNat)) && (atomicSpace f.space) && (f.ord != 3) && ((f.xc == 1 || f.cls == 0))
  | .amoMinu f => (f.c == 0) && (decide (2 ≤ f.sz.toNat)) && (atomicSpace f.space) && (f.ord != 3) && ((f.xc == 1 || f.cls == 0))
  | .amoMaxu f => (f.c == 0) && (decide (2 ≤ f.sz.toNat)) && (atomicSpace f.space) && (f.ord != 3) && ((f.xc == 1 || f.cls == 0))
  | .amoFadd f => (f.c == 0) && (f.sz == 2) && (atomicSpace f.space) && (f.ord != 3) && ((f.xc == 1 || f.cls == 0))
  | .amoFmax f => (f.c == 0) && (f.sz == 2) && (atomicSpace f.space) && (f.ord != 3) && ((f.xc == 1 || f.cls == 0))
  | .amoFmin f => (f.c == 0) && (f.sz == 2) && (atomicSpace f.space) && (f.ord != 3) && ((f.xc == 1 || f.cls == 0))
  | .amoIncw f => (f.c == 0) && (decide (2 ≤ f.sz.toNat)) && (atomicSpace f.space) && (f.ord != 3) && ((f.xc == 1 || f.cls == 0))
  | .amoDecw f => (f.c == 0) && (decide (2 ≤ f.sz.toNat)) && (atomicSpace f.space) && (f.ord != 3) && ((f.xc == 1 || f.cls == 0))
  | .amoAddus f => (f.c == 0) && (decide (2 ≤ f.sz.toNat)) && (atomicSpace f.space) && (f.ord != 3) && ((f.xc == 1 || f.cls == 0))
  | .amoSubus f => (f.c == 0) && (decide (2 ≤ f.sz.toNat)) && (atomicSpace f.space) && (f.ord != 3) && ((f.xc == 1 || f.cls == 0))
  | .cas f => (decide (2 ≤ f.sz.toNat)) && (atomicSpace f.space) && (f.ord != 3) && ((f.xc == 1 || f.cls == 0))
  | .redSwap f => (f.d == 0) && (f.c == 0) && (decide (2 ≤ f.sz.toNat)) && (atomicSpace f.space) && (f.ord != 3) && (f.ord != 1) && ((f.xc == 1 || f.cls == 0))
  | .redAdd f => (f.d == 0) && (f.c == 0) && (decide (2 ≤ f.sz.toNat)) && (atomicSpace f.space) && (f.ord != 3) && (f.ord != 1) && ((f.xc == 1 || f.cls == 0))
  | .redAnd f => (f.d == 0) && (f.c == 0) && (decide (2 ≤ f.sz.toNat)) && (atomicSpace f.space) && (f.ord != 3) && (f.ord != 1) && ((f.xc == 1 || f.cls == 0))
  | .redOr f => (f.d == 0) && (f.c == 0) && (decide (2 ≤ f.sz.toNat)) && (atomicSpace f.space) && (f.ord != 3) && (f.ord != 1) && ((f.xc == 1 || f.cls == 0))
  | .redXor f => (f.d == 0) && (f.c == 0) && (decide (2 ≤ f.sz.toNat)) && (atomicSpace f.space) && (f.ord != 3) && (f.ord != 1) && ((f.xc == 1 || f.cls == 0))
  | .redMin f => (f.d == 0) && (f.c == 0) && (decide (2 ≤ f.sz.toNat)) && (atomicSpace f.space) && (f.ord != 3) && (f.ord != 1) && ((f.xc == 1 || f.cls == 0))
  | .redMax f => (f.d == 0) && (f.c == 0) && (decide (2 ≤ f.sz.toNat)) && (atomicSpace f.space) && (f.ord != 3) && (f.ord != 1) && ((f.xc == 1 || f.cls == 0))
  | .redMinu f => (f.d == 0) && (f.c == 0) && (decide (2 ≤ f.sz.toNat)) && (atomicSpace f.space) && (f.ord != 3) && (f.ord != 1) && ((f.xc == 1 || f.cls == 0))
  | .redMaxu f => (f.d == 0) && (f.c == 0) && (decide (2 ≤ f.sz.toNat)) && (atomicSpace f.space) && (f.ord != 3) && (f.ord != 1) && ((f.xc == 1 || f.cls == 0))
  | .redFadd f => (f.d == 0) && (f.c == 0) && (f.sz == 2) && (atomicSpace f.space) && (f.ord != 3) && (f.ord != 1) && ((f.xc == 1 || f.cls == 0))
  | .redFmax f => (f.d == 0) && (f.c == 0) && (f.sz == 2) && (atomicSpace f.space) && (f.ord != 3) && (f.ord != 1) && ((f.xc == 1 || f.cls == 0))
  | .redFmin f => (f.d == 0) && (f.c == 0) && (f.sz == 2) && (atomicSpace f.space) && (f.ord != 3) && (f.ord != 1) && ((f.xc == 1 || f.cls == 0))
  | .redIncw f => (f.d == 0) && (f.c == 0) && (decide (2 ≤ f.sz.toNat)) && (atomicSpace f.space) && (f.ord != 3) && (f.ord != 1) && ((f.xc == 1 || f.cls == 0))
  | .redDecw f => (f.d == 0) && (f.c == 0) && (decide (2 ≤ f.sz.toNat)) && (atomicSpace f.space) && (f.ord != 3) && (f.ord != 1) && ((f.xc == 1 || f.cls == 0))
  | .redAddus f => (f.d == 0) && (f.c == 0) && (decide (2 ≤ f.sz.toNat)) && (atomicSpace f.space) && (f.ord != 3) && (f.ord != 1) && ((f.xc == 1 || f.cls == 0))
  | .redSubus f => (f.d == 0) && (f.c == 0) && (decide (2 ≤ f.sz.toNat)) && (atomicSpace f.space) && (f.ord != 3) && (f.ord != 1) && ((f.xc == 1 || f.cls == 0))
  | .fence f => (f.d == 0) && (f.a == 0) && (f.b == 0) && (fld f.imm.toNat 18 6 == 0)
  | .fenceAcq f => (f.d == 0) && (f.a == 0) && (f.b == 0) && (fld f.imm.toNat 18 6 == 0)
  | .fenceRel f => (f.d == 0) && (f.a == 0) && (f.b == 0) && (fld f.imm.toNat 18 6 == 0)
  | .mwaittS f => (fld f.imm.toNat 16 8 == 0)
  | .mwaittG f => (fld f.imm.toNat 16 8 == 0)
  | .mwaittQ f => (fld f.imm.toNat 16 8 == 0)
  | .cpref f => (f.d == 0) && (f.b == 0) && (fld f.imm.toNat 2 22 == 0)
  | .cprefw f => (f.d == 0) && (f.b == 0) && (fld f.imm.toNat 2 22 == 0)
  | .cclean f => (f.d == 0) && (f.b == 0) && (fld f.imm.toNat 2 22 == 0)
  | .cflush f => (f.d == 0) && (f.b == 0) && (fld f.imm.toNat 2 22 == 0)
  | .cinv f => (f.d == 0) && (f.b == 0) && (fld f.imm.toNat 2 22 == 0)
  | .ccleanr f => (f.d == 0) && (fld f.imm.toNat 2 22 == 0)
  | .cflushr f => (f.d == 0) && (fld f.imm.toNat 2 22 == 0)
  | .cinvr f => (f.d == 0) && (fld f.imm.toNat 2 22 == 0)
  | .ccleana f => (f.d == 0) && (f.a == 0) && (f.b == 0) && (fld f.imm.toNat 2 22 == 0)
  | .cflusha f => (f.d == 0) && (f.a == 0) && (f.b == 0) && (fld f.imm.toNat 2 22 == 0)
  | .rcfg f => (f.d == 0) && (fld f.imm.toNat 5 19 == 0)
  | .rdesc f => (f.a == 0) && (f.b == 0) && (fld f.imm.toNat 6 18 == 0)
  | .raddr f => (f.a == 0) && (fld f.imm.toNat 7 17 == 0) && (fld f.imm.toNat 5 2 != 3#2)
  | .rld f => (fld f.imm.toNat 9 15 == 0) && (fld f.imm.toNat 5 2 != 3#2)
  | .rst f => (fld f.imm.toNat 9 15 == 0) && (fld f.imm.toNat 5 2 != 3#2)
  | .rclaima f => (f.a == 0) && (fld f.imm.toNat 14 10 == 0)
  | .rown f => (f.a == 0) && (fld f.imm.toNat 5 19 == 0)
  | .rbar f => (f.d == 0) && (f.a == 0) && (f.b == 0) && (fld f.imm.toNat 5 19 == 0)
  | .vadd f => (f.vc == 0) && (f.imm == 0)
  | .vsub f => (f.vc == 0) && (f.imm == 0)
  | .vmul f => (f.vc == 0) && (f.imm == 0)
  | .vfma f => (f.imm == 0)
  | .vfms f => (f.imm == 0)
  | .vfnma f => (f.imm == 0)
  | .vdiv f => (f.vc == 0) && (f.imm == 0)
  | .vsqrt f => (f.vb == 0) && (f.vc == 0) && (f.imm == 0)
  | .vmax f => (f.vc == 0) && (f.imm == 0)
  | .vmin f => (f.vc == 0) && (f.imm == 0)
  | .vabs f => (f.vb == 0) && (f.vc == 0) && (f.imm == 0)
  | .vneg f => (f.vb == 0) && (f.vc == 0) && (f.imm == 0)
  | .vcpsgn f => (f.vc == 0) && (f.imm == 0)
  | .vrint f => (f.vb == 0) && (f.vc == 0) && (f.imm == 0)
  | .vldexp f => (f.vc == 0) && (f.imm == 0)
  | .vrcp f => (f.vb == 0) && (f.vc == 0) && (f.imm == 0)
  | .vrsqrt f => (f.vb == 0) && (f.vc == 0) && (f.imm == 0)
  | .vexp f => (f.vb == 0) && (f.vc == 0) && (f.imm == 0)
  | .vexp2 f => (f.vb == 0) && (f.vc == 0) && (f.imm == 0)
  | .vlog2 f => (f.vb == 0) && (f.vc == 0) && (f.imm == 0)
  | .vtanh f => (f.vb == 0) && (f.vc == 0) && (f.imm == 0)
  | .vsigm f => (f.vb == 0) && (f.vc == 0) && (f.imm == 0)
  | .vsilu f => (f.vb == 0) && (f.vc == 0) && (f.imm == 0)
  | .vgelu f => (f.vb == 0) && (f.vc == 0) && (f.imm == 0)
  | .vcvt f => (f.vb == 0) && (f.vc == 0) && (fld f.imm.toNat 3 10 == 0)
  | .vcvtn f => (f.vb == 0) && (f.vc == 0) && (fld f.imm.toNat 3 10 == 0)
  | .vcvtw f => (f.vb == 0) && (f.vc == 0) && (fld f.imm.toNat 3 10 == 0)
  | .vmaxnum f => (f.vc == 0) && (f.imm == 0)
  | .vminnum f => (f.vc == 0) && (f.imm == 0)
  | .vdot2 f => (f.imm == 0)
  | .vsqd f => (f.imm == 0)
  | .vlerp f => (f.imm == 0)
  | .viadd f => (f.vc == 0) && (f.imm == 0)
  | .visub f => (f.vc == 0) && (f.imm == 0)
  | .vimul f => (f.vc == 0) && (f.imm == 0)
  | .vimulh f => (f.vc == 0) && (f.imm == 0)
  | .vimad f => (f.imm == 0)
  | .viadds f => (f.vc == 0) && (f.imm == 0)
  | .visubs f => (f.vc == 0) && (f.imm == 0)
  | .viaddus f => (f.vc == 0) && (f.imm == 0)
  | .visubus f => (f.vc == 0) && (f.imm == 0)
  | .vimin f => (f.vc == 0) && (f.imm == 0)
  | .vimax f => (f.vc == 0) && (f.imm == 0)
  | .viminu f => (f.vc == 0) && (f.imm == 0)
  | .vimaxu f => (f.vc == 0) && (f.imm == 0)
  | .viabs f => (f.vb == 0) && (f.vc == 0) && (f.imm == 0)
  | .vand f => (f.vc == 0) && (f.imm == 0)
  | .vor f => (f.vc == 0) && (f.imm == 0)
  | .vxor f => (f.vc == 0) && (f.imm == 0)
  | .vandn f => (f.vc == 0) && (f.imm == 0)
  | .vnot f => (f.vb == 0) && (f.vc == 0) && (f.imm == 0)
  | .vsll f => (f.vc == 0) && (f.imm == 0)
  | .vsrl f => (f.vc == 0) && (f.imm == 0)
  | .vsra f => (f.vc == 0) && (f.imm == 0)
  | .vslli f => (f.vb == 0) && (f.vc == 0) && (fld f.imm.toNat 5 8 == 0)
  | .vsrli f => (f.vb == 0) && (f.vc == 0) && (fld f.imm.toNat 5 8 == 0)
  | .vsrai f => (f.vb == 0) && (f.vc == 0) && (fld f.imm.toNat 5 8 == 0)
  | .vpopc f => (f.vb == 0) && (f.vc == 0) && (f.imm == 0)
  | .vclz f => (f.vb == 0) && (f.vc == 0) && (f.imm == 0)
  | .vdot4 f => (f.imm == 0)
  | .vaddi f => (f.vb == 0) && (f.vc == 0)
  | .vandi f => (f.vb == 0) && (f.vc == 0)
  | .vsrar f => (f.vb == 0) && (f.vc == 0) && (fld f.imm.toNat 5 8 == 0)
  | .vclamp f => (f.imm == 0)
  | .vcmpeq f => (f.vc == 0) && (fld f.imm.toNat 0 12 == 0)
  | .vcmpne f => (f.vc == 0) && (fld f.imm.toNat 0 12 == 0)
  | .vcmplt f => (f.vc == 0) && (fld f.imm.toNat 0 12 == 0)
  | .vcmple f => (f.vc == 0) && (fld f.imm.toNat 0 12 == 0)
  | .vcmpgt f => (f.vc == 0) && (fld f.imm.toNat 0 12 == 0)
  | .vcmpge f => (f.vc == 0) && (fld f.imm.toNat 0 12 == 0)
  | .vcmpltu f => (f.vc == 0) && (fld f.imm.toNat 0 12 == 0)
  | .vcmpgeu f => (f.vc == 0) && (fld f.imm.toNat 0 12 == 0)
  | .vcmpun f => (f.vc == 0) && (fld f.imm.toNat 0 12 == 0)
  | .vftest f => (f.vb == 0) && (f.vc == 0) && (fld f.imm.toNat 10 2 == 0)
  | .pand f => (f.vc == 0) && (fld f.imm.toNat 0 10 == 0)
  | .por f => (f.vc == 0) && (fld f.imm.toNat 0 10 == 0)
  | .pxor f => (f.vc == 0) && (fld f.imm.toNat 0 10 == 0)
  | .pandn f => (f.vc == 0) && (fld f.imm.toNat 0 10 == 0)
  | .porn f => (f.vc == 0) && (fld f.imm.toNat 0 10 == 0)
  | .pnot f => (f.vb == 0) && (f.vc == 0) && (fld f.imm.toNat 0 11 == 0)
  | .pset f => (f.va == 0) && (f.vb == 0) && (f.vc == 0) && (fld f.imm.toNat 0 12 == 0)
  | .pclr f => (f.va == 0) && (f.vb == 0) && (f.vc == 0) && (fld f.imm.toNat 0 12 == 0)
  | .plen f => (f.vb == 0) && (f.vc == 0) && (fld f.imm.toNat 0 12 == 0)
  | .plenr f => (f.vb == 0) && (f.vc == 0) && (fld f.imm.toNat 0 12 == 0)
  | .pfirst f => (f.vb == 0) && (f.vc == 0) && (fld f.imm.toNat 0 11 == 0)
  | .pfirstr f => (f.vb == 0) && (f.vc == 0) && (fld f.imm.toNat 0 11 == 0)
  | .pcnt f => (f.vb == 0) && (f.vc == 0) && (fld f.imm.toNat 0 11 == 0) && (fld f.imm.toNat 12 1 == 0)
  | .pcntr f => (f.vb == 0) && (f.vc == 0) && (fld f.imm.toNat 0 11 == 0) && (fld f.imm.toNat 12 1 == 0)
  | .vsel f => (f.vc == 0) && (fld f.imm.toNat 7 6 == 0)
  | .vptov f => (f.vb == 0) && (f.vc == 0) && (fld f.imm.toNat 0 11 == 0) && (fld f.imm.toNat 12 1 == 0)
  | .vtop f => (f.vb == 0) && (f.vc == 0) && (fld f.imm.toNat 0 12 == 0)
  | .pany f => (f.vb == 0) && (f.vc == 0) && (fld f.imm.toNat 0 11 == 0)
  | .pall f => (f.vb == 0) && (f.vc == 0) && (fld f.imm.toNat 0 11 == 0)
  | .panyr f => (f.vb == 0) && (f.vc == 0) && (fld f.imm.toNat 0 11 == 0)
  | .protr f => (f.vb == 0) && (f.vc == 0) && (fld f.imm.toNat 6 5 == 0)
  | .prowb f => (f.vb == 0) && (f.vc == 0) && (fld f.imm.toNat 0 11 == 0)
  | .vmov f => (f.vb == 0) && (f.vc == 0) && (f.imm == 0)
  | .vli f => (f.va == 0) && (f.vb == 0) && (f.vc == 0)
  | .vbcx f => (f.va == 0) && (f.vc == 0) && (f.imm == 0) && (decide (f.vb.toNat < 32))
  | .vins f => (f.va == 0) && (f.vc == 0) && (decide (f.vb.toNat < 32)) && (fld f.imm.toNat 10 3 == 0)
  | .vext f => (f.vb == 0) && (f.vc == 0) && (decide (f.vd.toNat < 32)) && (fld f.imm.toNat 10 3 == 0)
  | .viota f => (f.va == 0) && (f.vb == 0) && (f.vc == 0)
  | .vrotr f => (f.vb == 0) && (f.vc == 0) && (fld f.imm.toNat 6 7 == 0)
  | .vrotc f => (f.vb == 0) && (f.vc == 0) && (fld f.imm.toNat 4 9 == 0)
  | .vshr f => (f.vb == 0) && (f.vc == 0) && (fld f.imm.toNat 7 6 == 0)
  | .vshc f => (f.vb == 0) && (f.vc == 0) && (fld f.imm.toNat 5 8 == 0)
  | .vrev f => (f.vb == 0) && (f.vc == 0) && (f.imm == 0)
  | .vrevc f => (f.vb == 0) && (f.vc == 0) && (f.imm == 0)
  | .vtr16 f => (f.vb == 0) && (f.vc == 0) && (f.imm == 0)
  | .vbcr f => (f.vb == 0) && (f.vc == 0) && (fld f.imm.toNat 4 9 == 0)
  | .vbcc f => (f.vb == 0) && (f.vc == 0) && (fld f.imm.toNat 6 7 == 0)
  | .vgathr f => (f.vc == 0) && (f.imm == 0)
  | .vgathc f => (f.vc == 0) && (f.imm == 0)
  | .vpermb f => (f.vc == 0) && (f.imm == 0)
  | .vswaph f => (f.vb == 0) && (f.vc == 0) && (f.imm == 0)
  | .vbswap f => (f.vb == 0) && (f.vc == 0) && (f.imm == 0)
  | .vcompr f => (f.vb == 0) && (f.vc == 0) && (f.imm == 0)
  | .vexpd f => (f.vb == 0) && (f.vc == 0) && (f.imm == 0)
  | .vredr f => (f.vb == 0) && (f.vc == 0) && (fld f.imm.toNat 3 10 == 0)
  | .vredc f => (f.vb == 0) && (f.vc == 0) && (fld f.imm.toNat 3 10 == 0)
  | .vreda f => (f.vb == 0) && (f.vc == 0) && (fld f.imm.toNat 3 10 == 0)
  | .vscanr f => (f.vb == 0) && (f.vc == 0) && (fld f.imm.toNat 3 10 == 0)
  | .vscanc f => (f.vb == 0) && (f.vc == 0) && (fld f.imm.toNat 3 10 == 0)
  | .vpscan f => (f.va == 0) && (f.vb == 0) && (f.vc == 0) && (fld f.imm.toNat 7 6 == 0)
  | .vpscana f => (f.va == 0) && (f.vb == 0) && (f.vc == 0) && (fld f.imm.toNat 7 6 == 0)
  | .vtopk f => (f.vb == 0) && (f.vc == 0) && (fld f.imm.toNat 7 6 == 0)
  | .vsamp f => (f.vc == 0) && (f.imm == 0)
  | .vsumsqr f => (f.vb == 0) && (f.vc == 0) && (f.imm == 0)
  | .vld f => (f.mode == 0 && f.q == 0 || f.mode == 1)
  | .vldT f => (f.mode == 0 && f.q == 0 || f.mode == 1)
  | .vldRowb f => (f.mode == 0 && f.q == 0 || f.mode == 1)
  | .vldColb f => (f.mode == 0 && f.q == 0 || f.mode == 1)
  | .vldN8 f => (f.mode == 0 && f.q == 0 || f.mode == 1)
  | .vldN16 f => (f.mode == 0 && f.q == 0 || f.mode == 1)
  | .vldN8s f => (f.mode == 0 && f.q == 0 || f.mode == 1)
  | .vldN16s f => (f.mode == 0 && f.q == 0 || f.mode == 1)
  | .vst f => (f.mode == 0 && f.q == 0 || f.mode == 1)
  | .vstT f => (f.mode == 0 && f.q == 0 || f.mode == 1)
  | .vstRow0 f => (f.mode == 0 && f.q == 0 || f.mode == 1)
  | .vstCol0 f => (f.mode == 0 && f.q == 0 || f.mode == 1)
  | .vstN8 f => (f.mode == 0 && f.q == 0 || f.mode == 1)
  | .vstN16 f => (f.mode == 0 && f.q == 0 || f.mode == 1)
  | .vstN8s f => (f.mode == 0 && f.q == 0 || f.mode == 1)
  | .vstN16s f => (f.mode == 0 && f.q == 0 || f.mode == 1)
  | .kli f => (f.a == 0) && (decide (f.d.toNat < 16))
  | .kliw f => (decide (f.a.toNat < 4)) && (decide (f.d.toNat < 16))
  | .kmvx f => (fld f.imm.toNat 1 31 == 0) && (decide (f.d.toNat < 16))
  | .kclr f => (f.a == 0) && (fld f.imm.toNat 2 30 == 0) && (decide (f.d.toNat < 16))
  | .rsubmit f => (f.b == 0) && (f.imm == 0)
  | .rpark f => (f.b == 0) && (f.imm == 0)
  | .rresume f => (f.b == 0) && (f.imm == 0)
  | .rcancel f => (f.b == 0) && (f.imm == 0)
  | .rfree f => (f.b == 0) && (f.imm == 0)
  | .remit f => (f.imm == 0)
  | .rflt f => (f.d == 0) && (f.b == 0) && (fld f.imm.toNat 8 16 == 0) && (f.imm != 0)
  | .rrec f => (f.b == 0) && (f.imm == 0)
  | .tnext f => (f.b == 0) && (f.imm == 0)
  | .tcfg _ => true
  | .tarm f => (f.d == 0) && (fld f.imm.toNat 1 23 == 0)
  | .tstamp f => (f.b == 0) && (f.imm == 0)
  | .launch f => (f.imm == 0)
  | .plane f => (f.imm == 0)
  | .swapt f => (f.a == 0) && (f.imm == 0)
  | .preempt f => (f.b == 0) && (fld f.imm.toNat 2 22 == 0)
  | .resumePartition f => (f.b == 0) && (f.imm == 0)
  | .resumeQueue f => (f.b == 0) && (fld f.imm.toNat 0 1 == 1#1) && (fld f.imm.toNat 2 22 == 0)
  | .commit f => (f.b == 0) && (f.imm == 0)
  | .trap f => (f.d == 0) && (f.a == 0) && (f.b == 0) && (fld f.imm.toNat 8 16 == 0) && (decide (0x80 ≤ f.imm.toNat))
  | .rtt f => (f.d == 0) && (f.a == 0) && (f.b == 0) && (fld f.imm.toNat 2 22 == 0) && (f.imm != 3)
  | .brk f => (f.d == 0) && (f.a == 0) && (f.b == 0) && (f.imm == 0)
  | .mfsr f => (f.a == 0) && (f.b == 0) && (sysregDefined f.imm)
  | .mtsr f => (f.d == 0) && (f.b == 0) && (sysregDefined f.imm)
  | .qres f => (f.d == 0) && (f.b == 0) && (fld f.imm.toNat 1 23 == 0)
  | .qmpc f => (f.b == 0) && (fld f.imm.toNat 1 23 == 0)
  | .rdfr f => (f.a == 0) && (f.b == 0) && (fld f.imm.toNat 3 21 == 0)
  | .alatch _ _ => true
  | .aswap _ _ => true
  | .amac _ _ => true
  | .adist _ _ => true
  | .azero _ _ => true
  | .achain _ => true
  | .abypass _ => true
  | .vapply _ => true
  | .edrain _ => true
  | .eexp _ => true
  | .esmaxPass _ => true
  | .esmaxMerge _ => true
  | .esmaxFinish _ => true
  | .esmaxReset _ => true
  | .etopk _ => true
  | .efold _ => true
  | .eturn _ => true
  | .escale _ => true
  | .cpy _ _ => true
  | .kvappend _ => true
  | .kvpos _ => true
  | .kvevictWindow _ => true
  | .kvevictMask _ => true
  | .kvpin _ => true
  | .kvfreeList _ => true
  | .kvfreePage _ => true
  | .kvpromotePromotion _ => true
  | .kvpromoteDemotion _ => true
  | .fxsend _ => true
  | .fxmcast _ => true
  | .fxred _ => true
  | .fxwin _ => true
  | .landingArrival _ _ => true
  | .latchFillComplete _ _ _ => true
  | .latchSwap _ _ => true
  | .mitigationWindow _ => true
  | .mitigationWindowEnd _ => true
  | .loadDataReturn _ _ _ => true
  | .storePerform _ _ => true
  | .l1Eviction _ _ => true
  | .translationRetry _ => true
  | .translationParkTimeout _ => true
  | .ringWaitWake _ _ => true
  | .waitTimeReached _ => true
  | .waitClkExpiry _ => true
  | .joinComplete _ _ => true
  | .barrierWake _ _ => true
  | .monitorWake _ => true
  | .mwaittTimeout _ => true
  | .pushEntryFreed _ _ => true
  | .watchdogExpiry _ _ => true
  | .issueSelect _ => true
  | .engineFaultDelivery _ _ => true
  | .tick _ => true
  | .stepOpen _ => true
  | .holdGraceExpiry _ => true
  | .stepCommit _ => true
  | .porchRunStart _ => true
  | .porchBudgetExpiry _ => true
  | .hostQueuePublish _ _ => true
  | .qctlRestart _ => true
  | .planeSwap _ => true
  | .operatorRetire _ => true
  | .preemptDrainComplete _ => true
  | .preemptT1Expiry _ => true
  | .preemptSaveComplete _ => true
  | .preemptT2Expiry _ => true
  | .coreFence _ => true
  | .rePlacement _ => true
  | .stepRerun _ => true
  | .fatalError _ _ _ => true
  | .packageReset => true
  | .imageLoad _ => true
  | .attestationRequest _ _ => true
  | .packetRoute _ _ => true
  | .outputGrant _ => true
  | .write _ => true
  | .writeAcknowledgement _ => true
  | .readRequest _ => true
  | .readResponse _ => true
  | .atomicRequest _ => true
  | .atomicResponse _ => true
  | .reduction _ => true
  | .chunkCombine _ _ => true
  | .time _ => true
  | .management _ => true
  | .errorResponse _ => true
  | .multicastWrite _ => true
  | .fabricTimeout _ => true
  | .laneFailure _ _ => true
  | .edgeModuleFailure _ _ => true
  | .hostLinkLaneFailure _ => true
  | .hostAccess _ _ _ => true
  | .fabricPortControlWrite _ _ => true
  | .inboundWindowWrite _ _ _ _ _ => true
  | .ptpSync _ => true
  | .holdoverTimeout => true
  | .pstateWrite _ => true
  | .throttleChange _ _ _ => true
  | .debugAttach => true
  | .debugDetach => true
  | .debugRelease _ _ => true
  | .reservedEncoding _ _ => true
  | .portComesUp _ _ _ _ => true
  | .l2Eviction _ => true
  | .planeCompletion _ => true
  | .fenceDrainT1Expiry _ => true
  | .powerStateReturn => true
  | .corruptedFlitReplay _ => true

end Instr

end Sys2Proof
end

