-- ==== Sys2Proof/Machine/System.lean ====
section
/-! DEFINITION. Traps, return from trap, breakpoints, system registers and the debug path
(spec/07_engine_commands.md, R239–R243; spec/12_fabric_host_time.md, R371). -/

namespace Sys2Proof.Machine

/-! ## Traps (R240–R242) -/

/-- TRAP (R240, R241): a precise trap whose return address is the next instruction, once the loads of the fabric before it have
completed (R145). A TRAP that ends the chain has no next
instruction: a handler would have nowhere to return to, and it is fault 0x01, as a CALL there (DEDUCED, log 18). -/
def execTrap (f : FSY) (s : State) : Out :=
  s.run 2 (if f.imm.toNat < 0x80 ∨ 0xFF < f.imm.toNat then some (raise 0x02) else none) (s.guard7 f.g) [] (fun s =>
    match s.cur with
    | .porch _ => .fault s (raise (BitVec.ofNat 8 f.imm.toNat))
    | .strand c k =>
      let r := s.recordOf s.cur s.me.pc (raise (BitVec.ofNat 8 f.imm.toNat))
      if !s.me.far.isEmpty then .again s
      else match s.successor 2, s.me.trapEn && !s.me.trapIn with
      | some (l, sl), _ => .settled (s.passed.takeRecord c.toNat k.toNat (pcBits l sl) r)
      | none, false => .settled (s.passed.takeRecord c.toNat k.toNat s.me.pc r)
      | none, true => .fault s (raise 0x01 s.me.pc.toNat))

/-- The words of a waiting instruction (R77): YIELD and the WAIT forms, PUSH.W, RBAR, MWAIT and MWAITT. -/
def waitingWords (w0 w1 : Word) : Bool :=
  let n := w0.toNat
  let fn := bits w1.toNat 24 8
  match bits n 25 7 with
  | 0x14 => decide (bits n 21 4 ≤ 6)
  | 0x28 => bit n 14
  | 0x21 => decide (5 ≤ bits n 21 4 ∧ bits n 21 4 ≤ 7)
  | 0x4D => decide (3 ≤ fn ∧ fn ≤ 5)
  | 0x4E => decide (fn = 7)
  | _ => false

/-- The words a 64-bit and a 32-bit instruction take (R74). -/
def wordsOf (w0 : Word) : Nat := if 0x40 ≤ bits w0.toNat 25 7 then 2 else 1

/-- Where the instruction after the one at `pc` starts (R74, R75, R77); none past the end of the chain. A pc that no
instruction can be fetched from stays, and its fetch faults. -/
def State.after (s : State) (pc : BitVec 25) : Option (BitVec 25) :=
  match s.imageOf s.cur with
  | none => some pc
  | some img =>
    let line := (pcLine pc).toNat
    if img.nlines ≤ line ∨ pcSlot pc = 0 then some pc
    else
      let w := s.imageWord img line (pcSlot pc).toNat
      let next := linkNext (s.imageWord img line 0)
      let n := (pcSlot pc).toNat + wordsOf w
      if n ≤ 15 && !waitingWords w (s.imageWord img line ((pcSlot pc).toNat + 1)) then some (pcBits (pcLine pc) (BitVec.ofNat 4 n))
      else if next = endOfChain then none
      else some (pcBits next 1)

/-- The held stores discarded (R242, mode 1): those that have faulted, reported or not, and those behind one of them in its
class. -/
def Strand.discardHeld (t : Strand) : Strand :=
  { t with storeq := (upto 0 t.storeq.length).filterMap (fun i =>
      t.storeq[i]?.bind (fun e => if t.held i e then none else some e)) }

/-- The held stores performed in program order (R242, modes 0 and 2); one that faults again is reported again (R147). -/
def State.performHeld (s : State) : State :=
  (s.modMe (fun t => { t with storeq := t.storeq.map (fun e =>
    if e.fault.isSome then { e with fault := none, told := false, retry := none } else e) })).drain s.cur

/-- RTT (R242). Mode 2 with no instruction after tpc goes to tpc as past the end of a chain: a queued record is taken there first,
then fault 0x01 (DESIGN CHOICE, log 71). The handler's own loads under way complete first (DESIGN CHOICE, log 74). -/
def execRtt (f : FSY) (s : State) : Out :=
  s.run 2 (if 2 < f.imm.toNat then some (raise 0x02) else none) (s.guard7 f.g) [] (fun s =>
    if !s.me.trapIn then .fault s (raise 0x07)
    else if s.me.far.any (fun f => f.handler) then .again s
    else
      let tpc := s.me.tpc
      let s := s.passed
      let s := if f.imm.toNat = 1 then s.modMe Strand.discardHeld else s.performHeld
      if f.imm.toNat = 2 then
        match s.after tpc with
        | some pc => .settled (s.leaveHandler pc)
        | none =>
          let s := s.modMe (fun t => { t with outer := ⟨none, some tpc⟩ })
          if s.me.queued.isEmpty then .settled (s.leaveHandler tpc).passed.endChain else .settled (s.leaveHandler tpc)
      else .settled (s.leaveHandler tpc))

/-! ## Breakpoints and the debug path (R243, R371) -/

/-- The current strand halts for the debugger. -/
def State.debugHalt (s : State) : State := (s.modMe (fun t => { t with run := .debugged })).giveSlot

/-- BRK (R243): halts with the pc at the next instruction, where a release goes on, or at itself at the end of its chain,
where a release goes past the end (DEDUCED, log 19); without a debugger a NOP. -/
def execBrk (f : FSY) (s : State) : Out :=
  s.run 2 none (s.guard7 f.g) [] (fun s =>
    match s.cur with
    | .strand c _ =>
      if (s.core c.toNat).dbg then
        match s.successor 2 with
        | some (l, sl) => .settled (s.passed.setPc l sl).debugHalt
        | none => .settled (s.modMe (fun t => { t with pass := ⟨none, some t.pc⟩ })).debugHalt
      else .next s
    | .porch _ => .next s)

/-- An enabled bpt register matches the strand's pc, at an instruction that it has not passed there (R239, R243) and that is still to
be executed. -/
def Strand.breaks (t : Strand) : Bool :=
  t.pass.bpt != some t.pc && t.pass.ended != some t.pc && (upto 0 4).any (fun i =>
    let b := t.bpt.get 0 i
    b.getLsbD 63 && (b.setWidth 25 == t.pc))

/-- A strand the debugger releases goes on where it halted, passing a breakpoint there once (R243). -/
def Strand.release (t : Strand) : Strand :=
  if t.run = .debugged then { t with run := .ready, pass := { t.pass with bpt := some t.pc } } else t

/-- A strand released, which takes the records kept for it meanwhile (R241, R243). One that a BRK at the end of its chain has halted
then goes past the end: fault 0x01 (R75). -/
def State.releaseStrand (s : State) (c k : Nat) : State :=
  let t := (s.core c).strand k
  if t.run = .debugged then (s.modCore c (fun co => co.setStrand k t.release)).takeKept c k else s

/-- DEBUG_RELEASE (R243). -/
def execDebugRelease (c : CoreId) (k : StrandId) (s : State) : Out :=
  .next (if (s.core c.toNat).dbg then s.releaseStrand c.toNat k.toNat else s)

/-- DEBUG_ATTACH (R371): dbg is set in every core. -/
def execDebugAttach (s : State) : Out :=
  .next ((upto 0 32).foldl (fun s c => s.modCore c (fun k => { k with dbg := true })) { s with debugger := true })

/-- DEBUG_DETACH (R371): dbg is cleared and every strand halted for debug is released. -/
def execDebugDetach (s : State) : Out :=
  .next ((upto 0 32).foldl (fun s c =>
    (upto 0 8).foldl (fun s i => s.releaseStrand c i) (s.modCore c (fun k => { k with dbg := false })))
    { s with debugger := false })

/-! ## System registers (R239) -/

/-- System register n of the current strand and its core. -/
def State.sysRead (s : State) (n : Nat) : DWord :=
  let t := s.me
  let k := s.core s.myCore
  match n with
  | 0x000 => BitVec.ofNat 64 (t.trapEn.toNat + 2 * t.trapIn.toNat)
  | 0x001 => t.tvec.setWidth 64
  | 0x002 => t.tpc.setWidth 64
  | 0x003 => BitVec.ofNat 64 k.dbg.toNat
  | 0x010 => k.lstat.setWidth 64
  | 0x011 => k.lempty.setWidth 64
  | 0x012 => (k.lempty >>> 64).setWidth 64
  | 0x013 => k.vstat.setWidth 64
  | 0x014 => k.fxstat.setWidth 64
  | 0x020 => t.bpt.get 0 0
  | 0x021 => t.bpt.get 0 1
  | 0x022 => t.bpt.get 0 2
  | 0x023 => t.bpt.get 0 3
  | _ => 0

/-- The bits a bpt register keeps: enable and address. -/
def bptMask : DWord := 0x8000000001FFFFFF

/-- A write to system register n: RW fields take the value, W1C fields clear where it has a 1 (R6). Records kept while
tctl.in was 1 stay kept when software clears it here, until an RTT or a release (DESIGN CHOICE, log 60). -/
def State.sysWrite (s : State) (n : Nat) (v : DWord) : State :=
  let core (f : Core → Core) : State := s.modCore s.myCore f
  match n with
  | 0x000 => s.modMe (fun t => { t with trapEn := v.getLsbD 0, trapIn := v.getLsbD 1 })
  | 0x001 => s.modMe (fun t => { t with tvec := v.setWidth 25 })
  | 0x002 => s.modMe (fun t => { t with tpc := v.setWidth 25 })
  | 0x010 => core (fun k => { k with lstat := k.lstat &&& ~~~(v.setWidth 8) })
  | 0x011 => core (fun k => { k with lempty := k.lempty &&& ~~~(v.setWidth 128) })
  | 0x012 => core (fun k => { k with lempty := k.lempty &&& ~~~(v.setWidth 128 <<< 64) })
  | 0x013 => core (fun k => { k with vstat := k.vstat &&& ~~~(v.setWidth 7) })
  | 0x014 => core (fun k => { k with fxstat := k.fxstat &&& ~~~(v.setWidth 7) })
  | 0x020 => s.modMe (fun t => { t with bpt := t.bpt.set 0 0 (v &&& bptMask) })
  | 0x021 => s.modMe (fun t => { t with bpt := t.bpt.set 0 1 (v &&& bptMask) })
  | 0x022 => s.modMe (fun t => { t with bpt := t.bpt.set 0 2 (v &&& bptMask) })
  | 0x023 => s.modMe (fun t => { t with bpt := t.bpt.set 0 3 (v &&& bptMask) })
  | _ => s

/-- A system-register number outside the table of R239. -/
def sysCheck (f : FSY) : Option Raise := if sysregDefined f.imm then none else some (raise 0x02)

/-- MFSR (R239). -/
def execMfsr (f : FSY) (s : State) : Out :=
  s.run 2 (sysCheck f) (s.guard7 f.g) [f.d] (fun s => s.put f.d (s.sysRead f.imm.toNat))

/-- MTSR (R239). -/
def execMtsr (f : FSY) (s : State) : Out :=
  s.run 2 (sysCheck f) (s.guard7 f.g) [f.a] (fun s => .next (s.sysWrite f.imm.toNat (s.rx f.a)))

/-! ## Engine queues (R240) -/

/-- The queue x[a][3:0]; 14 and 15 are fault 0x02. -/
def State.namedQueue (s : State) (a : BitVec 5) (k : Nat → Done) : Done :=
  let q := bits (s.ux a) 0 4
  if 14 ≤ q then .fault s (raise 0x02) else k q

/-- QRES (R240): a queue not parked on a fault is unaffected. -/
def execQres (f : FSY) (s : State) : Out :=
  s.run 2 none (s.guard7 f.g) [f.a] (fun s => s.namedQueue f.a (fun q =>
    .next (s.unparkQueue s.myCore q (bit f.imm.toNat 0))))

/-- QMPC (R43, R240). -/
def execQmpc (f : FSY) (s : State) : Out :=
  s.run 2 none (s.guard7 f.g) [f.a, f.d] (fun s => s.namedQueue f.a (fun q =>
    s.put f.d (BitVec.ofNat 64 (bits ((s.queueOf s.myCore q).mpc).toNat (64 * bits f.imm.toNat 0 1) 64))))

/-- Word i of a fault record (R342). -/
def FaultRecord.word (r : FaultRecord) (i : Nat) : DWord :=
  match i with
  | 0 => r.summary
  | 1 => r.addr
  | 2 => r.lo.setWidth 64
  | 3 => (r.lo >>> 64).setWidth 64
  | 4 => r.hi.setWidth 64
  | 5 => (r.hi >>> 64).setWidth 64
  | 6 => r.place
  | _ => r.time

/-- RDFR (R240, R342). -/
def execRdfr (f : FSY) (s : State) : Out :=
  s.run 2 none (s.guard7 f.g) [f.d] (fun s => s.put f.d (s.me.record.word (bits f.imm.toNat 0 3)))

end Sys2Proof.Machine
end

