-- ==== Sys2Proof/Machine/Requests.lean ====
section
/-! DEFINITION. Request records and time instructions (spec/07_engine_commands.md, R235–R237;
spec/01_machine_state.md, R38–R41; spec/10_requests_steps_ticks.md, R293–R295, R306, R320). -/

namespace Sys2Proof.Machine

/-! ## Records -/

/-- State codes of R39. -/
def recState (s : State) (r : Nat) : Nat := s.recField r 0x00 1
def recGang (s : State) (r : Nat) : Nat := s.recField r 0x02 2
def recGroup (s : State) (r : Nat) : Nat := s.recField r 0x01 1

/-- The members of gang G: the records that are not FREE and name it (R306). -/
def State.gangMembers (s : State) (g : Nat) : List Nat :=
  (upto 0 4096).filter (fun r => recState s r != 0 && recGang s r == g)

/-- A request and its gang, or the request alone (R307). -/
def State.unitOf (s : State) (r : Nat) : List Nat := if recGang s r = 0 then [r] else s.gangMembers (recGang s r)

/-- The first bad field of a record, with its fault code and offset (R40). -/
def State.recordFault (s : State) (r : Nat) : Option (BitVec 8 × Nat) :=
  if 4 < s.recField r 0x1C 1 then some (0x02, 0x1C)
  else if 2 < s.recField r 0x1D 1 then some (0x02, 0x1D)
  else if s.recField r 0x1E 1 = 0 ∨ 8 < s.recField r 0x1E 1 then some (0x02, 0x1E)
  else if 8 < s.recField r 0x1F 1 then some (0x11, 0x1F)
  else if s.recField r 0x40 8 ≠ 0 ∧ s.recField r 0x40 8 ≤ s.recField r 0x10 8 then some (0x11, 0x40)
  else none

/-- The gang refuses a record (R306). -/
def State.gangRefuses (s : State) (r : Nat) : Bool :=
  let g := recGang s r
  let m := s.gangMembers g
  g != 0 && (decide (8 ≤ m.length) || m.any (fun i => recGroup s i != recGroup s r))

/-- A record that RSUBMIT finds malformed (R40, R306). -/
def State.refuseRecord (s : State) (r : Nat) (code : BitVec 8) (info : Nat) : State :=
  (((s.setRecField r 0x78 1 code.toNat).setRecField r 0x80 8 info).setRecField r 0x04 2 0xFFFF).setRecField r 0x00 1 5

/-- RSUBMIT: FREE to WAITING or FAULTED (R40, R293, R295, R306); the result. -/
def State.submit (s : State) (r : Nat) : BitVec 8 × State :=
  if recState s r ≠ 0 then (0x07, s)
  else match s.recordFault r with
    | some f => (f.1, s.refuseRecord r f.1 f.2)
    | none =>
      if s.gangRefuses r then (0x02, s.refuseRecord r 0x02 0x02)
      else
        let s := ((s.setRecField r 0x08 8 s.arrSeq.toNat).setRecField r 0x04 2 0xFFFF).setRecField r 0x00 1 1
        (0, { s with arrSeq := s.arrSeq + 1 })

/-- A pending action recorded (R294), refused in the states of R293. -/
def State.request294 (s : State) (r : Nat) (act : Act) : BitVec 8 × State :=
  let st := recState s r
  let refused := match act with
    | .resume => st != 4
    | _ => st == 0 || st == 5 || st == 6 || st == 7
  if refused then (0x07, s) else (0, { s with pendingActs := s.pendingActs ++ [(r, act)] })

/-- RFREE: the record's device and software fields are cleared, and pending actions discarded (R235, R293, R294). -/
def State.freeRecord (s : State) (r : Nat) : BitVec 8 × State :=
  let st := recState s r
  if st = 5 ∨ st = 6 ∨ st = 7 then
    let s := { s with pendingActs := s.pendingActs.filter (fun e => e.1 != r), kept := s.kept.set [] r [] }
    (0, s.putRecord (256 * r) 0xE0 0 (allBytes 0xE0))
  else (0x07, s)

/-- x[a][11:0] (R235). -/
def State.recordIndex (s : State) (f : FSY) : Nat := bits (s.ux f.a) 0 12

/-- A form that only the porch may execute (R235). -/
def State.porchOnly (s : State) (k : State → Done) : Done := if s.isPorch then k s else .fault s (raise 0x07)

/-- A record instruction whose result goes to x[d]. -/
def State.recordOp (s : State) (f : FSY) (act : State → Nat → BitVec 8 × State) : Done :=
  let r := act s (s.recordIndex f)
  r.2.put f.d (r.1.setWidth 64)

/-- RSUBMIT (R235). -/
def execRsubmit (f : FSY) (s : State) : Out :=
  s.run 2 none (s.guard7 f.g) [f.a, f.d] (fun s => s.porchOnly (fun s => s.recordOp f State.submit))

/-- RPARK (R235, R294). -/
def execRpark (f : FSY) (s : State) : Out :=
  s.run 2 none (s.guard7 f.g) [f.a, f.d] (fun s => s.porchOnly (fun s => s.recordOp f (fun s r => s.request294 r .park)))

/-- RRESUME (R235, R294). -/
def execRresume (f : FSY) (s : State) : Out :=
  s.run 2 none (s.guard7 f.g) [f.a, f.d] (fun s => s.porchOnly (fun s => s.recordOp f (fun s r => s.request294 r .resume)))

/-- RCANCEL (R235, R294). -/
def execRcancel (f : FSY) (s : State) : Out :=
  s.run 2 none (s.guard7 f.g) [f.a, f.d] (fun s => s.recordOp f (fun s r => s.request294 r .cancel))

/-- RFREE (R235). -/
def execRfree (f : FSY) (s : State) : Out :=
  s.run 2 none (s.guard7 f.g) [f.a, f.d] (fun s => s.porchOnly (fun s => s.recordOp f State.freeRecord))

/-! ## The vestibule's own accesses -/

/-- A .G load by the vestibule in address space `asid` (R311); a translation that is not present is 0x06 in fault mode, and in
park mode a miss for which the access waits (R283). -/
def State.vestLoad (s : State) (asid va n : Nat) : LoadRes × State :=
  if 2 ^ 52 ≤ va then (.fault 0x06, s)
  else match s.translate asid va n false false with
    | (.miss, s) => (.miss va, s)
    | (.fault c, s) => (.fault c, s)
    | (.ok pa pol, s) =>
      if pol = 1 then (if s.badPooled pa then .fault 0x0D else .val (bytesAt s.pooled pa n), s)
      else (if s.fillBad (pa / 64) then .fault 0x0D else .val (s.physNat pa n), s)

/-- A .G store by the vestibule, performed at .pkg. -/
def State.vestStore (s : State) (asid va n v : Nat) : StoreRes × State :=
  if 2 ^ 52 ≤ va then (.fault 0x06, s)
  else match s.translate asid va n true false with
    | (.miss, s) => (.miss va, s)
    | (.fault c, s) => (.fault c, s)
    | (.ok pa pol, s) =>
      if pol = 1 then (if s.badPooled pa then (.fault 0x0D, s) else (.done, s.uncachedStore pa n v (allBytes n)))
      else if s.fillBad (pa / 64) then (.fault 0x0D, s)
      else (.done, s.storePhys pa n v (allBytes n))

/-! ## Slots -/

/-- The entry of slot n of core c's table; a number past the table names no slot. -/
def State.slotAt (s : State) (c n : Nat) : Nat := if n < 512 then s.slotEntry c n else 0

/-- The slot holds a request this step and is not masked. -/
def slotLive (e : Nat) : Bool := slotValid e && !slotMasked e

def SlotInfo.none : SlotInfo := ⟨0, false, false, false, 0, 0, 0, 0, 0, false, 0, 0⟩
def Group.slot (g : Group) (n : Nat) : SlotInfo := (g.slots.get none n).getD SlotInfo.none
def State.modSlot (s : State) (g n : Nat) (f : SlotInfo → SlotInfo) : State :=
  s.setGroup g { s.group g with slots := (s.group g).slots.set none n (some (f ((s.group g).slot n))) }

/-- An access of REMIT that cannot be made: a precise fault, a translation to wait for, or an error in the output ring, which
is the request's own and leaves −2 (R320; DEDUCED, log 22). -/
def State.emitFails (s : State) (f : FSY) (n addr : Nat) : LoadRes → Done
  | .fault c =>
    if c = 0x0D then (s.slotFault s.myCore n 0x0D addr).put f.d (dword (-2)) else .fault s (raiseAt c addr s.me.cls)
  | _ => s.parkMiss addr s.me.cls

/-- A load of REMIT, checked as one of the strand (R236). -/
def State.emitLoad (s : State) (f : FSY) (slot addr n : Nat) (k : State → Nat → Done) : Done :=
  match s.checkAccess s.cur 2 addr n false s.me.cls with
  | some r => .fault s r
  | none => match s.readSpace s.cur 2 addr n true with
    | (.val v, s) => k s v
    | (r, s) => s.emitFails f slot addr r

/-- Stores of REMIT, address, size and value: all of them, or what the first that fails raises (R236). -/
def State.emitStores (s : State) : List (Nat × Nat × Nat) → (Raise ⊕ LoadRes × Nat) ⊕ State
  | [] => .inr s
  | (addr, n, v) :: rest =>
    match s.checkAccess s.cur 2 addr n true s.me.cls with
    | some r => .inl (.inl r)
    | none => match s.writeSpace s.cur 2 addr n v (allBytes n) s.me.cls true with
      | (.fault c, _) => .inl (.inr (.fault c, addr))
      | (.miss va, _) => .inl (.inr (.miss va, addr))
      | (_, s) => s.emitStores rest

/-- The slot's token is one of its stop tokens (R236). -/
def State.isStop (s : State) (r token : Nat) : Bool :=
  (upto 0 (s.recField r 0x1F 1)).any (fun i => s.recField r (0x50 + 4 * i) 4 == token)

/-- REMIT past its release (R236, R348); a store that cannot be made leaves none of the others done (R8). -/
def State.emit (s : State) (f : FSY) (g n : Nat) (e token : Nat) : Done :=
  let r := slotRec e
  let ring := s.recField r 0x38 8
  let i := (s.group g).slot n
  let seq := i.startSeq.toNat + i.emitted + 1
  let counted (s : State) : State := s.modSlot g n (fun i => { i with emitted := i.emitted + 1 })
  let stopped (s : State) (b : Bool) : State := if b then s.modSlot g n (fun i => { i with stopHit := true }) else s
  s.emitLoad f n ring 8 (fun s commit => s.emitLoad f n (ring + 8) 8 (fun s read => s.emitLoad f n (ring + 16) 4 (fun s cap =>
    let entry := ring + 0x40 + 16 * ((seq - 1) % cap)
    if seq ≤ commit then
      s.emitLoad f n (entry + 4) 4 (fun s flags => (stopped (counted s) (bit flags 0)).put f.d (BitVec.allOnes 64))
    else if read + cap < seq then s.put f.d (dword (-3))
    else
      let stop := s.isStop r token
      let flags := stop.toNat + 2 * (bit e 14).toNat
      match s.emitStores [(entry, 8, token + 2 ^ 32 * flags), (entry + 8, 8, seq), (ring, 8, seq)] with
      | .inl (.inl r) => .fault s r
      | .inl (.inr (res, addr)) => s.emitFails f n addr res
      | .inr s => (stopped (counted (s.setRecField r 0x70 8 seq)) stop).put f.d (BitVec.ofNat 64 seq))))

/-- REMIT (R236): a release at .sys. A slot that is invalid or masked, or a strand of no batch group, gives −2. -/
def execRemit (f : FSY) (s : State) : Out :=
  s.run 2 none (s.guard7 f.g) [f.a, f.b, f.d] (fun s => s.release true (fun s =>
    let n := s.recordIndex f
    let e := s.slotAt s.myCore n
    match s.myGroup with
    | some g => if slotLive e then s.emit f g n e (bits (s.ux f.b) 0 32) else s.put f.d (dword (-2))
    | none => s.put f.d (dword (-2))))

/-- The core whose slot table RFLT acts on: the strand's, or for the porch one of the partition whose open step holds the
slot (DEDUCED, log 20), and that is not fenced (R345). -/
def State.faultCore (s : State) : Option Nat :=
  match s.cur with
  | .strand c _ => some c.toNat
  | .porch q => ((s.partRect (s.queueDesc q.toNat).part.toNat).cores).find? (fun c => !(s.core c).fenced)

/-- The group whose opening waits for HOLD slots on the agent's partition (R292, R313). -/
def State.holdGroup (s : State) : Option Nat :=
  (upto 0 16).find? (fun g => (s.group g).phase == .hold && (s.group g).cfg.part.toNat == s.partOf s.cur)

/-- What the opening of a step writes to the record of a slot whose ring it has read (R40, R312, R313). -/
def State.noteInput (s : State) (i : SlotInfo) : State :=
  let s := s.setRecField i.record 0x28 8 i.last.toNat
  let s := if i.late then s.setRecField i.record 0x7C 4 (s.recField i.record 0x7C 4 + 1) else s
  if i.drop = 0 then s else s.setRecField i.record 0x88 4 (s.recField i.record 0x88 4 + i.drop)

/-- A per-request fault found in the opening, before the slot's entry is written (R303, R311, R320, R321): the slot takes no
input and its entry is written empty. -/
def State.openFault (s : State) (g n : Nat) (code : BitVec 8) (info : Nat) : State :=
  let i := (s.group g).slot n
  let s := s.noteInput i
  let s := ((s.setRecField i.record 0x78 1 code.toNat).setRecField i.record 0x80 8 info).setRecField i.record 0x00 1 5
  let v := s.group g
  s.setGroup g { v with nRfault := v.nRfault + 1, slots := v.slots.set none n none }

/-- RFLT past its checks (R235, R320, R321): a slot that is invalid or already masked is left alone (R305). While an opening
waits, the slots are those of the opening (R303). -/
def State.faultSlot (s : State) (n : Nat) (code : BitVec 8) : State :=
  match s.holdGroup with
  | some g => if ((s.group g).slots.get none n).isSome then s.openFault g n code 0 else s
  | none =>
    match s.faultCore with
    | some c => if slotLive (s.slotAt c n) then s.slotFault c n code 0 else s
    | none => s

/-- RFLT (R235): a zero code is fault 0x02. -/
def execRflt (f : FSY) (s : State) : Out :=
  s.run 2 (if bits f.imm.toNat 0 8 = 0 then some (raise 0x02) else none) (s.guard7 f.g) [f.a] (fun s =>
    .next (s.faultSlot (s.recordIndex f) (BitVec.ofNat 8 f.imm.toNat)))

/-- RREC (R235). -/
def execRrec (f : FSY) (s : State) : Out :=
  s.run 2 none (s.guard7 f.g) [f.a, f.d] (fun s =>
    let e := s.slotAt s.myCore (s.recordIndex f)
    s.put f.d (if slotLive e then BitVec.ofNat 64 (slotRec e) else BitVec.allOnes 64))

/-! ## Time instructions (R237, R308) -/

/-- The check of a strand that names its own group: the a field is zero, and it has one (R86, R237). -/
def State.ownGroup (s : State) (f : FSY) (aZero : Bool) : Option Raise :=
  if s.isPorch then none
  else if aZero && f.a != 0 then some (raise 0x02)
  else if s.myGroup.isNone then some (raise 0x07)
  else none

/-- The group a time instruction names. -/
def State.namedGroup (s : State) (f : FSY) : Nat := if s.isPorch then bits (s.ux f.a) 0 4 else s.myGroup.getD 0

/-- TNEXT (R237). -/
def execTnext (f : FSY) (s : State) : Out :=
  s.run 2 (s.ownGroup f true) (s.guard7 f.g) [f.a, f.d] (fun s =>
    let g := s.group (s.namedGroup f)
    s.put f.d (if g.ticking then BitVec.ofNat 64 g.nextTick else 0))

/-- TCFG (R237, R308): while ticks run, from the tick after the next. -/
def execTcfg (f : FSY) (s : State) : Out :=
  s.run 2 none (s.guard7 f.g) [f.a, f.b, f.d] (fun s => s.porchOnly (fun s =>
    let n := s.namedGroup f
    let g := s.group n
    let period := s.ux f.b
    if period < 10 ^ 6 ∨ 10 ^ 9 < period then .fault s (raise 0x02)
    else
      let v := if g.ticking then
          { g with pending := g.pending.filter (fun e => e.2.2 != g.tickNo + 2) ++ [(period, f.imm.toNat, g.tickNo + 2)] }
        else { g with period := period, lag := f.imm.toNat }
      (s.setGroup n v).put f.d (BitVec.ofNat 64 g.period)))

/-- The group after tick n + 1 has fired. A period that holds from tick n + 2 on is the interval before that tick (DESIGN CHOICE,
log 82). The tick overruns where R309 says, also while a ladder holds the partition: none is added for the first tick after a
commit (R339; DESIGN CHOICE, log 83). -/
def Group.fire (g : Group) : Group :=
  let n := g.tickNo + 1
  let now := g.pending.find? (fun e => decide (e.2.2 ≤ n))
  let period := match now with | some (p, _, _) => p | none => g.period
  let lag := match now with | some (_, l, _) => l | none => g.lag
  let next := match g.pending.find? (fun e => e.2.2 == n + 1) with | some (p, _, _) => p | none => period
  { g with
    tickNo := n, tickTime := g.nextTick, nextTick := g.nextTick + next, period := period, lag := lag
    pending := g.pending.filter (fun e => decide (n < e.2.2)), waiting := true
    overrun := if g.phase ≠ .idle ∨ g.waiting then g.overrun + 1 else g.overrun }

/-- A group's ticks whose times have passed (R308). -/
def Group.fireTo (now : Nat) : Nat → Group → Group
  | 0, g => g
  | fuel + 1, g => if g.ticking ∧ g.nextTick ≤ now then Group.fireTo now fuel g.fire else g

/-- A bound on a group's ticks up to `now`: a period is at least 1 ms (R237). -/
def Group.dueBound (now : Nat) (g : Group) : Nat := if g.ticking then (now + 1 - g.nextTick) / 1000000 + 1 else 0

/-- The ticking group whose next tick is due first, at or before the time base. -/
def State.dueTick (s : State) : Option Nat :=
  (s.groups.foldl (fun (best : Option (Nat × Nat)) e =>
    if e.2.ticking ∧ e.2.nextTick ≤ s.tai then
      match best with
      | some (t, _) => if e.2.nextTick < t then some (e.2.nextTick, e.1) else best
      | none => some (e.2.nextTick, e.1)
    else best) none).map (fun b => b.2)

/-- Fires the ticks whose times have passed, in order (R308, R374). -/
def State.fireDue : Nat → State → State
  | 0, s => s
  | fuel + 1, s =>
    match s.dueTick with
    | some g => State.fireDue fuel (s.setGroup g (s.group g).fire)
    | none => s

/-- Ticks that may be due. -/
def State.dueBound (s : State) : Nat := (s.groups.map (fun (e : Nat × Group) => e.2.dueBound s.tai)).sum

/-- TARM (R237, R308): a stop takes effect when no step is open, else at the commit of the open one; a period to come is
then in force (DEDUCED, log 21). -/
def Group.stop (g : Group) : Group :=
  let g := match g.pending.getLast? with
    | some (p, l, _) => { g with period := p, lag := l, pending := [] }
    | none => g
  { g with ticking := false, stopping := false, waiting := false }

/-- TARM (R237). -/
def execTarm (f : FSY) (s : State) : Out :=
  s.run 2 none (s.guard7 f.g) [f.a, f.b] (fun s => s.porchOnly (fun s =>
    let n := s.namedGroup f
    let g := s.group n
    if bit f.imm.toNat 0 then
      if g.period = 0 then .fault s (raise 0x02)
      else
        let first := if s.rx f.b = 0 then (s.tai / g.period + 1) * g.period else s.ux f.b
        let v := { g with ticking := true, stopping := false, nextTick := first }
        .next (s.setGroup n (Group.fireTo s.tai (v.dueBound s.tai) v))
    else
      let v := if g.phase = .idle then g.stop else { g with stopping := g.ticking }
      .next (s.setGroup n v)))

/-- How accesses of the vestibule end: with a result, with a fault and what it names, or at an address whose translation is
waited for in park mode (R283, R311). -/
inductive Vest (α : Type) where
  | ok (a : α)
  | fault (code : BitVec 8) (info : Nat)
  | miss (va : Nat)

/-- The ingest ring at `ring`: wr, rd and cap (R311). -/
def State.ingestHead (s : State) (asid ring : Nat) : Vest (Nat × Nat × Nat) × State :=
  if ring % 64 ≠ 0 then (.fault 0x02 0x30, s)
  else match s.vestLoad asid ring 16 with
    | (.val v, s) =>
      match s.vestLoad asid (ring + 16) 4 with
      | (.val cap, s) =>
        let wr := bits v 0 64
        let rd := bits v 64 64
        if cap < 16 ∨ 2 ^ 24 < cap ∨ cap &&& (cap - 1) ≠ 0 ∨ cap < (wr + 2 ^ 64 - rd) % 2 ^ 64 then (.fault 0x02 0x30, s)
        else (.ok (wr, rd, cap), s)
      | (.fault c, s) => (.fault c (ring + 16), s)
      | (.miss va, s) => (.miss va, s)
    | (.fault c, s) => (.fault c ring, s)
    | (.miss va, s) => (.miss va, s)

/-- The translation-miss event of the vestibule's access for a partition (R283). -/
def State.ingestMiss (s : State) (p va : Nat) : State :=
  s.addEvent p ⟨2, { FaultRecord.none with
    code := 0x06, info := BitVec.ofNat 40 va, source := 14, prec := 1, addr := BitVec.ofNat 64 va, time := BitVec.ofNat 64 s.tai }⟩

/-- A fault of the ring of slot n, found by TSTAMP: a per-request fault on the slot, unless it is masked (R237, R320). -/
def State.stampFault (s : State) (n : Nat) (code : BitVec 8) (info : Nat) : State :=
  if slotMasked (s.slotAt s.myCore n) then s else s.slotFault s.myCore n code info

/-- TSTAMP (R237): 0 when the ring is empty or the slot invalid; a fault of the ring is a per-request fault on the slot, and
the result is 0 (R320; DEDUCED, log 22). -/
def execTstamp (f : FSY) (s : State) : Out :=
  s.run 2 (s.ownGroup f false) (s.guard7 f.g) [f.a, f.d] (fun s =>
    let n := s.recordIndex f
    let e := s.slotAt s.myCore n
    let ring := s.recField (slotRec e) 0x30 8
    let asid := s.asidOf s.cur
    let bad (s : State) (c : BitVec 8) (info : Nat) : Done := (s.stampFault n c info).put f.d 0
    let miss (s : State) (va : Nat) : Done :=
      .park (s.ingestMiss (s.partOf s.cur) va) (.ingest va (s.tai + 1000000) n f.d)
    if !slotValid e || ring == 0 then s.put f.d 0
    else match s.ingestHead asid ring with
      | (.fault c info, s) => bad s c info
      | (.miss va, s) => miss s va
      | (.ok (wr, rd, cap), s) =>
        if wr = rd then s.put f.d 0
        else
          let at_ := ring + 0x40 + 16 * (rd % cap) + 8
          match s.vestLoad asid at_ 8 with
          | (.val v, s) => s.put f.d (BitVec.ofNat 64 v)
          | (.fault c, s) => bad s c at_
          | (.miss va, s) => miss s va)

/-! ## Parked translations (R283) -/

/-- TRANSLATION_RETRY (R283): the walk of a parked access is made again. A fault of it waits for the loads before it (R145). -/
def execTranslationRetry (a : Agent) (s : State) : Out :=
  .next (s.asAgent a (fun s =>
    match s.me.run with
    | .parked (.translation va cls _) =>
      match s.walk (s.asidOf s.cur) va false with
      | (.ok _ _ _, s) => s.modMe (fun t => { t with run := .ready })
      | (.notPresent _, s) => s
      | (.beyond, s) => if s.me.far.isEmpty then s.takeFault (raiseAt 0x06 va cls) else s
    | .parked (.ingest va _ _ _) =>
      match s.walk (s.asidOf s.cur) va false with
      | (.notPresent _, s) => s
      | (_, s) => s.modMe (fun t => { t with run := .ready })
    | _ => s.drain s.cur))

/-- TRANSLATION_PARK_TIMEOUT (R283): 1 ms without success is fault 0x06; that of TSTAMP's ingest ring is the slot's own, and
its result is 0 (log 22). -/
def execTranslationParkTimeout (a : Agent) (s : State) : Out :=
  .next (s.asAgent a (fun s =>
    match s.me.run with
    | .parked (.translation va cls due) => if due ≤ s.tai ∧ s.me.far.isEmpty then s.takeFault (raiseAt 0x06 va cls) else s
    | .parked (.ingest va due n d) =>
      if due ≤ s.tai then (((s.stampFault n 0x06 va).wx d 0).modMe (fun t => { t with run := .ready })).retire 2 else s
    | _ => s.drain s.cur))

end Sys2Proof.Machine
end

