-- ==== Sys2Proof/Machine/Vestibule.lean ====
section
/-! DEFINITION. The vestibule: ticks, the opening of a step, its commit, and the settle
(spec/10_requests_steps_ticks.md, R290–R317). -/

namespace Sys2Proof.Machine

/-! ## The group block (R290, R291) -/

/-- The V fields of a group's block, written as one unit at .pkg (R290). -/
def State.writeGroupBlock (s : State) (g : Nat) : State :=
  let v := s.group g
  let part (s : State) (off n x : Nat) : State := s.setAs0 (s.cfg.groupBlocks + 256 * g + off) n x
  let s := part s 0x20 8 v.period
  let s := part s 0x28 8 (v.lag + 2 ^ 32 * (v.ticking.toNat + 2 * (decide (v.phase = .open)).toNat))
  let s := part s 0x30 8 v.cstep.toNat
  let s := part s 0x38 8 v.stepTick
  let s := part s 0x40 8 v.tOpen
  let s := part s 0x48 8 v.stepNs
  let s := part s 0x50 8 (v.overrun % 2 ^ 32 + 2 ^ 32 * (v.lateEv % 2 ^ 32))
  let s := part s 0x58 8 (v.nAdm % 2 ^ 32 + 2 ^ 32 * (v.nEvict % 2 ^ 32))
  let s := part s 0x60 8 (v.nRet % 2 ^ 32 + 2 ^ 32 * (v.nRfault % 2 ^ 32))
  part s 0x68 8 v.ccmpl.toNat

/-- The P fields that a block holds (R290). -/
def State.blockFields (s : State) (g : Nat) : GroupCfg :=
  let rd (off n : Nat) : Nat := s.as0Nat (s.cfg.groupBlocks + 256 * g + off) n
  { en := bit (rd 0 4) 0, b1 := bit (rd 0 4) 1, acommit := bit (rd 0 4) 2, nslot := rd 4 2,
    part := BitVec.ofNat 3 (rd 6 1), nExp := rd 7 1, inMax := rd 8 2, kvres := rd 0x0A 2, nfl := rd 0x0C 4,
    fltab := BitVec.ofNat 64 (rd 0x10 8), stage := BitVec.ofNat 64 (rd 0x18 8) }

/-- Another active group runs on partition p (R322). -/
def State.sharesPart (s : State) (g : Nat) (p : BitVec 3) : Bool :=
  (upto 0 16).any (fun h => h != g && (s.group h).cfg.en && (s.group h).cfg.part == p)

/-- The offset of the first bad field of a block (R291, R322). For b1 = 1 with another nslot or a shared partition, where R322
names no field, it is that of ctl, which holds b1 (DESIGN CHOICE, log 94). -/
def State.blockFault (s : State) (g : Nat) : Option Nat :=
  let b := s.blockFields g
  let part := s.as0Nat (s.cfg.groupBlocks + 256 * g + 6) 1
  if b.b1 && (b.nslot != 1 || decide (part ≤ 7) && s.sharesPart g b.part) then some 0x00
  else if b.nslot = 0 ∨ 512 < b.nslot then some 0x04
  else if 7 < part ∨ !(s.part part).en then some 0x06
  else if b.nExp = 0 then some 0x07
  else if b.inMax < b.nExp then some 0x08
  else if b.nfl = 0 ∨ 64 < b.nfl then some 0x0C
  else if b.stage.toNat % 64 ≠ 0 then some 0x18
  else none

/-- A notice of the vestibule to the porch (R291, R317, R328 reason 6). -/
def State.notice (s : State) (g info : Nat) : State :=
  s.addEvent (s.group g).cfg.part.toNat
    ⟨6, { FaultRecord.none with
      code := 0x02, info := BitVec.ofNat 40 info, source := 14, time := BitVec.ofNat 64 s.tai }⟩

/-! ## Requests of a group -/

/-- The records of group g that are not FREE. -/
def State.groupRecords (s : State) (g : Nat) : List Nat :=
  (upto 0 4096).filter (fun r => recState s r != 0 && recGroup s r == g)
def recSlot (s : State) (r : Nat) : Nat := s.recField r 0x04 2
/-- The record of group g that holds slot n. -/
def State.slotHolder (s : State) (recs : List Nat) (n : Nat) : Option Nat := recs.find? (fun r => recSlot s r == n)

/-- P fields as the settle takes them (R291): a lowered nslot waits for the slots above it to be free, which is looked at as a
settle begins, so that the settle that frees the last of them still admits under the old nslot (DESIGN CHOICE, log 79). -/
def State.takeBlock (s : State) (g : Nat) : State :=
  let s := s.readAs0 (s.cfg.groupBlocks + 256 * g)
  match s.blockFault g with
  | some off => s.notice g off
  | none =>
    let b := s.blockFields g
    let held := (s.groupRecords g).any (fun r => decide (b.nslot ≤ recSlot s r) && recSlot s r != 0xFFFF)
    s.setGroup g { s.group g with cfg := { b with nslot := if held then max b.nslot (s.group g).cfg.nslot else b.nslot } }

/-! ## Ticks (R308, R309) -/

/-- TICK (R308): it fires when the time base has reached its time. -/
def execTick (g : GroupId) (s : State) : Out :=
  .next (let v := s.group g.toNat
    if v.ticking ∧ v.nextTick ≤ s.tai then s.setGroup g.toNat v.fire else s)

/-! ## Ingest (R311–R314) -/

/-- What the consumption of one ingest ring has done so far. -/
structure Taken where
  rd : Nat
  n : Nat
  w : Nat
  drop : Nat
  last : Nat
  staged : List (BitVec 128)
  deriving DecidableEq, Repr

/-- An entry of the step-input area (R314). -/
def stageEntry (token : Nat) (fill late : Bool) (stamp : Nat) : BitVec 128 :=
  BitVec.ofNat 128 (token + 2 ^ 32 * fill.toNat + 2 ^ 33 * late.toNat + 2 ^ 64 * stamp)

/-- The loop of R312. -/
def State.takeEntries (asid ring wr cap inMax : Nat) (hi : Int) (p : Nat) : Nat → State → Taken → Vest Taken × State
  | 0, s, t => (.ok t, s)
  | fuel + 1, s, t =>
    if t.rd = wr ∨ inMax ≤ t.n then (.ok t, s)
    else
      let at_ := ring + 0x40 + 16 * (t.rd % cap)
      match s.vestLoad asid at_ 16 with
      | (.fault c, s) => (.fault c at_, s)
      | (.miss va, s) => (.miss va, s)
      | (.val e, s) =>
        let stamp := bits e 64 64
        if hi < stamp then (.ok t, s)
        else
          let rd := (t.rd + 1) % 2 ^ 64
          if stamp ≤ t.last ∨ (t.last ≠ 0 ∧ (stamp : Int) ≤ hi - p - p) then
            State.takeEntries asid ring wr cap inMax hi p fuel s { t with rd := rd, drop := t.drop + 1 }
          else
            State.takeEntries asid ring wr cap inMax hi p fuel s
              { rd := rd, n := t.n + 1, w := t.w + (decide (hi - p < stamp)).toNat, drop := t.drop, last := stamp
                staged := t.staged ++ [stageEntry (bits e 0 32) false (decide ((stamp : Int) ≤ hi - p)) stamp] }

/-- Stage entries of slot n of group g from index i on, written at .pkg (R314): the address of the first whose translation is
waited for in park mode, unless its time is over, `gaveUp` (R283). An entry whose address does not translate is not written (log 23). -/
def State.stageWrite (gaveUp : Nat → Bool) (s : State) (g n : Nat) : Nat → List (BitVec 128) → Option Nat × State
  | _, [] => (none, s)
  | i, e :: rest =>
    let c := (s.group g).cfg
    let va := c.stage.toNat + 16 * (c.inMax * n + i)
    match s.vestStore (s.part c.part.toNat).asid.toNat va 16 e.toNat with
    | (.miss _, s) => if gaveUp va then State.stageWrite gaveUp s g n (i + 1) rest else (some va, s)
    | (_, s) => State.stageWrite gaveUp s g n (i + 1) rest

/-- Input of slot n from its ring, after `n0` entries taken and `w0` of them in the window (R312): the new counts. Nothing has
been taken while a translation is waited for. -/
def State.takeInput (gaveUp : Nat → Bool) (s : State) (g n n0 w0 : Nat) : Vest (Nat × Nat) × State :=
  let v := s.group g
  let asid := (s.part v.cfg.part.toNat).asid.toNat
  let i := v.slot n
  let ring := s.recField i.record 0x30 8
  match s.ingestHead asid ring with
  | (.fault c info, s) => (.fault c info, s)
  | (.miss va, s) => (.miss va, s)
  | (.ok (wr, rd, cap), s) =>
    match State.takeEntries asid ring wr cap v.cfg.inMax v.winHi v.winP ((wr + 2 ^ 64 - rd) % 2 ^ 64) s
        ⟨rd, n0, w0, i.drop, i.last.toNat, []⟩ with
    | (.fault c info, s) => (.fault c info, s)
    | (.miss va, s) => (.miss va, s)
    | (.ok t, s) =>
      match State.stageWrite gaveUp s g n n0 t.staged with
      | (some va, s) => (.miss va, s)
      | (none, s) =>
        match (if t.rd = rd then (StoreRes.done, s) else s.vestStore asid (ring + 8) 8 t.rd) with
        | (.fault c, s) => (.fault c (ring + 8), s)
        | (.miss va, s) => (.miss va, s)
        | (_, s) => (.ok (t.n, t.w), s.modSlot g n (fun i => { i with last := BitVec.ofNat 64 t.last, drop := t.drop }))

/-- Fill entries of a short window (R313, FILL): how many. -/
def fillCount (n w nExp inMax : Nat) : Nat := min (nExp - w) (inMax - n)

/-- The time to wait for the translation of `va` is over. -/
def Hold.late (h : Hold) (now va : Nat) : Bool :=
  match h.missed with
  | some (a, due) => a / 65536 == va / 65536 && decide (due ≤ now)
  | none => false

/-- The opening waits for the translation of `va` on behalf of a slot: the event is posted with the first walk (R283); 1 ms later
it is fault 0x06, the slot's own (R311, R320). -/
def State.holdMiss (s : State) (g : Nat) (h : Hold) (va : Nat) : Option Hold × State :=
  if h.late s.tai va then (none, s.openFault g h.slot 0x06 va)
  else if h.missed.any (fun m => m.1 / 65536 == va / 65536) then (some h, s)
  else (some { h with missed := some (va, s.tai + 1000000) }, s.ingestMiss (s.group g).cfg.part.toNat va)

/-- A slot whose window is short at T(k): its policy decides (R313). -/
def State.shortWindow (s : State) (g : Nat) (h : Hold) : Option Hold × State :=
  let v := s.group g
  let n := h.slot
  let r := (v.slot n).record
  let s := s.setGroup g { v with short := true }
  match s.recField r 0x1D 1 with
  | 0 => (some { h with due := some (v.openTime + s.recField r 0x20 4) }, s.modSlot g n (fun i => { i with inCount := h.cnt, late := true }))
  | 1 => (none, s.modSlot g n (fun i => { i with inCount := h.cnt, late := true, gap := true }))
  | _ =>
    let fills := fillCount h.cnt h.w v.cfg.nExp v.cfg.inMax
    let e := stageEntry (s.recField r 0x24 4) true false (v.winHi.toNat)
    match State.stageWrite (h.late s.tai) s g n h.cnt (List.replicate fills e) with
    | (some va, s) => s.holdMiss g h va
    | (none, s) => (none, s.modSlot g n (fun i => { i with inCount := h.cnt + fills, late := true }))

/-- The kept entries of a request, staged ahead of its ring (R346): the slot with what it has then, and what it waits for. -/
def State.stageKept (s : State) (g : Nat) (h : Hold) : Option Nat × Hold × State :=
  let r := ((s.group g).slot h.slot).record
  let kept := (s.kept.get [] r).take (s.group g).cfg.inMax
  match State.stageWrite (h.late s.tai) s g h.slot h.cnt kept with
  | (some va, s) => (some va, h, s)
  | (none, s) => (none, { h with cnt := h.cnt + kept.length }, { s with kept := s.kept.set [] r [] })

/-- A slot takes what has arrived (R312, R313): at T(k), and again while it waits. It is done when its window is full, its
grace is over or its policy does not wait. -/
def State.holdSlot (s : State) (g : Nat) (h : Hold) : Option Hold × State :=
  let n := h.slot
  if ((s.group g).slots.get none n).isNone then (none, s)
  else match s.stageKept g h with
  | (some va, h, s) => s.holdMiss g h va
  | (none, h, s) =>
    match State.takeInput (h.late s.tai) s g n h.cnt h.w with
    | (.fault c info, s) => (none, s.openFault g n c info)
    | (.miss va, s) => s.holdMiss g h va
    | (.ok (cnt, w), s) =>
      let h := { h with cnt := cnt, w := w }
      if (s.group g).cfg.nExp ≤ w then (none, s.modSlot g n (fun i => { i with inCount := cnt }))
      else match h.due with
      | none => s.shortWindow g h
      | some due =>
        if due ≤ s.tai then (none, s.modSlot g n (fun i => { i with inCount := cnt, gap := true }))
        else (some h, s.modSlot g n (fun i => { i with inCount := cnt }))

/-- consume of R312 and R313 for slot n at T(k). The slot of an ADMITTED request takes nothing, as R312 says; what R346 has kept for it
is taken by the step after (DESIGN CHOICE, log 95). -/
def State.consume (s : State) (g n r : Nat) : State :=
  let info : SlotInfo := { SlotInfo.none with
    record := r, pos := BitVec.ofNat 64 (s.recField r 0x10 8), startSeq := BitVec.ofNat 64 (s.recField r 0x70 8)
    last := BitVec.ofNat 64 (s.recField r 0x28 8) }
  let put (s : State) (i : SlotInfo) : State := s.modSlot g n (fun _ => i)
  if recState s r = 2 then put s info
  else if s.recField r 0x30 8 = 0 then put s { info with inCount := 1 }
  else
    match (put s info).holdSlot g ⟨n, 0, 0, none, none⟩ with
    | (some h, s) => s.setGroup g { s.group g with holds := (s.group g).holds ++ [h] }
    | (none, s) => s

/-- Every slot that the opening waits for looked at. -/
def State.holdSlots (s : State) (g : Nat) : State :=
  let hs := (s.group g).holds
  let r := hs.foldl (fun (acc : List Hold × State) h =>
    match acc.2.holdSlot g h with
    | (some h, s) => (acc.1 ++ [h], s)
    | (none, s) => (acc.1, s)) ([], s)
  r.2.setGroup g { r.2.group g with holds := r.1 }

/-! ## The slot table (R41, R304, R316) -/

/-- Tokens of a list entry at or after `cut`, all of a pinned page (R316). -/
def State.entryTokens (s : State) (e : Nat) (cut : Option Int) : Nat :=
  let surv := s.entSurv e
  match cut with
  | some c => if s.entPinned e then countOnes 64 surv
      else ((upto 0 64).filter (fun t => surv.testBit t && decide (c ≤ s.entPos e + t))).length
  | none => countOnes 64 surv

/-- kv_len of a slot (R316): of the new tokens, those that fill up a pinned page count whatever their position. -/
def State.kvLen (s : State) (r n : Nat) : Nat :=
  let pos := s.recField r 0x10 8
  let win := s.recField r 0x18 4
  let cut : Option Int := if win = 0 then none else some ((pos : Int) + n - win)
  let l := s.kvList r 0
  let last := kvEntry l (s.kvPages l - 1)
  let room := if s.kvPages l ≠ 0 ∧ s.entPinned last then 64 - s.entUsed last else 0
  let new := match cut with
    | none => n
    | some c => ((upto 0 n).filter (fun t => decide (t < room) || decide (c ≤ pos + t))).length
  ((s.kvEntries l).map (fun e => s.entryTokens e cut)).sum + new

/-- The table entry of a slot (R41). -/
def slotWord (i : SlotInfo) : Nat :=
  i.record + 2 ^ 12 + 2 ^ 13 * i.masked.toNat + 2 ^ 14 * i.gap.toNat + 2 ^ 15 * i.late.toNat +
    2 ^ 16 * (i.inCount % 2 ^ 16) + 2 ^ 32 * (i.kvLen % 2 ^ 32) + 2 ^ 64 * i.pos.toNat

/-- The valid slots of a step, in increasing order. -/
def Group.validSlots (g : Group) : List Nat := g.slots.map (fun e => e.1)

/-- The slot table written to core c (R41, R304). -/
def State.writeTable (s : State) (c : Nat) (table : List (Nat × Nat)) : State :=
  let base := 0x2FE000
  let s := s.modCore c (fun k => { k with
    scratch := table.foldl (fun m e => setBytes m (base + 16 * e.1) 16 e.2) (setBytes k.scratch base 8192 0) })
  s.noteScratch c base 8192

/-- Field i of a wid given a value, which keeps its low bits (R19, R35). -/
def Strand.setWidField (t : Strand) (i : Nat) (v : Nat) : Strand :=
  { t with wid := BitVec.ofNat 64 (putBits t.wid.toNat ((t.widths.take i).sum) (t.widths.getD i 0) v) }

/-- The role-4 value of strand k of the core with index i (R333). -/
def Plane.slotOf (p : Plane) (valid : List Nat) (i k : Nat) : Nat :=
  (valid[p.sbase + i * p.sstride + k]?).getD (2 ^ 64 - 1)

/-- Role-4 fields of the strands of core c at an opening (R35, R333). -/
def State.bindSlots (s : State) (g c : Nat) : State :=
  match (s.core c).active with
  | none => s
  | some p =>
    let i := (s.partRect p.part.toNat).coreIndex c
    let valid := (s.group g).validSlots
    s.modCore c (fun k => { k with strands := k.strands.map (fun e =>
      (e.1, (upto 0 6).foldl (fun t j => if p.roles.getD j 0 = 4 then t.setWidField j (p.slotOf valid i e.1) else t) e.2)) })

/-- The strands of core c parked in WAIT.STEP go on. -/
def State.wakeSteps (s : State) (c : Nat) : State :=
  (upto 0 8).foldl (fun s k =>
    s.asAgent (.strand (BitVec.ofNat 5 c) (BitVec.ofNat 3 k)) (fun s =>
      if s.me.run = .parked .step then s.completeWait true else s)) s

/-- The cores of group g's partition. -/
def State.groupCores (s : State) (g : Nat) : List Nat := (s.partRect (s.group g).cfg.part.toNat).cores

/-- The cores whose operator is a step program of group g. -/
def State.stepCores (s : State) (g : Nat) : List Nat := (s.groupCores g).filter (fun c => s.groupOfCore c == some g)

/-- The table of the step and its WAIT.STEPs (R304): what an opening ends with, and a re-run begins with. -/
def State.startStep (s : State) (g : Nat) : State :=
  let v := s.group g
  let table := v.slots.filterMap (fun e => match e.2 with
    | some i => some (e.1, slotWord i)
    | none => none)
  let s := (s.groupCores g).foldl (fun s c => s.writeTable c table) s
  let s := (s.stepCores g).foldl (fun s c => s.bindSlots g c) s
  (s.stepCores g).foldl (fun s c => s.wakeSteps c) s

/-- The end of an opening (R304, R313): the records' fields, as one unit (R40), and the slots whose requests are still
ADMITTED or RUNNING (R303). -/
def State.finishOpen (s : State) (g : Nat) : State :=
  let infos := (s.group g).slots.filterMap (fun e => e.2)
  let s := infos.foldl State.noteInput s
  let v := s.group g
  let slots : Cells (Option SlotInfo) := (v.slots.filter (fun e => match e.2 with
      | some i => recState s i.record == 2 || recState s i.record == 3
      | none => false)).map (fun e =>
    (e.1, e.2.map (fun i => { i with kvLen := s.kvLen i.record i.inCount })))
  let s := s.setGroup g { v with
    slots := slots, holds := [], phase := .open, stepTick := v.openTick, stepTime := v.openTime, tOpen := s.tai, lateEv := v.lateEv + v.short.toNat }
  (s.startStep g).writeGroupBlock g

/-- A partition that runs: no ladder or recovery holds it (R339, R345). -/
def State.partRuns (s : State) (p : Nat) : Bool :=
  let t := s.part p
  t.ladder == .none && !t.saved && t.fencing.isNone && t.pstate != 5 && t.en

/-- The partition admits an opening (R292, R335, R339, R345): it runs, no other group is at work on it, none of its cores
has a swap token. -/
def State.partOpen (s : State) (g : Nat) : Bool :=
  let p := (s.group g).cfg.part
  s.partRuns p.toNat &&
    (upto 0 16).all (fun h => h == g || (s.group h).cfg.part != p || (s.group h).phase == .idle) &&
    (s.groupCores g).all (fun c => !(s.core c).token)

/-- A tick waits to open a step of an active group. -/
def Group.ready (g : Group) : Bool := g.cfg.en && g.waiting && g.phase == .idle

/-- No other ready group of the partition comes first (R292). -/
def State.firstReady (s : State) (g : Nat) : Bool :=
  let v := s.group g
  (upto 0 16).all (fun h =>
    let w := s.group h
    h == g || w.cfg.part != v.cfg.part || !w.ready || decide (v.tickTime < w.tickTime ∨ (v.tickTime = w.tickTime ∧ g < h)))

/-- The opening for the latest tick (R304, R309). The tick of the current step stays until the opening ends (R20). -/
def State.openStep (s : State) (g : Nat) : State :=
  let v := s.group g
  let s := s.setGroup g { v with
    waiting := false, openTick := v.tickNo, openTime := v.tickTime, winHi := (v.tickTime : Int) - 1000 * v.lag
    winP := v.period, slots := [], holds := [], short := false, phase := .hold, rerun := false }
  let recs := s.groupRecords g
  let s := (upto 0 (min v.cfg.nslot 512)).foldl (fun s n =>
    match s.slotHolder recs n with
    | some r => if recState s r = 2 ∨ recState s r = 3 then s.consume g n r else s
    | none => s) s
  if (s.group g).holds.isEmpty then s.finishOpen g else s

/-- STEP_OPEN (R304): an opening begins, or one that waits for HOLD slots goes on. -/
def execStepOpen (g : GroupId) (s : State) : Out :=
  .next (let n := g.toNat
    let v := s.group n
    if v.phase = .hold then
      let s := if s.partRuns v.cfg.part.toNat then s.holdSlots n else s
      if s.partRuns v.cfg.part.toNat && (s.group n).holds.isEmpty then s.finishOpen n else s
    else if v.ready && s.partOpen n && s.firstReady n then s.openStep n
    else s)

/-- HOLD_GRACE_EXPIRY (R313). -/
def execHoldGraceExpiry (g : GroupId) (s : State) : Out :=
  .next (let n := g.toNat
    if (s.group n).phase = .hold ∧ s.partRuns (s.group n).cfg.part.toNat ∧ (s.group n).holds.any (fun h => h.due.any (fun t => decide (t ≤ s.tai))) then
      let s := s.holdSlots n
      if (s.group n).holds.isEmpty then s.finishOpen n else s
    else s)

/-! ## The drain point (R296) -/

/-- A strand that has finished with its step. -/
def Strand.finished (t : Strand) : Bool :=
  match t.run with
  | .absent | .halted | .trapped | .parked .step => true
  | _ => false

/-- Every engine queue has completed every macro it accepted. -/
def Core.idleEngines (k : Core) : Bool :=
  (upto 0 14).all (fun q => (k.queue q).entries.isEmpty && k.completed q == (k.queue q).mseq)

/-- A core at the drain point of a step program. -/
def Core.stepDrained (k : Core) : Bool := (upto 0 8).all (fun i => (k.strand i).finished) && k.idleEngines

/-- A core at the drain point of an operator that is no step program (R335). -/
def Core.opDrained (k : Core) : Bool :=
  (upto 0 8).all (fun i => match (k.strand i).run with | .absent | .halted | .trapped => true | _ => false) && k.idleEngines

/-! ## The settle (R298–R302, R317) -/

/-- Insertion by an order. -/
def insertBy {α : Type} (before : α → α → Bool) (x : α) : List α → List α
  | [] => [x]
  | y :: rest => if before x y then x :: y :: rest else y :: insertBy before x rest
def sortBy {α : Type} (before : α → α → Bool) (l : List α) : List α := l.foldr (insertBy before) []

/-- Increasing slot, then records that hold none by index (R298). -/
def State.settleOrder (s : State) (recs : List Nat) : List Nat :=
  sortBy (fun a b => decide (recSlot s a < recSlot s b ∨ (recSlot s a = recSlot s b ∧ a < b))) recs

/-- The free lists that feed a request's page lists. -/
def State.feeds (s : State) (r : Nat) : List Nat := (upto 0 (min (s.kvHeads r) 8)).map (fun h => s.kvFree (s.kvList r h))

/-- The entries of the list at l from index i on: pages go back to fl while it has room, what stays moves up to place j
(R317); whether a page found the free list full. -/
def State.returnEntries (s : State) (l fl : Nat) : Nat → Nat → Nat → Bool → Bool × State
  | 0, _, j, full => (full, s.setPlaced l 2 j)
  | fuel + 1, i, j, full =>
    let e := kvEntry l i
    let keep (s : State) (full : Bool) : Bool × State :=
      (s.setPlaced (kvEntry l j) 32 (s.placedNat e 32)).returnEntries l fl fuel (i + 1) (j + 1) full
    if !s.pushable e then keep s full
    else if s.freeCap fl ≤ s.freeCount fl then keep s true
    else (s.pushPage fl (s.entAddr e)).returnEntries l fl fuel (i + 1) j full

/-- A request gives back its pages (R317). The vestibule reads and writes the lists, free lists and fltab of its own accord as
they stand: a place that is absent, beyond the placed size or unreadable raises no fault (DESIGN CHOICE, log 80). -/
def State.returnPages (s : State) (g r : Nat) : State :=
  (upto 0 (min (s.kvHeads r) 8)).foldl (fun s h =>
    let l := s.kvList r h
    let fl := s.kvFree l
    let x := s.returnEntries l fl (s.kvPages l) 0 0 false
    if x.1 then x.2.notice g fl else x.2) s

/-- A request retires: as DONE, or staying FAULTED (R299). -/
def State.retireOne (s : State) (g r : Nat) : State :=
  let s := if recState s r = 5 then s else s.setRecField r 0x00 1 6
  let s := (s.returnPages g r).setRecField r 0x04 2 0xFFFF
  s.setGroup g { s.group g with nRet := (s.group g).nRet + 1 }

/-- The actions that apply to each record, in the order performed: a park or resume of a gang's member acts on every member
(R294, R307), also when an RCANCEL of that member cancels it there (DESIGN CHOICE, log 81). -/
def State.marksOf (s : State) (g : Nat) : List (Nat × Act) :=
  (s.pendingActs.filter (fun e => recGroup s e.1 == g)).flatMap (fun e =>
    if e.2 = .cancel then [e] else (s.unitOf e.1).map (fun r => (r, e.2)))

def cancelled (marks : List (Nat × Act)) (r : Nat) : Bool := marks.any (fun e => e.1 == r && e.2 == .cancel)

/-- A request has hit its stop (R299); of a PARKED one only an RCANCEL (R293). -/
def State.hitsStop (s : State) (g tNext : Nat) (marks : List (Nat × Act)) (r : Nat) : Bool :=
  let st := recState s r
  let stopPos := s.recField r 0x40 8
  let deadline := s.recField r 0x48 8
  let late := deadline != 0 && decide (deadline ≤ tNext)
  if st = 2 ∨ st = 3 then
    cancelled marks r || (stopPos != 0 && decide (stopPos ≤ s.recField r 0x10 8)) || late ||
      (s.group g).slots.any (fun e => match e.2 with | some i => i.record == r && i.stopHit | none => false)
  else if st = 4 then cancelled marks r
  else if st = 1 then cancelled marks r || late
  else false

/-- A record is ADMITTED, RUNNING or PARKED. -/
def recHeld (s : State) (r : Nat) : Bool := let st := recState s r; st == 2 || st == 3 || st == 4

/-- The records that the retire stage retires (R299): a stop retires the whole gang, each member in its own place in the
order (R298); a WAITING record retires alone. -/
def State.retiring (s : State) (g tNext : Nat) (marks : List (Nat × Act)) (recs : List Nat) : List Nat :=
  let hit := recs.filter (fun r => s.hitsStop g tNext marks r)
  recs.filter (fun r =>
    if recState s r = 1 then hit.contains r
    else recHeld s r && (s.unitOf r).any (fun m => recHeld s m && hit.contains m))

/-- The retire stage for one record (R299); the marks grow by the parks of a faulted member's gang. -/
def State.retireStage (g : Nat) (gone : List Nat) (acc : State × List (Nat × Act)) (r : Nat) : State × List (Nat × Act) :=
  let (s, marks) := acc
  if recState s r = 5 then
    if recSlot s r = 0xFFFF then (s, marks)
    else (s.retireOne g r, marks ++ ((s.unitOf r).filter (fun m => m != r)).map (fun m => (m, Act.gang)))
  else if gone.contains r then (s.retireOne g r, marks)
  else (s, marks)

/-- The park stage for one record: its park and resume marks in order (R293, R294, R300). A WAITING record is parked by its
RPARK only, not by what has befallen its gang (R293). -/
def State.parkStage (marks : List (Nat × Act)) (s : State) (r : Nat) : State :=
  (marks.filter (fun e => e.1 == r)).foldl (fun s e =>
    let st := recState s r
    match e.2 with
    | .park => if st = 1 ∨ st = 2 ∨ st = 3 then s.setRecField r 0x00 1 4 else s
    | .gang => if st = 2 ∨ st = 3 then s.setRecField r 0x00 1 4 else s
    | .resume => if st = 4 then s.setRecField r 0x00 1 1 else s
    | .cancel => s) s

/-- The greatest of a list, 0 for none. -/
def maxOf (l : List Nat) : Nat := l.foldl max 0
/-- The least of a list, 0 for none. -/
def minOf (l : List Nat) : Nat := match l with | [] => 0 | a :: rest => rest.foldl min a

/-- One eviction for free list fl: the candidate with the highest erank, then adm_seq (R301). -/
def State.evictOne (s : State) (g fl : Nat) : Option State :=
  let cand := (s.groupRecords g).filter (fun r => recHeld s r && (s.feeds r).contains fl)
  let key (r : Nat) : Nat :=
    let u := s.unitOf r
    maxOf (u.map (fun m => s.recField m 0x07 1)) * 2 ^ 64 + maxOf (u.map (fun m => s.recField m 0xD0 8))
  match sortBy (fun a b => decide (key b < key a)) cand with
  | [] => none
  | r :: _ =>
    let u := s.settleOrder ((s.unitOf r).filter (recHeld s))
    let s := u.foldl (fun s m =>
      ((s.setRecField m 0x00 1 7).returnPages g m).setRecField m 0x04 2 0xFFFF) s
    some (s.setGroup g { s.group g with nEvict := (s.group g).nEvict + u.length })

/-- Evictions until list fl keeps its reserve (R301). -/
def State.relieve (g fl : Nat) : Nat → State → State
  | 0, s => s
  | fuel + 1, s =>
    if s.freeCount fl < (s.group g).cfg.kvres then
      match s.evictOne g fl with
      | some s => State.relieve g fl fuel s
      | none => s
    else s

/-- The group's free lists, in fltab order (R290). -/
def State.freeLists (s : State) (g : Nat) : List Nat :=
  let c := (s.group g).cfg
  (upto 0 c.nfl).map (fun i => s.placedNat (c.fltab.toNat + 8 * i) 8)

/-- Admission of one candidate's members (R295, R302). -/
def State.admitMembers (s : State) (g : Nat) (members : List Nat) : State :=
  members.foldl (fun s r =>
    let recs := s.groupRecords g
    let slot := if recSlot s r ≠ 0xFFFF then recSlot s r
      else ((upto 0 (s.group g).cfg.nslot).find? (fun n => (s.slotHolder recs n).isNone)).getD 0xFFFF
    let s := ((s.setRecField r 0x04 2 slot).setRecField r 0xD0 8 s.admSeq.toNat).setRecField r 0x00 1 2
    ({ s with admSeq := s.admSeq + 1 }).setGroup g { s.group g with nAdm := (s.group g).nAdm + 1 }) s

/-- Candidates admitted in order until one does not fit (R302). -/
def State.admitAll (g : Nat) : List (List Nat) → State → State
  | [], s => s
  | u :: rest, s =>
    let recs := s.groupRecords g
    let free := ((upto 0 (s.group g).cfg.nslot).filter (fun n => (s.slotHolder recs n).isNone)).length
    let need := (u.filter (fun r => recSlot s r == 0xFFFF)).length
    if free < need ∨ u.any (fun r => (s.feeds r).any (fun fl => decide (s.freeCount fl < (s.group g).cfg.kvres))) then s
    else State.admitAll g rest (s.admitMembers g (sortBy (fun a b => decide (s.recField a 0x08 8 < s.recField b 0x08 8)) u))

/-- The candidates for admission: WAITING when the settle began and still, whole gangs only (R294, R302). -/
def State.candidates (s : State) (g : Nat) (waiting : List Nat) : List (List Nat) :=
  let units := ((waiting.filter (fun r => recState s r == 1 && recGroup s r == g)).map s.unitOf).filter (fun u =>
    u.all (fun m => recState s m == 1 && waiting.contains m))
  let prio (u : List Nat) : Nat := maxOf (u.map (fun r => s.recField r 0x06 1))
  let arr (u : List Nat) : Nat := minOf (u.map (fun r => s.recField r 0x08 8))
  sortBy (fun a b => decide (prio b < prio a ∨ (prio a = prio b ∧ arr a < arr b))) units.eraseDups

/-- The accounting of a committed step (R298). -/
def State.account (s : State) (g : Nat) : State :=
  (s.group g).slots.foldl (fun s e =>
    match e.2 with
    | some i =>
      let st := recState s i.record
      if (st = 2 ∨ st = 3) ∧ !i.masked then
        let s := s.setRecField i.record 0x10 8 (s.recField i.record 0x10 8 + i.inCount)
        if st = 2 then s.setRecField i.record 0x00 1 3 else s
      else s
    | none => s) s

/-- settle of R298, with or without the accounting (R346); `parkAlso` are marked for parking as well. -/
def State.settle (s : State) (g : Nat) (accounting : Bool) (parkAlso : List Nat) : State :=
  let waiting := (s.groupRecords g).filter (fun r => recState s r == 1)
  let s := s.takeBlock g
  let v := s.group g
  let tNext := if v.ticking then v.nextTick else s.tai
  let s := if accounting then s.account g else s
  let marks := s.marksOf g ++ parkAlso.map (fun r => (r, Act.gang))
  let s := { s with pendingActs := s.pendingActs.filter (fun e => recGroup s e.1 != g) }
  let order := s.settleOrder (s.groupRecords g)
  let (s, marks) := order.foldl (State.retireStage g (s.retiring g tNext marks order)) (s, marks)
  let s := (s.settleOrder (s.groupRecords g)).foldl (State.parkStage marks) s
  let s := (s.freeLists g).foldl (fun s fl => State.relieve g fl 4096 s) s
  State.admitAll g (s.candidates g waiting) s

/-- The commit of the open step, and its settle (R296). A bad block is not written to (R291). -/
def State.commitStep (s : State) (g : Nat) : State :=
  let v := s.group g
  let v' := { v with
    cstep := v.cstep + 1, stepNs := s.tai - v.stepTime, phase := .idle, commitAsked := false, rerun := false
    ccmpl := if v.commitAsked then 1 else v.ccmpl }
  let s := s.setGroup g (if v'.stopping then v'.stop else v')
  let good := (s.blockFault g).isNone
  let s := s.settle g true []
  if good then s.writeGroupBlock g else s

/-- The open step of group g is at its drain point (R296). The cores of a partition saved at rung 2 hold none of it: its
strands and macros go on after the resumption (R339, R341). -/
def State.stepDrained (s : State) (g : Nat) : Bool :=
  let p := s.part (s.group g).cfg.part.toNat
  !(p.saved && p.rung == 2) && (s.groupCores g).all (fun c => (s.core c).stepDrained)

/-- STEP_COMMIT (R296). -/
def execStepCommit (g : GroupId) (s : State) : Out :=
  .next (let v := s.group g.toNat
    if v.phase = .open && (v.cfg.acommit || v.commitAsked) && s.stepDrained g.toNat then s.commitStep g.toNat else s)

/-- COMMIT (R238, R296): refused with 0x07 when the group has no step (DEDUCED, log 24). A release at .pkg. -/
def execCommit (f : FSY) (s : State) : Out :=
  s.run 2 none (s.guard7 f.g) [f.a, f.d] (fun s => s.release true (fun s =>
    let g := bits (s.ux f.a) 0 4
    let v := s.group g
    if v.phase = .idle ∨ v.commitAsked then s.put f.d 0x07
    else (s.setGroup g { v with commitAsked := true }).put f.d 0))

end Sys2Proof.Machine
end

