-- ==== Sys2Proof/Machine/Launch.lean ====
section
/-! DEFINITION. Code images in memory, operator records, configuration planes, launch and retirement
(spec/01_machine_state.md, R34–R37; spec/03_encoding_and_assembly.md, R73, R78–R80, R93;
spec/07_engine_commands.md, R238; spec/11_launch_preemption_faults.md, R323, R333–R335). -/

namespace Sys2Proof.Machine

/-! ## Chains of an image (R73, R79, R80) -/

/-- Lines of the chain from line l on; a chain of more lines than the image has does not end. -/
def State.chainFrom (s : State) (img : Image) : Nat → Nat → List Nat
  | 0, _ => []
  | fuel + 1, l =>
    if img.nlines ≤ l then []
    else
      let next := linkNext (s.imageWord img l 0)
      l :: (if next = endOfChain then [] else s.chainFrom img fuel next.toNat)

/-- `n` payload bytes from byte b of a data chain (R79); none when the chain is shorter. -/
def State.payload (s : State) (img : Image) (chain : List Nat) (b n : Nat) : Option Nat :=
  if 60 * chain.length < b + n then none
  else some (ofBytes ((upto b n).map (fun i => s.physByte (img.base + 64 * chain.getD (i / 60) 0 + 4 + i % 60))))

/-- Kind and first line of directory entry i (R80). -/
def State.dirEntry (s : State) (img : Image) (i : Nat) : Option (Nat × Nat) :=
  if img.dirCount ≤ i then none
  else (s.payload img (s.chainFrom img img.nlines img.dirLine) (16 * i) 8).map (fun e => (bits e 0 32, bits e 32 32))

/-! ## Operator records and launch headers (R34–R36, R333) -/

/-- The operator record at `a` of address space 0, as a number. -/
def State.operatorRecord (s : State) (a : Nat) : Nat :=
  ofBytes ((upto 0 32).flatMap (fun i => toBytes 8 (s.as0Nat (a + 8 * i) 8)))

def recordBits (r off n : Nat) : Nat := bits r (8 * off) (8 * n)

/-- The record's kind and its zero fields (R333). -/
def recordOk (r : Nat) : Bool :=
  recordBits r 0 2 == 1 && bits r 19 13 == 0 && bits r (8 * 0x40 + 41) 23 == 0 && bits r (8 * 0x48) (8 * 176) == 0 &&
    bits r (8 * 0xF8 + 16) 48 == 0

/-- Strand entry of a launch header (R34). -/
def strandEntry (e : Nat) : StrandEntry where
  cls := BitVec.ofNat 4 (e >>> 60)
  wdx := BitVec.ofNat 6 (e >>> 54)
  pen := bit e 53
  pq := BitVec.ofNat 5 (e >>> 48)
  stage := BitVec.ofNat 3 (e >>> 45)
  pn := bits e 38 7
  vn := bits e 32 6
  wv := bits e 25 7
  eslot := BitVec.ofNat 4 (e >>> 21)
  eline := BitVec.ofNat 21 e

/-- The rings that the preset mask names, in order (R34). -/
def presetRings (mask : Nat) : List Nat := (upto 0 32).filter (fun q => mask.testBit q)

/-- A launch header at the start of a payload: its fields, none when the chain is too short (R34). -/
structure Header where
  version : Nat
  smask : Nat
  spare : Nat
  widw : Nat
  widr : Nat
  widt : DWord
  entries : List StrandEntry
  args : List DWord
  presets : List (Nat × Ring)
  /-- The reserved bits of the preset images, which must be zero (R24, R36). -/
  presetBits : Nat
  deriving DecidableEq, Repr

def State.launchHeader (s : State) (img : Image) (line : Nat) : Option Header :=
  let chain := s.chainFrom img img.nlines line
  match s.payload img chain 0 128 with
  | none => none
  | some h =>
    let rings := presetRings (bits h 32 32)
    match s.payload img chain 128 (16 * rings.length) with
    | none => none
    | some p => some {
        version := bits h 0 16, smask := bits h 16 8, spare := bits h 24 8, widw := bits h 64 64, widr := bits h 128 64
        widt := BitVec.ofNat 64 (bits h 192 64)
        entries := (upto 0 8).map (fun k => strandEntry (bits h (256 + 64 * k) 64))
        args := (upto 0 4).map (fun k => BitVec.ofNat 64 (bits h (768 + 64 * k) 64))
        presets := (upto 0 rings.length).map (fun i =>
          (rings.getD i 0, Ring.ofDesc (bits p (128 * i) 64) (bits p (128 * i + 64) 64)))
        presetBits := ((upto 0 rings.length).map (fun i => bits p (128 * i + 95) 33)).sum }

def Header.widths (h : Header) : List Nat := (upto 0 6).map (fun i => bits h.widw (7 * i) 7)
def Header.roles (h : Header) : List Nat := (upto 0 6).map (fun i => bits h.widr (4 * i) 4)
/-- The entries of resident strands. -/
def Header.resident (h : Header) : List StrandEntry :=
  (upto 0 8).filterMap (fun k => if h.smask.testBit k then h.entries[k]? else none)

/-- The watchdog limit exponents a header may give (R36). -/
def wdxOk (w : BitVec 6) : Bool := w == 0 || (decide (16 ≤ w.toNat) && decide (w.toNat ≤ 32))

/-- A resident strand's entry (R36). -/
def entryOk (presets : List (Nat × Ring)) (e : StrandEntry) : Bool :=
  decide (e.vn ≤ 32) && decide (e.pn ≤ 64) && (e.vn == 0 || decide (32 + e.vn ≤ e.wv)) && wdxOk e.wdx && e.eslot != 0 &&
    (!e.pen || presets.any (fun p => p.1 == e.pq.toNat))

/-- A header that R36 accepts. A descriptor with en = 0 is not one that R26 finds ill formed. -/
def Header.ok (h : Header) : Bool :=
  h.version == 1 && h.spare == 0 && h.presetBits == 0 && bits h.widw 42 22 == 0 && bits h.widr 24 40 == 0 && decide (h.widths.sum ≤ 64) &&
    h.roles.all (fun r => decide (r ≤ 5)) && decide ((h.resident.map (fun e => e.wv)).sum ≤ 128) &&
    h.resident.all (entryOk h.presets) && h.presets.all (fun p => !p.2.en || p.2.wellFormed)

/-- The plane an operator record makes for a partition; none when the record, its image or its header is refused (R93,
R238, R335). -/
def State.planeOf (s : State) (job : PlaneJob) : Option Plane :=
  let r := s.operatorRecord job.record
  match s.images.find? (fun i => i.ident.toNat == recordBits r 4 4) with
  | none => none
  | some img =>
    match s.dirEntry img (recordBits r 8 4) with
    | some (0, line) =>
      match s.launchHeader img line with
      | none => none
      | some h =>
        if !recordOk r || !h.ok || !img.placed || img.placeId != s.cfg.placeId then none
        else
          let chain := recordBits r 0x40 8
          some {
            mask := BitVec.ofNat 8 h.smask, entries := h.entries, widths := h.widths, roles := h.roles, widt := h.widt
            args := if bit r 17 then (upto 0 4).map (fun k => BitVec.ofNat 64 (recordBits r (0x20 + 8 * k) 8)) else h.args
            presets := h.presets, wid5 := BitVec.ofNat 64 (recordBits r 0x10 8)
            group := if bit r 16 then some (BitVec.ofNat 4 (recordBits r 0x0C 1)) else none
            sbase := recordBits r 0x0E 2, sstride := recordBits r 0x0D 1, part := job.part
            asid := (s.part job.part.toNat).asid, image := img.ident, record := job.record, rerun := bit r 18
            launch := job.launch, start := (upto 0 8).map (fun j => bits chain (4 * j) 3)
            fromNorth := BitVec.ofNat 8 ((upto 0 8).foldl (fun t j => t + bits chain (4 * j + 3) 1 * 2 ^ j) 0)
            bypass := if bit chain 40 then BitVec.ofNat 8 (chain >>> 32) else 0 }
    | _ => none

/-- Writes a completion word of an operator record at .pkg (R238). -/
def State.complete (s : State) (record : Nat) (code : BitVec 8) : State :=
  s.setAs0 (record + 0xF8) 8 (1 + 256 * code.toNat)

/-! ## Starting and retiring an operator (R35, R37, R335) -/

/-- A partition's pstate (R323). -/
def State.setPstate (s : State) (p : Nat) (v : BitVec 3) : State := s.setPart p { s.part p with pstate := v }

/-- Some core of the partition has an operator. -/
def State.partBusy (s : State) (p : Nat) : Bool := (s.partRect p).cores.any (fun c => (s.core c).active.isSome)

/-- pstate 0 or 1 follows from the operators, while no ladder or recovery holds it (R323). -/
def State.refreshPstate (s : State) (p : Nat) : State :=
  if (s.part p).pstate = 0 ∨ (s.part p).pstate = 1 then s.setPstate p (if s.partBusy p then 1 else 0) else s

/-- The wid of strand k (R35). -/
def Plane.widOf (p : Plane) (pkg index k : Nat) : DWord :=
  BitVec.ofNat 64 ((upto 0 6).foldl (fun w i =>
    let lo := (p.widths.take i).sum
    let n := p.widths.getD i 0
    let v := match p.roles.getD i 0 with
      | 0 => bits p.widt.toNat lo n
      | 1 => pkg
      | 2 => index
      | 3 => k
      | 4 => 2 ^ 64 - 1
      | _ => bits p.wid5.toNat lo n
    w + (v % 2 ^ n) * 2 ^ lo) 0)

/-- A resident strand as it starts (R37). -/
def Plane.strand (p : Plane) (pkg index k : Nat) (e : StrandEntry) : Strand :=
  { Strand.reset with
    run := .ready
    x := (upto 0 4).foldl (fun x i => x.set 0 (i + 1) (p.args.getD i 0)) []
    wid := p.widOf pkg index k, line := e.eline, slot := e.eslot, wlim := if e.wdx = 0 then 24 else e.wdx, cls := e.cls
    widths := p.widths, wv := e.wv, vn := e.vn, pn := e.pn, stage := e.stage, pen := e.pen, pq := e.pq }

/-- The soft-maximum pairs as a launch leaves them: no row of them has been covered since (R384). -/
def freshPairs (m : Cells SoftMax) : Cells SoftMax :=
  m.foldl (fun (n : Cells SoftMax) e => n.set SoftMax.reset e.1 { e.2 with orow := none }) []

/-- Core c runs plane p from its start (R37): its strands, rings, queues and vector windows; arrival counts are 0 (R216,
R383). -/
def State.startCore (s : State) (c : Nat) (p : Plane) : State :=
  let index := (s.partRect p.part.toNat).coreIndex c
  s.modCore c (fun k =>
    let strands := (upto 0 8).foldl (fun (m : Cells Strand) i =>
      if p.mask.getLsbD i then
        match p.entries[i]? with
        | some e => m.set Strand.reset i (p.strand s.pkg index i e)
        | none => m
      else m) []
    let wv := ((upto 0 8).map (fun i => if p.mask.getLsbD i then (p.entries.map (fun e => e.wv)).getD i 0 else 0)).sum
    { k with
      strands := strands, holder := none
      vfile := k.vfile.filter (fun e => decide (wv ≤ e.1))
      rings := p.presets.foldl (fun (m : Cells Ring) e => m.set Ring.reset e.1 e.2) []
      queues := [], arrivals := [], smax := freshPairs k.smax, active := some p, opFault := 0 })

/-- The cores that still run the operator of record r. -/
def State.coresOf (s : State) (r : Nat) : List Nat :=
  (upto 0 32).filter (fun c => match (s.core c).active with | some p => p.record == r | none => false)

/-- Core c's operator retires (R131, R335): its strands are no longer resident; the last core of a LAUNCH writes its
completion word. -/
def State.retireCore (s : State) (c : Nat) : State :=
  match (s.core c).active with
  | none => s
  | some p =>
    let code := (s.core c).opFault
    let s := s.modCore c (fun k => { k with strands := [], holder := none, active := none, opFault := 0 })
    if p.launch && (s.coresOf p.record).isEmpty then s.complete p.record code else s

/-- The operator of core c is at its drain point (R296, R335). -/
def State.coreDrained (s : State) (c : Nat) : Bool :=
  let k := s.core c
  match k.active with
  | none => true
  | some p =>
    match p.group with
    | some g => k.stepDrained && (s.group g.toNat).phase == .idle
    | none => k.opDrained

/-- OPERATOR_RETIRE (R335): an operator that is no step program retires when every core of it is at its drain point. -/
def execOperatorRetire (c : CoreId) (s : State) : Out :=
  .next (match (s.core c.toNat).active with
    | none => s
    | some p =>
      let cores := s.coresOf p.record
      if p.group.isNone && cores.all (fun i => s.coreDrained i) && s.partRuns p.part.toNat then
        ((cores.foldl State.retireCore s).refreshPstate p.part.toNat)
      else s)

/-! ## PLANE, SWAPT, LAUNCH (R238, R335) -/

/-- A swap token is posted, or a LAUNCH is about to post it, on a core. -/
def State.tokenPosted (s : State) (c : Nat) : Bool :=
  (s.core c).token || s.jobs.any (fun j => j.launch && (Rect.ofBits j.rect.toNat).cores.contains c)

/-- The result of a rectangle operand: 0x02 for one that is not of whole cores, 0x07 outside the run's partition (R238,
R331). -/
def State.porchRect (s : State) (v : Nat) : BitVec 8 ⊕ Rect :=
  let r := Rect.ofBits v
  match s.cur with
  | .porch q =>
    if 2 ^ 25 ≤ v ∨ !r.wholeCores then .inl 0x02
    else if !r.within (s.partRect (s.queueDesc q.toNat).part.toNat) then .inl 0x07
    else .inr r
  | .strand _ _ => .inl 0x07

/-- PLANE and LAUNCH accepted or refused (R238). -/
def State.planeRequest (s : State) (f : FSY) (launch : Bool) : Done :=
  let a := s.ux f.a
  let v := s.ux f.b
  match s.cur with
  | .strand _ _ => .fault s (raise 0x01)
  | .porch q =>
    if a % 256 ≠ 0 then s.put f.d 0x02
    else if !s.windowOk s.cur 2 a 256 false then .fault s (raiseAt 0x07 a s.me.cls)
    else match s.porchRect v with
      | .inl c => s.put f.d (c.setWidth 64)
      | .inr r =>
        if r.cores.any s.tokenPosted then s.put f.d 0x07
        else
          let job : PlaneJob := ⟨a, BitVec.ofNat 25 v, (s.queueDesc q.toNat).part, launch⟩
          ({ s with jobs := s.jobs ++ [job] }).put f.d 0

/-- PLANE (R238, R335). -/
def execPlane (f : FSY) (s : State) : Out :=
  s.run 2 none (s.guard7 f.g) [f.a, f.b, f.d] (fun s => s.release true (fun s => s.planeRequest f false))

/-- LAUNCH (R238, R335). -/
def execLaunch (f : FSY) (s : State) : Out :=
  s.run 2 none (s.guard7 f.g) [f.a, f.b, f.d] (fun s => s.release true (fun s => s.planeRequest f true))

/-- The swap token is posted to the cores of a rectangle (R335). -/
def State.postToken (s : State) (rect : BitVec 25) : State :=
  (Rect.ofBits rect.toNat).cores.foldl (fun s c => s.modCore c (fun k => { k with token := true }))
    { s with swaps := s.swaps ++ [rect] }

/-- SWAPT (R238, R335). -/
def execSwapt (f : FSY) (s : State) : Out :=
  s.run 2 none (s.guard7 f.g) [f.b, f.d] (fun s => s.release true (fun s =>
    match s.porchRect (s.ux f.b) with
    | .inl c => s.put f.d (c.setWidth 64)
    | .inr r =>
      if r.cores.any (fun c => (s.core c).shadow.isNone) then s.put f.d 0x02
      else (s.postToken (BitVec.ofNat 25 (s.ux f.b))).put f.d 0))

/-- PLANE_COMPLETION (R238, R335): the shadow planes are filled, or the record is refused with 0x02; a LAUNCH goes on to
post the token. -/
def execPlaneCompletion (record : DWord) (s : State) : Out :=
  .next (match s.jobs.find? (fun j => j.record == record.toNat) with
    | none => s
    | some job =>
      let s := { s with jobs := s.jobs.erase job }.readAs0 job.record
      match s.planeOf job with
      | none => s.complete job.record 0x02
      | some p =>
        let s := (Rect.ofBits job.rect.toNat).cores.foldl (fun s c =>
          s.modCore c (fun k => { k with shadow := some p })) s
        if job.launch then s.postToken job.rect else s.complete job.record 0)

/-- PLANE_SWAP (R335): the planes of all cores of a rectangle whose token is posted flip in one clk when every core is at its
drain point and no ladder runs (R339); the old operators retire, the new strands start. -/
def execPlaneSwap (rect : BitVec 25) (s : State) : Out :=
  .next (let cores := (Rect.ofBits rect.toNat).cores
    let ready (c : Nat) : Bool :=
      let k := s.core c
      let p := s.part (match k.shadow with | some p => p.part.toNat | none => 0)
      k.token && k.shadow.isSome && !k.fenced && s.coreDrained c && p.ladder == .none && !p.saved && p.pstate != 5
    if s.swaps.contains rect && cores.all ready then
      let s := cores.foldl State.retireCore { s with swaps := s.swaps.filter (fun r => r != rect) }
      let parts := (cores.filterMap (fun c => (s.core c).shadow.map (fun p => p.part.toNat))).eraseDups
      let s := cores.foldl (fun s c =>
        match (s.core c).shadow with
        | some p => (s.startCore c p).modCore c (fun k => { k with shadow := none, token := false })
        | none => s) s
      parts.foldl State.refreshPstate s
    else s)

/-- RESUME of an engine queue (R238): at lo, or dropping its macro. -/
def execResumeQueue (f : FSY) (s : State) : Out :=
  s.run 2 none (s.guard7 f.g) [f.a, f.d] (fun s => s.release true (fun s =>
    let q := bits (s.ux f.a) 0 4
    let c := bits (s.ux f.a) 4 5
    let p := match s.cur with | .porch h => (s.queueDesc h.toNat).part.toNat | .strand _ _ => 8
    if 14 ≤ q then s.put f.d 0x02
    else if !((s.partRect p).cores.contains c) || !(s.part p).en then s.put f.d 0x07
    else if (s.queueOf c q).parked.isNone then s.put f.d 0x07
    else (s.unparkQueue c q (bit f.imm.toNat 1)).put f.d 0))

end Sys2Proof.Machine
end

