-- ==== Sys2Proof/Machine/Porch.lean ====
section
/-! DEFINITION. Code-image loading, queue programs and porch runs (spec/03_encoding_and_assembly.md, R78–R80;
spec/11_launch_preemption_faults.md, R324–R332; spec/12_fabric_host_time.md, R378). -/

namespace Sys2Proof.Machine

/-! ## Porch-permitted instructions (R329) -/

/-- The majors the table lists. -/
def porchMajor (m : Nat) : Bool :=
  decide ((1 ≤ m ∧ m ≤ 6) ∨ (8 ≤ m ∧ m ≤ 0x0D)) ||
    [0x10, 0x12, 0x14, 0x1A, 0x1B, 0x1C, 0x1D, 0x1E, 0x1F, 0x21, 0x40, 0x41, 0x42, 0x43, 0x48, 0x49, 0x4A, 0x4B, 0x4C,
      0x4D, 0x61, 0x62, 0x63].contains m

/-- The minor value, form, special register or space is one the table admits for a listed major; a minor value that R85 leaves
undefined is none. -/
def porchForm (w0 w1 : Word) : Bool :=
  let n := w0.toNat
  let fn := bits w1.toNat 24 8
  let op := bits w1.toNat 26 6
  match bits n 25 7 with
  | 0x02 => decide (bits n 0 6 ≤ 27)
  | 0x03 | 0x04 => decide (bits n 0 6 ≤ 15)
  | 0x05 => decide (bits n 0 4 ≤ 4)
  | 0x0D => decide (bits n 4 3 ≤ 5)
  | 0x06 => !(bit n 14) || (bits n 15 5 != 2 && bits n 15 5 != 3)
  | 0x14 => [0, 5, 6, 7].contains (bits n 21 4)
  | 0x21 => [0, 1, 2, 3, 6, 7].contains (bits n 21 4)
  | 0x40 => decide (bits n 4 4 ≤ 6)
  | 0x41 => decide (bits n 0 8 ≤ 5)
  | 0x42 => decide (bits n 0 8 ≤ 2)
  | 0x43 => decide (fn ≤ 15) && fn != 1
  | 0x48 => decide (bits n 0 2 ≤ 1) && [1, 2, 3, 5].contains (bits n 5 3)
  | 0x49 => bits n 0 1 == 0 && [1, 2, 3, 5].contains (bits n 5 3)
  | 0x4A | 0x4C => decide (op ≤ 15) && [1, 2].contains (bits w1.toNat 23 3)
  | 0x4B => op == 0 && [1, 2].contains (bits w1.toNat 23 3)
  | 0x4D => decide (fn ≤ 15) && fn != 3
  | 0x61 => decide (fn ≤ 4) || fn == 6
  | 0x62 => decide (fn ≤ 2)
  | 0x63 => decide (fn ≤ 5)
  | _ => true

/-- Line and slot of the target of B and BC. -/
def branchTarget (w0 w1 : Word) : Option (Nat × Nat) :=
  match bits w0.toNat 25 7 with
  | 0x10 => some (bits w0.toNat 4 21, bits w0.toNat 0 4)
  | 0x40 => some (bits w1.toNat 4 21, bits w1.toNat 0 4)
  | _ => none

/-- Place of a slot along a chain; none for a line the chain does not hold. -/
def chainPos (chain : List Nat) (line slot : Nat) : Option Nat :=
  if chain.contains line then some (16 * chain.idxOf line + slot) else none

/-- The target of a branch is later in chain order than the branch. -/
def laterTarget (chain : List Nat) (line slot : Nat) (w0 w1 : Word) : Bool :=
  match branchTarget w0 w1 with
  | none => true
  | some (tl, ts) =>
    match chainPos chain line slot, chainPos chain tl ts with
    | some a, some b => decide (a < b)
    | _, _ => false

/-! ## Verification of a stream (R330) -/

/-- The instructions of one line: slot and words; what follows a waiting instruction is never executed (R77). -/
def State.lineInstrs (s : State) (img : Image) (line : Nat) : Nat → Nat → List (Nat × Word × Word)
  | 0, _ => []
  | fuel + 1, slot =>
    if 15 < slot then []
    else
      let w0 := s.imageWord img line slot
      let w1 := if slot = 15 then 0 else s.imageWord img line (slot + 1)
      (slot, w0, w1) :: (if waitingWords w0 w1 then [] else s.lineInstrs img line fuel (slot + wordsOf w0))

/-- The instructions of a chain by place. -/
def State.chainInstrs (s : State) (img : Image) (chain : List Nat) : List (Nat × Nat × Word × Word) :=
  (upto 0 chain.length).flatMap (fun i =>
    let l := chain.getD i 0
    (s.lineInstrs img l 15 1).map (fun e => (16 * i + e.1, 16 * l + e.1, e.2)))

def isLoopset (w0 w1 : Word) : Bool := bits w0.toNat 25 7 == 0x43 && bits w1.toNat 24 8 == 0
def isBloop (w0 : Word) : Bool := bits w0.toNat 25 7 == 0x12

/-- A LOOPSET that bounds its loop: a = 0, off 0 to 32,767, ne 0 to 63. -/
def loopsetOk (w0 w1 : Word) : Bool := bits w0.toNat 13 5 == 0 && !(bit w1.toNat 15) && decide (bits w1.toNat 16 8 ≤ 63)

/-- The loop rule for the BLOOP at place p. -/
def loopOk (chain : List Nat) (is : List (Nat × Nat × Word × Word)) (p : Nat) (w0 : Word) : Bool :=
  match chainPos chain (bits w0.toNat 4 21) (bits w0.toNat 0 4) with
  | none => false
  | some t =>
    let inside (q : Nat) : Bool := decide (t ≤ q ∧ q ≤ p)
    (match (is.filter (fun e => decide (e.1 < t) && isLoopset e.2.2.1 e.2.2.2)).getLast? with
      | some e => loopsetOk e.2.2.1 e.2.2.2
      | none => false) &&
    is.all (fun e => !inside e.1 || e.1 == p || !(isLoopset e.2.2.1 e.2.2.2 || isBloop e.2.2.1)) &&
    is.all (fun e => inside e.1 ||
      (match (if isBloop e.2.2.1 then some (bits e.2.2.1.toNat 4 21, bits e.2.2.1.toNat 0 4) else branchTarget e.2.2.1 e.2.2.2) with
        | some (tl, ts) => (match chainPos chain tl ts with | some q => !inside q | none => true)
        | none => true))

/-- The entry line of a queue's stream. -/
def State.streamLine (s : State) (img : Image) (q : Nat) : Option Nat :=
  match s.dirEntry img (s.queueDesc q).stream.toNat with
  | some (1, line) => some line
  | _ => none

/-- Every check of R330 on the stream of queue q. -/
def State.streamOk (s : State) (img : Image) (q : Nat) : Bool :=
  match s.streamLine img q with
  | none => false
  | some line =>
    let chain := s.chainFrom img img.nlines line
    let is := s.chainInstrs img chain
    chain.all (fun l => linkOwner (s.imageWord img l 0) == 1) &&
      is.all (fun e =>
        let w0 := e.2.2.1
        let w1 := e.2.2.2
        porchMajor (bits w0.toNat 25 7) && porchForm w0 w1 && laterTarget chain (e.2.1 / 16) (e.2.1 % 16) w0 w1 &&
          !(wordsOf w0 == 2 && e.2.1 % 16 == 15) && (!isBloop w0 || loopOk chain is e.1 w0))

/-! ## Loading an image (R78, R79) -/

/-- Word `slot` of line `l` of an image file. -/
def fileWord (f : ImageFile) (l slot : Nat) : Nat := ((f.lines.getD l []).getD slot 0).toNat
def fileNext (f : ImageFile) (l : Nat) : Nat := bits (fileWord f l 0) 0 21
def fileData (f : ImageFile) (l : Nat) : Bool := bits (fileWord f l 0) 28 4 == 2

/-- Bytes [off, off + 4) of the header line. -/
def fileHeader (f : ImageFile) (off : Nat) : Nat := fileWord f 0 (off / 4)

/-- A line starts a data chain: of owner 2, other than line 0, and no next field names it (R79). The end mark names no
line (R73). -/
def fileHead (f : ImageFile) (l : Nat) : Bool :=
  l != 0 && decide (l < f.lines.length) && fileData f l &&
    (upto 0 f.lines.length).all (fun m => fileNext f m != l || l == 0x1FFFFF)

/-- The offset of the first bad header field (R78). Whether flags[1] agrees with the directory, and whether dir_count or rel_count
fit their chains, is not looked at (DESIGN CHOICE, log 87). -/
def fileBadField (f : ImageFile) : Option Nat :=
  let h := fileHeader f
  let n := f.lines.length
  if !fileData f 0 ∨ fileNext f 0 ≠ 0x1FFFFF ∨ bits (fileWord f 0 0) 21 5 ≠ 0 then some 0x00
  else if h 0x04 ≠ 0x4943594D then some 0x04
  else if bits (h 0x08) 0 16 ≠ 1 then some 0x08
  else if bits (h 0x08) 18 14 ≠ 0 then some 0x0A
  else if h 0x0C ≠ n ∨ n < 2 ∨ 2 ^ 21 < n then some 0x0C
  else if h 0x14 ≠ 0 ∧ !fileHead f (h 0x10) then some 0x10
  else if (h 0x1C = 0 ∧ h 0x18 ≠ 0) ∨ (h 0x1C ≠ 0 ∧ !fileHead f (h 0x18)) then some 0x18
  else if bits (h 0x08) 16 1 = 0 ∧ (h 0x20 ≠ 0 ∨ h 0x24 ≠ 0) then some 0x20
  else if h 0x28 / 2 ^ 25 ≠ 0 ∨ h 0x2C ≠ 0 then some 0x28
  else if h 0x30 ≠ 0 ∨ h 0x34 ≠ 0 ∨ h 0x38 ≠ 0 ∨ h 0x3C ≠ 0 then some 0x30
  else none

/-- The chain of data lines from line l on, along the next fields: a line of another owner that one names is taken for payload, and
a next beyond the image ends the chain (DESIGN CHOICE, log 88). -/
def fileChain (f : ImageFile) : Nat → Nat → List Nat
  | 0, _ => []
  | fuel + 1, l =>
    if f.lines.length ≤ l then [] else l :: (if fileNext f l = 0x1FFFFF then [] else fileChain f fuel (fileNext f l))

/-- The data chains of an image, by first line (R79). -/
def fileChains (f : ImageFile) : List (List Nat) :=
  ((upto 0 f.lines.length).filter (fileHead f)).map (fun l => fileChain f f.lines.length l)

/-- Every data line lies in a data chain, and no two links name it (R79). -/
def fileDataOk (f : ImageFile) : Bool :=
  let lines := upto 0 f.lines.length
  let chained := (fileChains f).flatten
  lines.all (fun l => l == 0 || !fileData f l ||
    (chained.contains l && (l == 0x1FFFFF || decide ((lines.filter (fun m => fileNext f m == l)).length ≤ 1))))

/-- A line as 64 bytes. -/
def fileLine (f : ImageFile) (l : Nat) : Nat :=
  (upto 0 16).foldl (fun t i => t + fileWord f l i * 2 ^ (32 * i)) 0

/-- Bytes that the copies of the data chains take, each at a multiple of 64 (R79). -/
def fileDataSize (f : ImageFile) : Nat := (fileChains f).foldl (fun n c => ceilDiv n 64 * 64 + 60 * c.length) 0

/-- Bytes written to address space 0 from `a` on, 8 at a time. -/
def State.putAs0 (s : State) (a : Nat) : List Byte → State
  | [] => s
  | b :: rest => (s.setAs0 a 1 b.toNat).putAs0 (a + 1) rest

/-- The data chains of a loaded image copied to physical memory from `a` on, and where they end (R79). -/
def State.copyChains (img : Image) : List (List Nat) → Nat → State → Nat × State
  | [], a, s => (a, s)
  | c :: rest, a, s =>
    let n := 60 * c.length
    let v := (s.payload img c 0 n).getD 0
    let s := (upto 0 n).foldl (fun s i => s.storePhys (a + i) 1 (bits v (8 * i) 8) 1) s
    if rest.isEmpty then (a + n, s) else State.copyChains img rest (ceilDiv (a + n) 64 * 64) s

/-- `n` bytes of zeros from `a`, a multiple of 64, on, stored line by line: each store has a shootdown of its own (R284). -/
def State.zeroLines (s : State) (a n : Nat) : State :=
  (upto 0 (n / 64)).foldl (fun s i => s.storePhys (a + 64 * i) 64 0 (allBytes 64)) s

/-- The 64 KiB page of `va` mapped to `pa`, writable and cacheable, in the tables from `t` on (R281); tables that are missing
are taken from `free`. A larger page serves when it maps `va` to `pa` with writes allowed. None where the page cannot be mapped
so. -/
def State.mapPage (va pa : Nat) : List (Nat × Nat × Nat) → Nat → List Nat → State → Option (List Nat × State)
  | [], _, _, _ => none
  | (lvl, sh, w) :: rest, t, free, s =>
    let ea := t + 8 * bits va sh w
    let e := s.physNat ea 8
    if !s.pooledOk ea then none
    else if lvl = 3 then some (free, s.storePhys ea 8 (pa / 65536 * 65536 + 7) (allBytes 8))
    else if bit e 0 then
      if !(bit e 1) then State.mapPage va pa rest (bits e 8 30 * 256) free s
      else if lvl ≠ 0 ∧ bit e 2 ∧ bits e 8 30 * 256 + va % 2 ^ sh = pa then some (free, s)
      else none
    else match free with
      | [] => none
      | f :: more =>
        let n := 8 * 2 ^ (rest.headD (0, 0, 0)).2.2
        if f % 256 ≠ 0 ∨ !s.pooledOk f ∨ !s.pooledOk (f + n - 1) then none
        else State.mapPage va pa rest f more ((s.zeroLines f n).storePhys ea 8 (f + 1) (allBytes 8))

/-- `n` pages from `va` on mapped to those from `pa` on. -/
def State.mapPages (root va pa : Nat) : Nat → List Nat → State → Option State
  | 0, _, s => some s
  | n + 1, free, s =>
    match State.mapPage va pa walkLevels root free s with
    | some (free, s) => State.mapPages root (va + 65536) (pa + 65536) n free s
    | none => none

/-- The copies of the data chains mapped in the partition's address space, writes allowed (R79); none where the partition is
off or its tables do not take them. -/
def State.mapData (s : State) (f : ImageFile) (size : Nat) : Option State :=
  let t := s.part f.part.toNat
  if size = 0 then some s
  else if !t.en then none
  else State.mapPages t.root (f.dataBase / 65536 * 65536) (f.dataPhys / 65536 * 65536)
    ((f.dataBase + size - 1) / 65536 - f.dataBase / 65536 + 1) f.tables s

/-! ## Relocation (R91–R93) -/

/-- A word of an image rewritten. -/
def State.setImageWord (s : State) (img : Image) (line slot v : Nat) : State :=
  s.storePhys (img.base + 64 * line + 4 * slot) 4 v (allBytes 4)

/-- n payload bytes from byte b of the chain that starts with `chain`, rewritten. -/
def State.setPayload (s : State) (img : Image) (chain : List Nat) (b n v : Nat) : State :=
  (upto 0 n).foldl (fun s i =>
    let j := b + i
    s.storePhys (img.base + 64 * chain.getD (j / 60) 0 + 4 + j % 60) 1 (bits v (8 * i) 8) 1) s

/-- The intact columns of a rectangle, west to east (R92). -/
def State.intactCols (s : State) (r : Rect) : List Nat :=
  (upto r.col r.cols).filter (fun c => (upto r.row r.rows).all (fun row => s.present (row * 128 + c)))

/-- The physical place of a logical one; none where R92 rejects it. -/
def State.physPlace (s : State) (r : Rect) (lrow lcol : Nat) : Option Nat :=
  if r.rows ≤ lrow then none else ((s.intactCols r)[lcol]?).map (fun c => (r.row + lrow) * 128 + c)

/-- The physical rectangle of a logical one: its origin moves; it lies in the partition and straddles no removed column
(R92). -/
def State.physRect (s : State) (r : Rect) (logical : Nat) : Option Nat :=
  let q := Rect.ofBits logical
  match s.physPlace r q.row q.col, (s.intactCols r)[q.col + q.cols - 1]? with
  | some p, some last =>
    if q.row + q.rows ≤ r.rows ∧ last + 1 = placeCol p + q.cols then some (putBits logical 0 13 p) else none
  | _, _ => none

/-- The fields of a relocation entry (R91). -/
def relKind (e : Nat) : Nat := bits e 60 4
def relLogical (e : Nat) : Nat := bits e 35 25
def relPos (e : Nat) : Nat := bits e 29 6
def relLine (e : Nat) : Nat := bits e 0 21

/-- What a relocation entry of kinds 0 to 4 puts into its field on a rectangle; none where R91 or R92 rejects it. -/
def State.placement (s : State) (r : Rect) (e : Nat) : Option Nat :=
  match relKind e with
  | 0 | 2 | 4 => s.physPlace r (placeRow (relLogical e)) (placeCol (relLogical e))
  | 1 | 3 => s.physRect r (relLogical e)
  | 5 => some 0
  | _ => none

/-- One relocation entry applied with the value of its placement (R91). The item of kind 5 holds the data address since the
image was loaded, which another place does not change. -/
def State.relocate (s : State) (img : Image) (e v : Nat) : State :=
  let pos := relPos e
  let line := relLine e
  let chain := s.chainFrom img img.nlines line
  let b := pos - 4
  match relKind e with
  | 0 => s.setImageWord img line (pos + 1) (putBits (s.imageWord img line (pos + 1)).toNat 0 13 v)
  | 1 => s.setImageWord img line (pos + 1) (putBits (s.imageWord img line (pos + 1)).toNat 0 25 v)
  | 2 => s.setPayload img chain b 2 (putBits ((s.payload img chain b 2).getD 0) 0 13 v)
  | 3 => s.setPayload img chain b 4 (putBits ((s.payload img chain b 4).getD 0) 0 25 v)
  | 4 => s.setPayload img chain b 8 (putBits ((s.payload img chain b 8).getD 0) 27 13 v)
  | _ => s

/-- The relocation entries of a loaded image (R78, R91). -/
def State.relocations (s : State) (img : Image) : List Nat :=
  let chain := s.chainFrom img img.nlines (s.imageWord img 0 6).toNat
  (upto 0 (s.imageWord img 0 7).toNat).filterMap (fun i => s.payload img chain (8 * i) 8)

/-- The items of kind 5 as the porch loads the image: an image data offset becomes the data address (R91). -/
def State.resolveData (s : State) (img : Image) : State :=
  ((s.relocations img).filter (fun e => relKind e == 5)).foldl (fun s e =>
    let chain := s.chainFrom img img.nlines (relLine e)
    let b := relPos e - 4
    s.setPayload img chain b 8 (((s.payload img chain b 8).getD 0 + img.dataBase) % 2 ^ 64)) s

/-- The porch reports fault 0x02 of an image it refuses, with the offset of the first bad field (R78). -/
def State.refuseImage (s : State) (info : Nat) : State :=
  { s with refused := { FaultRecord.none with
      code := 0x02, info := BitVec.ofNat 40 info, source := 14, time := BitVec.ofNat 64 s.tai } :: s.refused }

/-- IMAGE_LOAD (R73, R78–R80, R91, R330, R378): an image that a check refuses leaves nothing behind but its report. Where the
lines and the data go, and the page tables for them, is the porch's choice: a choice under which the copy cannot be mapped loads
nothing (log 25). -/
def execImageLoad (f : ImageFile) (s₀ : State) : Out :=
  .next (let s := s₀
    let n := f.lines.length
    match fileBadField f with
    | some off => s.refuseImage off
    | none =>
    if !fileDataOk f then s.refuseImage 0
    else if f.base % 64 != 0 || f.dataBase % 64 != 0 || f.dataBase % 65536 != f.dataPhys % 65536 || !s.pooledOk f.base ||
        !s.pooledOk (f.base + 64 * n - 1) || !s.pooledOk f.dataPhys || !s.pooledOk (f.dataPhys + fileDataSize f - 1) then s
    else
      let s := (upto 0 n).foldl (fun s l => s.storePhys (f.base + 64 * l) 64 (fileLine f l) (allBytes 64)) s
      let img : Image :=
        { ident := f.ident, base := f.base, nlines := n, dirLine := fileHeader f 0x10, dirCount := fileHeader f 0x14
          placed := bit (fileHeader f 0x08) 16, placeId := BitVec.ofNat 64 (fileHeader f 0x20 + 2 ^ 32 * fileHeader f 0x24)
          dataBase := f.dataBase }
      let s := s.resolveData img
      let (last, s) := State.copyChains img (fileChains f) f.dataPhys s
      match s.mapData f (last - f.dataPhys) with
      | none => s₀
      | some s =>
        let bytes := (upto 0 n).flatMap (fun l => toBytes 64 (fileLine f l))
        let s := { s with
          images := s.images.filter (fun i => i.ident != f.ident) ++ [img]
          measure := digest512 (toBytes 64 s.measure.toNat ++ toBytes 64 (digest512 bytes).toNat) }
        (upto 0 64).foldl (fun s q =>
          if (s.queueDesc q).image = f.ident then s.setPorchQueue q { s.porchQueue q with verified := s.streamOk img q } else s) s)

/-! ## Runs (R324, R327, R328, R332) -/

/-- Queue q may run programs (R325, R330). -/
def State.queueEnabled (s : State) (q : Nat) : Bool := (s.queueDesc q).en && (s.porchQueue q).verified

/-- The queue that takes a partition's events: the lowest-numbered enabled one of its qmask (R324). -/
def State.eventQueue (s : State) (p : Nat) : Option Nat :=
  (upto 0 64).find? (fun q => (s.part p).qmask.getLsbD q && s.queueEnabled q && (s.queueDesc q).part.toNat == p)

def State.headerField (s : State) (q off n : Nat) : Nat := s.as0Nat ((s.queueDesc q).hdr + off) n

/-- Address of entry e (R326). -/
def State.entryAddr (s : State) (q e : Nat) : Nat :=
  (s.queueDesc q).hdr + 0x100 + s.headerField q 0x1C 4 * (e % s.headerField q 0x18 4)

/-- A fault record's 64 bytes (R342). -/
def FaultRecord.bytes (r : FaultRecord) : List Byte := (upto 0 8).flatMap (fun i => toBytes 8 (r.word i).toNat)

/-- Where the record of queue q's event lies in the event area (R328). -/
def State.eventAddr (s : State) (q : Nat) : Nat := s.cfg.eventArea + 64 * q

/-- A run of queue q starts at its stream with x1 to x4 (R328). -/
def State.beginRun (s : State) (q line reason x3 : Nat) : State :=
  let x (m : Cells DWord) (i v : Nat) : Cells DWord := m.set 0 i (BitVec.ofNat 64 v)
  let t : Strand := { Strand.reset with
    run := .ready, line := BitVec.ofNat 21 line, slot := 1
    x := x (x (x (x [] 1 reason) 2 q) 3 x3) 4 (s.queueDesc q).hdr }
  s.setPorchQueue q { s.porchQueue q with strand := t, running := true, issued := 0, restart := false }

/-- PORCH_RUN_START (R327, R328): a restart first, then the oldest event, then an entry; a queue the host has overrun
stops with 0x08. -/
def execPorchRunStart (q : HostQueueId) (s : State) : Out :=
  .next (let n := q.toNat
    let d := s.queueDesc n
    let p := s.porchQueue n
    let wr := s.headerField n 0x00 8
    let acc := s.headerField n 0x08 8
    let events := if s.eventQueue d.part.toNat = some n then (s.part d.part.toNat).events else []
    match s.images.find? (fun i => i.ident == d.image) with
    | none => s
    | some img =>
      match s.streamLine img n with
      | none => s
      | some line =>
        if p.running || p.stopped || !s.queueEnabled n then s
        else
        let s := s.readAs0 d.hdr
        if !(p.restart || !events.isEmpty || acc != wr) then s
        else if s.headerField n 0x18 4 < (wr + 2 ^ 64 - s.headerField n 0x10 8) % 2 ^ 64 then s.porchFault n 0x08
        else if p.restart then s.beginRun n line 5 (s.entryAddr n acc)
        else match events with
          | e :: rest =>
            let s := s.setPart d.part.toNat { s.part d.part.toNat with events := rest }
            (s.putAs0 (s.eventAddr n) e.record.bytes).beginRun n line e.reason (s.eventAddr n)
          | [] => s.beginRun n line 0 (s.entryAddr n acc))

/-- The budget exponent and T1 in µs that a descriptor gives (R325): 0 means 12 and 200. -/
def queueBudget (d : QueueDesc) : Nat := if d.be = 0 then 12 else d.be
def queueT1 (d : QueueDesc) : Nat := if d.t1 = 0 then 200 else d.t1

/-- The next instruction would exceed the run's budget (R325, R332). -/
def State.overBudget (s : State) (q : Nat) : Bool :=
  let p := s.porchQueue q
  p.running && p.strand.run == .ready && decide (2 ^ queueBudget (s.queueDesc q) ≤ p.issued)

/-- PORCH_BUDGET_EXPIRY (R332). -/
def execPorchBudgetExpiry (q : HostQueueId) (s : State) : Out :=
  .next (if s.overBudget q.toNat then s.porchFault q.toNat 0x10 else s)

/-- HOST_QUEUE_PUBLISH (R327): the host writes its next entry, then wr. -/
def execHostQueuePublish (q : HostQueueId) (entry : List Byte) (s : State) : Out :=
  .next (let n := q.toNat
    let wr := s.headerField n 0x00 8
    (s.putAs0 (s.entryAddr n wr) (entry.take (s.headerField n 0x1C 4))).setAs0 ((s.queueDesc n).hdr) 8 ((wr + 1) % 2 ^ 64))

/-- QCTL_RESTART (R332): the porch clears stopped and restart; the next run has reason 5. -/
def execQctlRestart (q : HostQueueId) (s : State) : Out :=
  .next (let n := q.toNat
    let p := s.porchQueue n
    let s := s.setAs0 ((s.queueDesc n).hdr + 0x28) 8 0
    if p.stopped then (s.setPorchQueue n { p with stopped := false, restart := true }).writeQstat n else s)

end Sys2Proof.Machine
end

