-- ==== Sys2Proof/Machine/Cellar.lean ====
section
/-! DEFINITION. Core contexts in the cellar (spec/11_launch_preemption_faults.md, R340) and what the sump holds (R349). -/

namespace Sys2Proof.Machine

/-! ## Writing structures into bytes -/

/-- Fields (offset, size, value) written into a byte table from `base` on. -/
def putFields (m : Cells Byte) (base : Nat) (fs : List (Nat × Nat × Nat)) : Cells Byte :=
  fs.foldl (fun m f => setBytes m (base + f.1) f.2.1 f.2.2) m

/-- CRC-64 of R231 over `n` bytes of a table from offset `pos` on. -/
def crcTable : Nat → Nat → Cells Byte → BitVec 64 → BitVec 64
  | 0, _, _, x => x
  | n + 1, pos, [], x => crcTable n (pos + 1) [] (crcByte x 0)
  | n + 1, pos, (i, b) :: rest, x =>
    if i = pos then crcTable n (pos + 1) rest (crcByte x b) else crcTable n (pos + 1) ((i, b) :: rest) (crcByte x 0)

/-- The CRC of [lo, hi) of a table. -/
def tableCrc (m : Cells Byte) (lo hi : Nat) : BitVec 64 :=
  ~~~(crcTable (hi - lo) lo (m.filter (fun e => decide (lo ≤ e.1))) (BitVec.allOnes 64))

/-! ## Strand contexts (R340) -/

/-- The op of the waiting instruction a strand is parked at (DEDUCED, log 26): the op field of format W, else the low bits
of fn. -/
def State.parkedOp (s : State) (a : Agent) : Nat :=
  match (s.strandOf a).run, s.imageOf a with
  | .parked _, some img =>
    let t := s.strandOf a
    let w := s.imageWord img t.line.toNat t.slot.toNat
    match bits w.toNat 25 7 with
    | 0x14 | 0x21 => bits w.toNat 21 4
    | 0x28 => 0
    | _ => bits (s.imageWord img t.line.toNat (t.slot.toNat + 1)).toNat 24 4
  | _, _ => 0

/-- A store-queue entry's 32 bytes (R340): address, data, then the flag word. A store of more than 8 bytes shows its low 8 and the
greatest size that sz can give (DEDUCED, log 26). -/
def storeFields (t : Strand) (i : Nat) (e : StoreEntry) : List (Nat × Nat × Nat) :=
  let base := 0x4450 + 32 * i
  [(base, 8, e.addr), (base + 8, 8, e.data % 2 ^ 64),
    (base + 16, 8, e.space.toNat + 8 * min (Nat.log2 e.size) 3 + 32 * e.cls.toNat + 512 * e.scope.toNat +
      2048 * (t.held i e).toNat + 4096 * e.fault.isSome.toNat)]

/-- What the word at 0x4308 shows of a run state: [0] resident, [1] halted, [2] parked. -/
def Run.shown (r : Run) : Nat :=
  match r with
  | .absent => 0
  | .halted | .trapped | .debugged => 3
  | .parked _ => 5
  | .ready | .memory _ => 1

/-- The fields of a strand context (R340). -/
def State.strandFields (s : State) (a : Agent) (windowBase : Nat) : List (Nat × Nat × Nat) :=
  let t := s.strandOf a
  let v : State := { s with cur := a }
  [(0, 128, 2 ^ 1024 - 1)] ++ t.p.map (fun e => (128 * e.1, 128, e.2.toNat)) ++
    t.x.map (fun e => (0x4000 + 8 * e.1, 8, e.2.toNat)) ++ t.k.map (fun e => (0x4100 + 16 * e.1, 16, e.2.toNat)) ++
    (upto 0 12).map (fun i => (0x4200 + 8 * i, 8, if i = 10 then (t.wlim ++ t.wcount).toNat else (v.specialRead i).toNat)) ++
    t.markers.map (fun e => (0x4260 + 8 * e.1, 8, match e.2 with | some m => m.toNat + 2 ^ 32 | none => 0)) ++
    [(0x42D0, 8, t.trapEn.toNat + 2 * t.trapIn.toNat), (0x42D8, 8, t.tvec.toNat), (0x42E0, 8, t.tpc.toNat)] ++
    t.bpt.map (fun e => (0x42E8 + 8 * e.1, 8, e.2.toNat)) ++
    [(0x4308, 8, t.run.shown + 16 * s.parkedOp a +
      2 ^ 8 * windowBase + 2 ^ 15 * t.wv + 2 ^ 22 * t.vn + 2 ^ 28 * t.pn)] ++
    (upto 0 (min t.queued.length 4)).map (fun i => (0x4310 + 64 * i, 64, ofBytes (t.queued.getD i FaultRecord.none).bytes)) ++
    [(0x4410, 64, ofBytes t.record.bytes)] ++
    (upto 0 t.storeq.length).flatMap (fun i => match t.storeq[i]? with | some e => storeFields t i e | none => [])

/-! ## Core contexts (R340) -/

/-- Row r of the landing as the engine state holds it (R340): tags and arrival counts of the eight blocks, m, s, pm, ps, the
row-empty bit, in that order (DEDUCED, log 26). -/
def Core.rowFields (k : Core) (r : Nat) : List (Nat × Nat × Nat) :=
  let base := 0x7800 + 64 * r
  let f := k.smax.get SoftMax.reset r
  (upto 0 8).flatMap (fun b => [
    (base + 2 * b, 1, match (k.rows.get Block.reset (8 * r + b)).tag with | .float => 0 | .int => 1),
    (base + 2 * b + 1, 1, (k.arrivals.get 0 (8 * r + b)).toNat)]) ++
    [(base + 16, 4, f.m.toNat), (base + 20, 8, accStore .float f.s), (base + 28, 4, f.pm.toNat),
      (base + 32, 8, accStore .float f.ps), (base + 40, 1, (k.lempty.getLsbD r).toNat)]

/-- The tag byte of a latch. -/
def latchTag (l : Latch) (pending : Bool) : Nat := l.tag.toNat + 8 * l.summary.toNat + 16 * pending.toNat

/-- Queue q holds landing rows (R217, R344). -/
def Core.holdsRows (k : Core) (q : Nat) : Bool := (k.queue q).phase == 6 || q == 9 && (k.queue q).mark == 1

/-- The engine state (R340). -/
def Core.engineFields (k : Core) : List (Nat × Nat × Nat) :=
  (upto 0 14).flatMap (fun q =>
    let u := k.queue q
    (upto 0 u.entries.length).flatMap (fun e => match u.entries[e]? with
      | some c => [(2048 * q + 64 * e, 64, c.bits.toNat), (0xC000 + 32 * q + e, 1, c.strand.toNat)]
      | none => []) ++
    [(0x7000 + 16 * q, 16, u.mpc.toNat),
      (0x70E0 + 16 * q, 16, u.entries.length + 64 * u.parked.isSome.toNat + 128 * (k.holdsRows q).toNat)]) ++
    (upto 0 32).flatMap (fun q => [(0x7200 + 16 * q, 16, (k.ring q).desc), (0x7400 + 32 * q, 32, (k.ring q).owners.toNat)]) ++
    (upto 0 128).flatMap k.rowFields ++
    (upto 0 64).flatMap (fun a =>
      let u := k.array a
      [(0x9800 + 2 * a, 1, latchTag u.active false), (0x9801 + 2 * a, 1, latchTag u.shadow u.fill.isSome)]) ++
    [(0x9880, 8, k.lstat.toNat), (0x9888, 8, k.lempty.toNat % 2 ^ 64), (0x9890, 8, k.lempty.toNat / 2 ^ 64),
      (0x9898, 8, k.vstat.toNat), (0x98A0, 8, k.fxstat.toNat)]

/-- Size of a core context. -/
def contextBytes : Nat := 0x480000

/-- The context of core c without its CRC (R340). -/
def State.contextBody (s : State) (c : Nat) : Cells Byte :=
  let k := s.core c
  let m := k.scratch
  let m := k.vfile.foldl (fun m e => putFields m (0x300000 + 4096 * e.1)
    ((upto 0 1024).map (fun i => (4 * i, 4, ((e.2)[i]?.getD 0).toNat)))) m
  let m := k.rows.foldl (fun m e => putFields m (0x380000 + 2048 * (e.1 / 8) + 256 * (e.1 % 8))
    ((upto 0 32).map (fun i => (8 * i, 8, accStore e.2.tag (e.2.vals.getD i 0))))) m
  let m := k.arrays.foldl (fun m e => putFields m (0x3C0000 + 2048 * e.1)
    [(0, 1024, e.2.active.tile.toNat), (1024, 1024, e.2.shadow.tile.toNat)]) m
  let m := (upto 0 8).foldl (fun m i => putFields m (0x3E0000 + 32768 * i)
    (s.strandFields (.strand (BitVec.ofNat 5 c) (BitVec.ofNat 3 i)) (k.windowBase i))) m
  let m := putFields m 0x420000 k.engineFields
  let m := putFields m 0x42A000 ((upto 0 8192).map (fun i => (i, 1, (Config.planeByte s.clk i).toNat)))
  putFields m 0x47FF00 ([(0, 4, 0x52414C43), (4, 2, 1), (6, 2, c), (8, 8, s.partOfCore c)] ++
    (upto 0 16).map (fun g => (16 + 8 * g, 8, (s.group g).cstep.toNat)))

/-- The context of core c (R340). -/
def State.context (s : State) (c : Nat) : Cells Byte :=
  let m := s.contextBody c
  setBytes m 0x47FFF8 8 (tableCrc m 0 0x47FF00).toNat

/-- Key in placed memory of byte b of core c's context (R340). -/
def State.cellarKey (s : State) (c b : Nat) : Nat :=
  let i := b / 1024 % 64
  placedKey (corePlace c (i / 8) (i % 8)) (s.cellarBase + b / 65536 * 1024 + b % 1024)

/-- A key of placed memory that core c's context covers. -/
def State.inContext (s : State) (c key : Nat) : Bool :=
  let place := key / 2 ^ 27
  let off := key % 2 ^ 27
  coreOfPlace (placeRow place) (placeCol place) == c && decide (s.cellarBase ≤ off ∧ off < s.cellarBase + 72 * 1024)

/-! ## A context read back (R243, R341, R371)

What is written over a context counts where it says something else than the strand, queue or unit whose context it is: the
fields that the tables of R340 hold are taken from it, and what they do not hold stays (DEDUCED, log 51). -/

/-- [base, base + n) of a table, from 0 on. -/
def subTable (m : Cells Byte) (base n : Nat) : Cells Byte :=
  (m.filter (fun e => decide (base ≤ e.1) && decide (e.1 < base + n))).map (fun e => (e.1 - base, e.2))

/-- A fault record in its 64 bytes (R342). -/
def recordAt (m : Cells Byte) (base : Nat) : FaultRecord :=
  let w (i : Nat) : DWord := BitVec.ofNat 64 (bytesAt m (base + 8 * i) 8)
  ⟨(w 0).setWidth 8, ((w 0) >>> 24).setWidth 40, ((w 0) >>> 20).setWidth 4, ((w 0) >>> 16).setWidth 4,
    ((w 0) >>> 14).setWidth 2, w 1, w 3 ++ w 2, w 5 ++ w 4, w 6, w 7⟩

/-- Place i of a store queue: the strand's own entry, changed where the context says so; an entry that was not there; none where
all 24 bytes are zero and were not. That it is held follows from the faults before it. -/
def Strand.storeAt (t : Strand) (clk : Nat) (m : Cells Byte) (i : Nat) : Option StoreEntry :=
  let w (j : Nat) : Nat := bytesAt m (0x4450 + 32 * i + 8 * j) 8
  let n := bits (w 2) 3 2
  let fault (old : Option (BitVec 8)) : Option (BitVec 8) :=
    if bit (w 2) 12 = old.isSome then old else if bit (w 2) 12 then some (Config.storeFault clk) else none
  match t.storeq[i]? with
  | some e =>
    if (storeFields t i e).map (fun f => f.2.2) = [w 0, w 1, w 2] then some e
    else if w 0 = 0 ∧ w 1 = 0 ∧ w 2 = 0 then none
    else
      let same := decide (min (Nat.log2 e.size) 3 = n)
      some { e with
        addr := w 0, data := e.data / 2 ^ 64 * 2 ^ 64 + w 1, space := BitVec.ofNat 3 (w 2), size := if same then e.size else 2 ^ n
        keep := if same then e.keep else allBytes (2 ^ n), cls := BitVec.ofNat 4 (w 2 >>> 5), scope := BitVec.ofNat 2 (w 2 >>> 9)
        fault := fault e.fault, told := e.told && bit (w 2) 12 }
  | none =>
    if w 0 = 0 ∧ w 1 = 0 ∧ w 2 = 0 then none
    else some ⟨.store, BitVec.ofNat 3 (w 2), w 0, 2 ^ n, w 1 % 2 ^ (8 * 2 ^ n), allBytes (2 ^ n), BitVec.ofNat 4 (w 2 >>> 5),
      BitVec.ofNat 2 (w 2 >>> 9), fault none, none, none, false, false, t.nextOrder + i⟩

/-- The run state that the word at 0x4308 gives, where it is not what it was: absent, halted, or about to issue its instruction,
which for a parked strand is the one it waits in (R130). -/
def Run.changed (r : Run) (now : Nat) : Run :=
  if r.shown = bits now 0 3 then r
  else if !(bit now 0) then .absent
  else if bit now 1 then (match r with | .halted | .trapped | .debugged => r | _ => .halted)
  else .ready

/-- A strand whose state is that of a context: reserved bits and read-only values stay (R118, R239), B(s) among them, which
follows from the windows of the strands before it. -/
def Strand.ofContext (t : Strand) (clk : Nat) (m : Cells Byte) : Strand :=
  let w (o : Nat) : DWord := BitVec.ofNat 64 (bytesAt m o 8)
  let status := bytesAt m 0x4308 8
  let t := { t with
    p := (upto 1 127).foldl (fun (c : Cells Pred) i => c.set 0 i (BitVec.ofNat 1024 (bytesAt m (128 * i) 128))) []
    x := (upto 1 31).foldl (fun (c : Cells DWord) i => c.set 0 i (w (0x4000 + 8 * i))) []
    k := (upto 0 16).foldl (fun (c : Cells KWord) i => c.set 0 i (BitVec.ofNat 128 (bytesAt m (0x4100 + 16 * i) 16))) []
    wid := w 0x4200
    line := pcLine ((w 0x4208).setWidth 25), slot := pcSlot ((w 0x4208).setWidth 25)
    wlim := ((w 0x4250) >>> 33).setWidth 6, wcount := (w 0x4250).setWidth 33
    markers := (upto 0 14).foldl (fun (c : Cells (Option Word)) i =>
      c.set none i (if (w (0x4260 + 8 * i)).getLsbD 32 then some ((w (0x4260 + 8 * i)).setWidth 32) else none)) []
    trapEn := (w 0x42D0).getLsbD 0, trapIn := (w 0x42D0).getLsbD 1
    tvec := (w 0x42D8).setWidth 25, tpc := (w 0x42E0).setWidth 25
    bpt := (upto 0 4).foldl (fun (c : Cells DWord) i => c.set 0 i (w (0x42E8 + 8 * i) &&& bptMask)) []
    run := t.run.changed status, wv := bits status 15 7, vn := bits status 22 6, pn := bits status 28 7
    queued := ((upto 0 4).map (fun i => recordAt m (0x4310 + 64 * i))).takeWhile (fun r => r.code != 0) ++
      t.queued.drop 4
    record := recordAt m 0x4410
    storeq := (upto 0 32).filterMap (t.storeAt clk m) }
  [2, 3, 4, 5, 6, 7, 11].foldl (fun t i => t.specialWrite i (w (0x4200 + 8 * i))) t

/-- Queue q as the engine state has it: its entries, its micro-program counter, whether it is parked, the rows it holds. -/
def Queue.ofContext (u : Queue) (q : Nat) (m : Cells Byte) : Queue :=
  let c := bytesAt m (0x7000 + 16 * q) 16
  let f := bytesAt m (0x70E0 + 16 * q) 16
  let n := bits f 0 6
  let mseq := BitVec.ofNat 32 (c >>> 96)
  let left := if mseq = u.mseq ∧ n = u.entries.length then u.left else mseq - BitVec.ofNat 32 n
  let entry (i : Nat) : Command :=
    let b := BitVec.ofNat 512 (bytesAt m (2048 * q + 64 * i) 64)
    let k := BitVec.ofNat 3 (bytesAt m (0xC000 + 32 * q + i) 1)
    match u.entries[i]? with
    | some e => { e with bits := b, strand := k, len := if e.bits = b then e.len else 4 }
    | none => ⟨b, 4, k, left + BitVec.ofNat 32 (i + 1), []⟩
  { u with
    entries := (upto 0 n).map entry, mseq := mseq, left := left
    ctr := BitVec.ofNat 80 c, espec := BitVec.ofNat 8 (c >>> 80), phase := BitVec.ofNat 4 (c >>> 88)
    mark := if q = 9 then (bit f 7).toNat else u.mark
    parked := if bit f 6 then u.parked else none }

/-- A ring descriptor with its counters and its owner bits. -/
def ringAt (m : Cells Byte) (q : Nat) : Ring :=
  let hi := bytesAt m (0x7208 + 16 * q) 8
  { Ring.ofDesc (bytesAt m (0x7200 + 16 * q) 8) hi with
    head := BitVec.ofNat 9 (hi >>> 4), tail := BitVec.ofNat 9 (hi >>> 13), claim := BitVec.ofNat 9 (hi >>> 22)
    owners := BitVec.ofNat 256 (bytesAt m (0x7400 + 32 * q) 32) }

/-- A latch with its tile and its tag byte. -/
def latchAt (tile tag : Nat) : Latch := ⟨BitVec.ofNat 8192 tile, BitVec.ofNat 3 tag, bit tag 3⟩

/-- An array with the latches of the context; a fill that is no longer pending is gone. -/
def ArrayUnit.ofContext (u : ArrayUnit) (a : Nat) (tiles m : Cells Byte) : ArrayUnit :=
  let tag (i : Nat) : Nat := bytesAt m (0x9800 + 2 * a + i) 1
  { u with
    active := latchAt (bytesAt tiles (2048 * a) 1024) (tag 0), shadow := latchAt (bytesAt tiles (2048 * a + 1024) 1024) (tag 1)
    fill := if bit (tag 1) 4 then u.fill else none }

/-- Landing block b of row r: its tag and its accumulators. -/
def blockAt (vals m : Cells Byte) (r b : Nat) : Block :=
  let tag : AccMode := if bytesAt m (0x7800 + 64 * r + 2 * b) 1 = 0 then .float else .int
  ⟨tag, (upto 0 32).map (fun i => accLoad tag (bytesAt vals (2048 * r + 256 * b + 8 * i) 8))⟩

/-- The pairs of landing row r. -/
def SoftMax.ofContext (f : SoftMax) (r : Nat) (m : Cells Byte) : SoftMax :=
  let base := 0x7800 + 64 * r
  { f with
    m := BitVec.ofNat 32 (bytesAt m (base + 16) 4), s := accLoad .float (bytesAt m (base + 20) 8)
    pm := BitVec.ofNat 32 (bytesAt m (base + 28) 4), ps := accLoad .float (bytesAt m (base + 32) 8) }

/-- The registers and rows of size `n` that a table mentions. -/
def touched (m : Cells Byte) (n : Nat) : List Nat := (m.map (fun e => e.1 / n)).eraseDups

/-- A core whose state is that of a context (R340); the planes, whose layout is not given, stay. -/
def Core.ofContext (k : Core) (clk : Nat) (m : Cells Byte) : Core :=
  let engine := subTable m 0x420000 0x20000
  let vfile := subTable m 0x300000 0x80000
  let vals := subTable m 0x380000 0x40000
  let tiles := subTable m 0x3C0000 0x20000
  let reg (r : Nat) : VReg :=
    let b := subTable vfile (4096 * r) 4096
    Vector.ofFn (fun (i : Fin 1024) => BitVec.ofNat 32 (bytesAt b (4 * i.val) 4))
  { k with
    scratch := subTable m 0 0x300000
    vfile := (touched vfile 4096).foldl (fun (c : Cells VReg) r => c.set VReg.zero r (reg r)) []
    rows := (upto 0 1024).foldl (fun (c : Cells Block) i => c.set Block.reset i (blockAt vals engine (i / 8) (i % 8))) []
    arrays := (upto 0 64).foldl (fun (c : Cells ArrayUnit) a =>
      c.set ArrayUnit.reset a ((k.array a).ofContext a tiles engine)) []
    strands := (upto 0 8).foldl (fun (c : Cells Strand) i =>
      c.set Strand.reset i ((k.strand i).ofContext clk (subTable m (0x3E0000 + 32768 * i) 32768))) []
    queues := (upto 0 14).foldl (fun (c : Cells Queue) q => c.set Queue.reset q ((k.queue q).ofContext q engine)) []
    rings := (upto 0 32).foldl (fun (c : Cells Ring) q => c.set Ring.reset q (ringAt engine q)) []
    arrivals := (upto 0 1024).foldl (fun (c : Cells (BitVec 8)) i =>
      c.set 0 i (BitVec.ofNat 8 (bytesAt engine (0x7801 + 64 * (i / 8) + 2 * (i % 8)) 1))) []
    smax := (upto 0 128).foldl (fun (c : Cells SoftMax) r =>
      c.set SoftMax.reset r ((k.smax.get SoftMax.reset r).ofContext r engine)) []
    lstat := BitVec.ofNat 8 (bytesAt engine 0x9880 8), lempty := BitVec.ofNat 128 (bytesAt engine 0x9888 16)
    vstat := BitVec.ofNat 7 (bytesAt engine 0x9898 8), fxstat := BitVec.ofNat 7 (bytesAt engine 0x98A0 8) }

/-- Some cellar row of core c's context has an uncorrectable error. -/
def State.badContext (s : State) (c : Nat) : Bool :=
  (upto 0 64).any (fun i => s.badPlaced (corePlace c (i / 8) (i % 8)) s.cellarBase (72 * 1024))

/-- Core c's context written to the cellar. -/
def State.writeContext (s : State) (c : Nat) : State :=
  let ctx := s.context c
  let kept : Cells Byte := s.placed.filter (fun e => !s.inContext c e.1)
  { s with
    placed := ctx.foldl (fun (m : Cells Byte) e => m.set 0 (s.cellarKey c e.1) e.2) kept
    saved := s.saved.set none c (some (s.core c)) }

/-- Core c's context as the cellar holds it now. -/
def State.readContext (s : State) (c : Nat) : Cells Byte :=
  (s.placed.filter (fun e => s.inContext c e.1)).foldl (fun m e =>
    let place := e.1 / 2 ^ 27
    let off := e.1 % 2 ^ 27 - s.cellarBase
    m.set 0 (off / 1024 * 65536 + (placeRow place % 8 * 8 + placeCol place % 8) * 1024 + off % 1024) e.2) []

/-- The CRC of a context in the cellar holds (R341). -/
def State.contextOk (s : State) (c : Nat) : Bool :=
  let m := s.readContext c
  decide (bytesAt m 0x47FFF8 8 = (tableCrc m 0 0x47FF00).toNat)

/-! ## The sump (R349) -/

/-- A section: kind, sub, whether it cannot be read whole, length and bytes. -/
structure Section where
  kind : Nat
  sub : Nat
  lost : Bool
  size : Nat
  bytes : Cells Byte

/-- A queue descriptor's 128 bytes (R325). -/
def queueFields (d : QueueDesc) (t1 : Nat) : List (Nat × Nat × Nat) :=
  [(0, 4, d.en.toNat + 2 * d.part.toNat + 16 * d.be), (4, 4, t1), (8, 8, d.hdr), (0x10, 4, d.image.toNat),
    (0x14, 4, d.stream.toNat)] ++
    (upto 0 d.windows.length).flatMap (fun i => match d.windows[i]? with
      | some w => [(0x20 + 16 * i, 8, w.base), (0x28 + 16 * i, 8, w.size + 2 ^ 40 * w.space + 2 ^ 43 * w.writable.toNat)]
      | none => [])

/-- `n` bytes of address space 0. -/
def State.as0Cells (s : State) (a n : Nat) : Cells Byte :=
  (upto 0 n).foldl (fun m i => m.set 0 i (BitVec.ofNat 8 (s.as0Nat (a + i) 1))) []

/-- Bytes of a section whose layout is not given. -/
def freeSection (kind n : Nat) : Cells Byte := (upto 0 n).foldl (fun m i => m.set 0 i (Config.sumpByte kind i)) []

/-- The die that holds the north-west core of a partition's rectangle (R324). -/
def rectDie (rect : BitVec 25) : Nat :=
  let r := Rect.ofBits rect.toNat
  coreOfPlace r.row r.col / 8

/-- The event area of die d: the records of the runs started, then those held for the partitions at home there (R328). -/
def State.eventBytes (s : State) (d : Nat) : Nat × Cells Byte :=
  let held := (upto 0 8).flatMap (fun p => if rectDie (s.part p).rect = d then (s.part p).events else [])
  (1024 + 64 * held.length, (upto 0 held.length).foldl (fun m i => match held[i]? with
    | some e => setBytes m (1024 + 64 * i) 64 (ofBytes e.record.bytes)
    | none => m) (s.as0Cells (s.cfg.eventArea + 1024 * d) 1024))

/-- The sections in the order written. Sizes of the image header and the defect map are the model's (DESIGN CHOICE,
log 27). -/
def State.sections (s : State) : List Section :=
  [⟨1, 0, false, 64, freeSection 1 64⟩, ⟨2, 0, false, 256, freeSection 2 256⟩,
    ⟨3, 0, false, 512, putFields [] 0 ((upto 0 64).map (fun i => (8 * i, 8, (s.partWord (i / 8) (i % 8)).toNat)))⟩] ++
    (upto 0 64).map (fun q =>
      let d := s.queueDesc q
      let m := putFields [] 0 (queueFields d d.t1)
      ⟨4, q, false, 128 + 256, if d.en then (s.as0Cells d.hdr 256).foldl (fun m e => m.set 0 (128 + e.1) e.2) m else m⟩) ++
    (upto 0 16).map (fun g => ⟨5, g, false, 256, s.as0Cells (s.cfg.groupBlocks + 256 * g) 256⟩) ++
    [⟨6, 0, false, 2 ^ 20, s.records⟩] ++
    (upto 0 64).map (fun q => ⟨7, q, false, 32768, putFields [] 0 (s.strandFields (.porch (BitVec.ofNat 6 q)) 0)⟩) ++
    (upto 0 4).map (fun d => ⟨8, d, false, (s.eventBytes d).1, (s.eventBytes d).2⟩) ++
    (upto 0 32).map (fun c =>
      if (s.core c).fenced then ⟨9, c, true, 0, []⟩ else ⟨9, c, false, contextBytes, s.context c⟩) ++
    (upto 0 4).map (fun d =>
      ⟨10, d, false, 0x6428, putFields [] 0 ((upto 0 0xC85).map (fun i => (8 * i, 8, (s.telemetry (8 * i)).toNat)))⟩)

/-- The sections laid out from `at_` on within `size` bytes: the table entries, the bytes, and where they end. -/
def laySections (size : Nat) : List Section → Nat → Nat → Cells Byte → Cells Byte × Nat
  | [], _, at_, m => (m, at_)
  | x :: rest, i, at_, m =>
    let len := min x.size (size - at_)
    let m := putFields m (0x40 + 32 * i)
      [(0, 4, x.kind), (4, 4, (x.lost || decide (len < x.size)).toNat), (8, 8, at_), (16, 8, len), (24, 8, x.sub)]
    let m := (x.bytes.filter (fun e => decide (e.1 < len))).foldl (fun m e => m.set 0 (at_ + e.1) e.2) m
    laySections size rest (i + 1) (at_ + len) m

/-- The sump (R349): its bytes, complete. -/
def State.sump (s : State) (die core code : Nat) : Cells Byte × Nat :=
  let secs := s.sections
  let size := s.cfg.sumpSize
  let r := laySections size secs 0 (0x40 + 32 * secs.length) []
  let m := putFields r.1 0 [(0, 4, 0x504D5553), (4, 2, 1), (6, 2, secs.length), (8, 8, s.tai), (0x10, 4, code),
    (0x14, 4, die + 256 * core), (0x18, 8, s.pkg), (0x20, 8, r.2), (0x30, 8, 1)]
  (setBytes m 0x28 8 (tableCrc m 0x40 r.2).toNat, r.2)

/-- Bytes written to host memory from a .H address on, where a writable outbound window maps them (R370): `n` bytes, of which
`m` lists those that are not 0. -/
def State.writeHost (s : State) (a n : Nat) (m : Cells Byte) : State :=
  let mapped (w : HostOut) (h : Nat) : Option Nat :=
    if w.target ≤ h ∧ h < w.target + w.size then some (w.hbase + (h - w.target)) else none
  let covered (h : Nat) : Bool := s.cfg.hostOut.any (fun w => w.writable && (match mapped w h with
    | some v => decide (a ≤ v) && decide (v < a + n) && s.hostWindow v 1 == some w
    | none => false))
  let rest : Cells Byte := s.host.filter (fun e => !covered e.1)
  { s with host := (m.filter (fun e => decide (e.1 < n))).foldl (fun (h : Cells Byte) e =>
      match s.hostWindow (a + e.1) 1 with
      | some w => if w.writable then h.set 0 (w.target + (a + e.1 - w.hbase)) e.2 else h
      | none => h) rest }

/-- The places in address space 0 that the sump copies. -/
def State.sumpSources (s : State) : List Nat :=
  ((upto 0 64).filter (fun q => (s.queueDesc q).en)).map (fun q => (s.queueDesc q).hdr) ++
    (upto 0 16).map (fun g => s.cfg.groupBlocks + 256 * g) ++ (upto 0 4).map (fun d => s.cfg.eventArea + 1024 * d)

/-- FATAL_ERROR (R349): every core halts, the sump is written to host memory, through the outbound windows (R370) and as far
as it is reserved there, and the package runs nothing until reset. -/
def State.fatal (s : State) (die core code : Nat) : State :=
  let r := s.sump die core code
  let s := (s.sumpSources.foldl State.readAs0 s).writeHost s.cfg.sumpBase (min r.2 s.cfg.sumpSize) r.1
  { s with
    stopped := true
    cores := s.cores.map (fun e => (e.1, { e.2 with
      holder := none
      strands := e.2.strands.map (fun t => (t.1, if t.2.run = .absent then t.2 else { t.2 with run := .halted })) })) }

/-- FATAL_ERROR (R349). -/
def execFatalError (die : DieId) (core : BitVec 8) (code : BitVec 8) (s : State) : Out :=
  .next (if s.stopped then s else s.fatal die.toNat core.toNat code.toNat)

end Sys2Proof.Machine
end

