-- ==== Sys2Proof/Machine/Preempt.lean ====
section
/-! DEFINITION. Pre-emption, resumption, loss of a core, re-placement and re-running a step
(spec/11_launch_preemption_faults.md, R338–R341, R345–R348; spec/03_encoding_and_assembly.md, R91–R93). -/

namespace Sys2Proof.Machine

/-! ## The queue status word (R326, R339) -/

/-- The queues of partition p. -/
def State.partQueues (s : State) (p : Nat) : List Nat :=
  (upto 0 64).filter (fun q => (s.part p).qmask.getLsbD q && (s.queueDesc q).part.toNat == p)

/-- saved and rung in the status words of the partition's queues. -/
def State.showSaved (s : State) (p : Nat) (saved : Bool) (rung : BitVec 2) : State :=
  let s := s.setPart p { s.part p with saved := saved, rung := rung }
  (s.partQueues p).foldl (fun s q => (s.setPorchQueue q { s.porchQueue q with saved := saved, rung := rung }).writeQstat q) s

/-- The ladder ends (R339): saved unless the drain was cancelled, the rung, the code, and pdone written last. -/
def State.endLadder (s : State) (p : Nat) (q : Nat) (saved : Bool) (rung : BitVec 2) (code : BitVec 8) : State :=
  let s := (s.setPart p { s.part p with ladder := .none }).setPstate p (if saved then 4 else 1)
  let s := s.showSaved p saved rung
  (s.setPorchQueue q { s.porchQueue q with pcode := code, pdone := 1 }).writeQstat q

/-- T1 of a queue in ns (R325). -/
def State.t1Ns (s : State) (q : Nat) : Nat := 1000 * queueT1 (s.queueDesc q)
/-- T2 in ns (R339). -/
def t2Ns : Nat := 40000

/-! ## PREEMPT and its ladder (R339) -/

/-- PREEMPT (R238, R339). A partition that recovers, pstate 5, is none of those that R339 refuses: it is accepted, and its pstate
is then that of the ladder (DESIGN CHOICE, log 86). -/
def execPreempt (f : FSY) (s : State) : Out :=
  s.run 2 none (s.guard7 f.g) [f.a, f.d] (fun s => s.release true (fun s =>
    let q := bits (s.ux f.a) 0 8
    let max := BitVec.ofNat 2 f.imm.toNat
    if 64 ≤ q ∨ !s.queueEnabled q ∨ max = 0 then s.put f.d 0x02
    else
      let p := (s.queueDesc q).part.toNat
      let t := s.part p
      if !s.partBusy p || t.saved || t.ladder != .none then s.put f.d 0x07
      else
        let s := (s.setPart p { t with ladder := .drain (BitVec.ofNat 6 q) max s.tai }).setPstate p 2
        ((s.setPorchQueue q { s.porchQueue q with pdone := 0 }).writeQstat q).put f.d 0))

/-- Every operator of the partition is at its drain point. -/
def State.partDrained (s : State) (p : Nat) : Bool :=
  (s.partRect p).cores.all (fun c => (s.core c).fenced || s.coreDrained c)

/-- PREEMPT_DRAIN_COMPLETE (R339, rung 1). -/
def execPreemptDrainComplete (p : PartId) (s : State) : Out :=
  .next (match (s.part p.toNat).ladder with
    | .drain q _ start =>
      if s.partDrained p.toNat ∧ s.tai ≤ start + s.t1Ns q.toNat then s.endLadder p.toNat q.toNat true 1 0 else s
    | _ => s)

/-- The strands of core c stop at an instruction boundary (R339): loads and stores that are not held are performed, the L1 is
cleaned. -/
def State.haltCore (s : State) (c : Nat) : State :=
  if (s.core c).fenced then s.modCore c (fun k => { k with holder := none })
  else
    let s := (upto 0 8).foldl (fun s k =>
      let a := Agent.strand (BitVec.ofNat 5 c) (BitVec.ofNat 3 k)
      (s.drain a).asAgent a State.settleLoads) s
    (s.cleanL1 c (fun l => l.dirty != 0)).modCore c (fun k => { k with holder := none })

/-- PREEMPT_T1_EXPIRY (R339): the drain is cancelled, or the save begins. -/
def execPreemptT1Expiry (p : PartId) (s : State) : Out :=
  .next (match (s.part p.toNat).ladder with
    | .drain q max start =>
      if start + s.t1Ns q.toNat ≤ s.tai then
        if max = 1 then s.endLadder p.toNat q.toNat false 0 0x10
        else
          let s := (s.partRect p.toNat).cores.foldl State.haltCore s
          (s.setPart p.toNat { s.part p.toNat with ladder := .save q max s.tai }).setPstate p.toNat 3
      else s
    | _ => s)

/-- A core emptied at rung 3 (R339): no strands, queues, latches or landing; what belongs to the core and not to an operator
stays. A save that ends at rung 2 leaves the same (DESIGN CHOICE, log 28). -/
def Core.emptied (k : Core) : Core :=
  { k with
    strands := [], holder := none, queues := [], arrays := [], rows := [], stage := [], arrivals := [], smax := []
    pass := 0, deliveries := [], active := none, opFault := 0 }

/-- Rung 3 on core c (R339): strands are no longer resident, queues are empty, latches and landing cleared. A step program
keeps its plane, to start again; an operator that may be re-run is marked; any other is abandoned with code 0x10, on the cores that
it still has too. -/
def State.resetCore (s : State) (p : Nat) (c : Nat) : State :=
  let k := s.core c
  match k.active with
  | none => s.setCore c k.emptied
  | some pl =>
    let s := s.setCore c { k.emptied with active := if pl.group.isSome || pl.rerun then some pl else none }
    if pl.group.isSome || pl.rerun then
      s.setPart p { s.part p with relaunch := (s.part p).relaunch ++ [(c, pl.record)] }
    else if (s.coresOf pl.record).isEmpty then s.complete pl.record 0x10
    else (s.coresOf pl.record).foldl (fun s i => s.modCore i (fun k => { k with opFault := 0x10 })) s

/-- The open steps of the groups of partition p are marked for re-run (R339, R345). -/
def State.abandonSteps (s : State) (p : Nat) : State :=
  (upto 0 16).foldl (fun s g =>
    let v := s.group g
    if v.cfg.part.toNat = p ∧ v.phase = .open then s.setGroup g { v with phase := .abandoned, rerun := true } else s) s

/-- Rung 3 for a partition (R339). -/
def State.resetPart (s : State) (p : Nat) : State :=
  ((s.partRect p).cores.foldl (fun s c => s.resetCore p c) s).abandonSteps p

/-- A strand of core c has a load under way, which its context does not hold (R340; DEDUCED, log 28), or a store that is not held
and has not been performed (R339). -/
def State.midAccess (s : State) (c : Nat) : Bool :=
  !(s.core c).fenced && (s.core c).strands.any (fun e => !e.2.far.isEmpty || (stuckEntries [] e.2.storeq).contains false)

/-- PREEMPT_SAVE_COMPLETE (R339, R340): the contexts are in the cellar; a cellar row that cannot be written fails the save,
with code 0x0D, and with the highest rung 3 the ladder goes on to it (DEDUCED, log 28). -/
def execPreemptSaveComplete (p : PartId) (s : State) : Out :=
  .next (match (s.part p.toNat).ladder with
    | .save q max start =>
      let cores := (s.partRect p.toNat).cores
      if start + t2Ns < s.tai then s
      else
      let s := cores.foldl State.haltCore s
      if cores.any s.midAccess then s
      else if cores.any s.badContext then (s.resetPart p.toNat).endLadder p.toNat q.toNat true 3 0x0D
      else
        let s := cores.foldl State.writeContext s
        if max = 3 then (s.resetPart p.toNat).endLadder p.toNat q.toNat true 3 0
        else
          let s := cores.foldl (fun s c => s.modCore c (fun k => { k.emptied with active := k.active })) s
          s.endLadder p.toNat q.toNat true 2 0
    | _ => s)

/-- PREEMPT_T2_EXPIRY (R339): the save has failed, and the ladder goes to reset; 0x10 is the failure code (DEDUCED,
log 28). -/
def execPreemptT2Expiry (p : PartId) (s : State) : Out :=
  .next (match (s.part p.toNat).ladder with
    | .save q _ start =>
      if start + t2Ns < s.tai then (s.resetPart p.toNat).endLadder p.toNat q.toNat true 3 0x10 else s
    | _ => s)

/-! ## Loss of a core (R345) -/

/-- The partition that holds core c. -/
def State.partHolding (s : State) (c : Nat) : Nat :=
  ((upto 0 8).find? (fun p => (s.part p).en && (s.partRect p).cores.contains c)).getD (s.partOfCore c)

/-- The first bound queue of a partition. -/
def State.firstQueue (s : State) (p : Nat) : Nat := (s.partQueues p).headD 0

/-- Core c is fenced (R345); a second faulting element while the partition recovers is fatal (R349). -/
def State.fenceCore (s : State) (c : Nat) (code : BitVec 8) : State :=
  let p := s.partHolding c
  if (s.core c).fenced then s
  else if (s.part p).pstate = 5 then
    (s.modCore c (fun k => { k with fenced := true, holder := none })).fatal (s.firstQueue p / 16) c code.toNat
  else
    let s := s.modCore c (fun k => { k with fenced := true, holder := none })
    let r : FaultRecord := { FaultRecord.none with
      code := code, source := 15, place := agentPlace (.strand (BitVec.ofNat 5 c) 0) 0, time := BitVec.ofNat 64 s.tai }
    let s := (s.addEvent p ⟨4, r⟩).abandonSteps p
    (s.setPart p { s.part p with fencing := some (s.tai + s.t1Ns (s.firstQueue p)) }).setPstate p 5

/-- CORE_FENCE (R345): an uncorrectable error, fault 0x0D. -/
def execCoreFence (c : CoreId) (s : State) : Out := .next (s.fenceCore c.toNat 0x0D)

/-- A core of a recovering partition has nothing left to run to: it is fenced, or its strands and engines have finished
the abandoned step. -/
def Core.settled (k : Core) : Bool :=
  k.fenced || match k.active with
    | none => true
    | some p => if p.group.isSome then k.stepDrained else k.opDrained

/-- FENCE_DRAIN_T1_EXPIRY (R345): cores that have not reached the drain point are reset as at rung 3. -/
def execFenceDrainT1Expiry (p : PartId) (s : State) : Out :=
  .next (match (s.part p.toNat).fencing with
    | some t =>
      if t ≤ s.tai then
        let s := (s.partRect p.toNat).cores.foldl (fun s c => if (s.core c).settled then s else s.resetCore p.toNat c) s
        s.setPart p.toNat { s.part p.toNat with fencing := none }
      else s
    | none => s)

/-! ## Re-running a step (R347) -/

/-- Entries of the list at l from index i on, rolled back to position pos: later tokens leave the entry, a page that holds
none but those goes back to its free list and its entry goes. -/
def State.rollEntries (s : State) (l pos : Nat) : Nat → Nat → State
  | 0, _ => s
  | fuel + 1, i =>
    if s.kvPages l ≤ i then s
    else
      let e := kvEntry l i
      let first := s.entPos e
      if first + s.entUsed e ≤ pos then s.rollEntries l pos fuel (i + 1)
      else if pos ≤ first then
        let fl := s.kvFree l
        let s := if s.pushable e && decide (s.freeCount fl < s.freeCap fl) then s.pushPage fl (s.entAddr e) else s
        (s.removeEntry l i).rollEntries l pos fuel i
      else
        let s := s.setPlaced (e + 8) 8 (s.entSurv e % 2 ^ (pos - first))
        (s.setPlaced (e + 24) 8 (putBits (s.entFlags e) 8 8 (pos - first))).rollEntries l pos fuel (i + 1)

/-- The page lists of every valid slot rolled back to the opening. -/
def State.rollBack (s : State) (g : Nat) : State :=
  (s.group g).slots.foldl (fun s e =>
    match e.2 with
    | none => s
    | some i => (upto 0 (min (s.kvHeads i.record) 8)).foldl (fun s h =>
        let l := s.kvList i.record h
        s.rollEntries l i.pos.toNat (s.kvPages l + 1) 0) s) s

/-- STEP_RERUN (R296, R341, R347): when the step program waits again, the step runs from its opening. -/
def execStepRerun (g : GroupId) (s : State) : Out :=
  .next (let n := g.toNat
    let v := s.group n
    if v.phase = .abandoned ∧ v.rerun ∧ s.partRuns v.cfg.part.toNat ∧ (s.stepCores n).all (fun c => (s.core c).stepDrained) then
      let s := s.rollBack n
      let v := s.group n
      let s := s.setGroup n { v with
        phase := .open
        slots := v.slots.map (fun e => (e.1, e.2.map (fun i =>
          { i with emitted := 0, stopHit := false, masked := recState s i.record == 5 }))) }
      s.startStep n
    else s)

/-! ## RESUME (R341) -/

/-- A saved strand as it resumes (R130): a waiting or switched-out one executes its instruction again. -/
def Strand.resumed (t : Strand) : Strand :=
  match t.run with
  | .parked _ | .memory _ => { t with run := .ready, inflight := [] }
  | .absent | .ready | .halted | .trapped | .debugged => t

/-- Core c's context restored (R341), as the cellar holds it now; one whose CRC fails is the loss of the core. -/
def State.restoreCore (s : State) (c : Nat) : State :=
  match s.saved.get none c with
  | none => s
  | some k =>
    let ok := s.contextOk c && !s.badContext c
    let s := { s with saved := s.saved.set none c none }
    if ok then
      let k := k.ofContext s.clk (s.readContext c)
      s.modCore c (fun now => { k with
      strands := k.strands.map (fun e => (e.1, e.2.resumed)), holder := none, l1 := [], rr := now.rr, dbg := now.dbg
      fenced := now.fenced, token := now.token, shadow := now.shadow })
    else s.fenceCore c 0x0D

/-- Marked operators start again from their records, step programs from their planes (R341). -/
def State.relaunchAll (s : State) (p : Nat) : State :=
  let marked := (s.part p).relaunch
  let s := s.setPart p { s.part p with relaunch := [] }
  marked.foldl (fun s m =>
    match (s.core m.1).active with
    | none => s
    | some pl =>
      if pl.group.isSome then s.startCore m.1 pl
      else
        let s := s.readAs0 m.2
        match s.planeOf ⟨m.2, 0, pl.part, pl.launch⟩ with
        | some n => s.startCore m.1 n
        | none => (s.modCore m.1 (fun k => { k with opFault := 0x02 })).retireCore m.1) s

/-- RESUME of a partition (R238, R341). -/
def execResumePartition (f : FSY) (s : State) : Out :=
  s.run 2 none (s.guard7 f.g) [f.a, f.d] (fun s => s.release true (fun s =>
    let p := bits (s.ux f.a) 0 3
    let t := s.part p
    if !t.saved then s.put f.d 0x07
    else
      let s := (s.showSaved p false 0).setPstate p 1
      let s := match t.rung.toNat with
        | 2 => (s.partRect p).cores.foldl State.restoreCore s
        | 3 => s.relaunchAll p
        | _ => s
      (s.refreshPstate p).put f.d 0))

/-! ## Re-placement (R92, R93, R346) -/

/-- The place on `new` of a place of `old`: old physical to logical to new physical. -/
def State.movePlace (s : State) (old new : Rect) (p : Nat) : Option Nat :=
  if old.holds p then
    let cols := s.intactCols old
    if cols.contains (placeCol p) then s.physPlace new (placeRow p - old.row) (cols.idxOf (placeCol p)) else none
  else none

/-- A .W address with its place moved. -/
def State.moveAddr (s : State) (old new : Rect) (a : Nat) : Nat :=
  match s.movePlace old new (bits a 27 13) with
  | some p => putBits a 27 13 p
  | none => a

/-- Step 1: rows of the old shafts copied to the new ones, the cellar and the rows that cannot be read left out. -/
def State.copyShafts (s : State) (old new : Rect) : State :=
  let pairs := (upto 0 (2 ^ 13)).filterMap (fun p => (s.movePlace old new p).map (fun q => (p, q)))
  let copied (p off : Nat) : Bool := decide (off < s.cellarBase) && !s.badRow (shaftIndex p) (off / 1024)
  let kept : Cells Byte := s.placed.filter (fun e => pairs.all (fun m =>
    !(m.2 == e.1 / 2 ^ 27 && copied m.1 (e.1 % 2 ^ 27))))
  let moved := s.placed.foldl (fun (m : Cells Byte) e =>
    match pairs.find? (fun x => x.1 == e.1 / 2 ^ 27) with
    | some x => if copied x.1 (e.1 % 2 ^ 27) then m.set 0 (placedKey x.2 (e.1 % 2 ^ 27)) e.2 else m
    | none => m) kept
  { s with placed := moved }

/-- The rows of a rectangle's shafts, the cellar left out, that cannot be read: place and row. -/
def State.lostRows (s : State) (r : Rect) : List (Nat × Nat) :=
  s.bad.filterMap (fun e =>
    let row := e.1 % 2 ^ 17
    let p := shaftPlace (e.1 / 2 ^ 17)
    if e.2 && r.holds p && decide (1024 * row < s.cellarBase) then some (p, row) else none)

/-- The records of the groups of partition p. -/
def State.partRecords (s : State) (p : Nat) : List Nat :=
  (upto 0 16).flatMap (fun g => if (s.group g).cfg.part.toNat = p then s.groupRecords g else [])

/-- Every unreadable row is named by a page list (R346). -/
def State.rowsNamed (s : State) (p : Nat) (rows : List (Nat × Nat)) : Bool :=
  rows.all (fun x => (s.partRecords p).any (fun r => (s.recEntries r).any (fun e => s.entNames e x)))

/-- The per-request 0x0D of each slot whose page list names an unreadable row (R320, R321, R346): the page is poisoned
(R319), the record of the slot FAULTED and counted. -/
def State.rowFaults (s : State) (p : Nat) (rows : List (Nat × Nat)) : State :=
  (s.partRecords p).foldl (fun s r =>
    let hit := (s.recEntries r).filter (fun e => rows.any (s.entNames e))
    let st := recState s r
    if hit.isEmpty then s
    else
      let s := hit.foldl State.poisonEntry s
      if st ≠ 2 ∧ st ≠ 3 then s
      else
        let g := recGroup s r
        let s := ((s.setRecField r 0x78 1 0x0D).setRecField r 0x80 8 (s.entAddr (hit.headD 0))).setRecField r 0x00 1 5
        s.setGroup g { s.group g with nRfault := (s.group g).nRfault + 1 }) s

/-- Step 2 for the free list at fl. -/
def State.moveFreeList (s : State) (mv : Nat → Nat) (fl : Nat) : State :=
  (upto 0 (s.freeCount fl)).foldl (fun s i =>
    s.setPlaced (freeEntry fl i) 8 (mv (s.placedNat (freeEntry fl i) 8))) s

/-- Step 2 for the page list at l. -/
def State.movePageList (s : State) (mv : Nat → Nat) (l : Nat) : State :=
  let s := s.setPlaced (l + 8) 8 (mv (s.kvFree l))
  (s.kvEntries l).foldl (fun s e => if s.entSpilled e then s else s.setPlaced e 8 (mv (s.entAddr e))) s

/-- Step 2 for a group: fltab, its free lists, and the page lists of its requests, the pointers to them among the
addresses (DEDUCED, log 29). -/
def State.moveGroup (s : State) (mv : Nat → Nat) (g : Nat) : State :=
  let v := s.group g
  let tab := mv v.cfg.fltab.toNat
  let s := (s.setGroup g { v with cfg := { v.cfg with fltab := BitVec.ofNat 64 tab } }).setAs0
    (s.cfg.groupBlocks + 256 * g + 0x10) 8 tab
  let s := (upto 0 v.cfg.nfl).foldl (fun s i =>
    let fl := mv (s.placedNat (tab + 8 * i) 8)
    (s.setPlaced (tab + 8 * i) 8 fl).moveFreeList mv fl) s
  (s.groupRecords g).foldl (fun s r =>
    (upto 0 (min (s.kvHeads r) 8)).foldl (fun s h =>
      let l := mv (s.kvList r h)
      (s.setRecField r (0x90 + 8 * h) 8 l).movePageList mv l) s) s

/-- Every relocation entry of an image can be applied on a rectangle (R92). -/
def State.replaceable (s : State) (img : Image) (rect : BitVec 25) : Bool :=
  (s.relocations img).all (fun e => (s.placement (Rect.ofBits rect.toNat) e).isSome)

/-- Step 3: a placed image re-placed on a rectangle through its relocation table, from the logical values, and its header
(R93). -/
def State.replaceImage (s : State) (img : Image) (rect : BitVec 25) : State :=
  let s := (s.relocations img).foldl (fun s e =>
    s.relocate img e ((s.placement (Rect.ofBits rect.toNat) e).getD 0)) s
  s.setImageWord img 0 10 rect.toNat

/-- The requests with a gang member valid in the step of group g. -/
def State.heldGangs (s : State) (g : Nat) : List Nat :=
  ((s.group g).slots.flatMap (fun e => match e.2 with
    | some i => if recGang s i.record = 0 then [] else s.unitOf i.record
    | none => [])).eraseDups

/-- Staged input of the step kept for the requests that will be parked (R346). -/
def State.keepInput (s : State) (g : Nat) (held : List Nat) : State :=
  let v := s.group g
  v.slots.foldl (fun s e =>
    match e.2 with
    | some i =>
      if held.contains i.record ∧ s.recField i.record 0x30 8 ≠ 0 then
        let c := v.cfg
        let entry (j : Nat) : BitVec 128 :=
          match (s.vestLoad (s.part c.part.toNat).asid.toNat (c.stage.toNat + 16 * (c.inMax * e.1 + j)) 16).1 with
          | .val x => BitVec.ofNat 128 x
          | _ => 0
        { s with kept := s.kept.set [] i.record ((upto 0 i.inCount).map entry) }
      else s
    | none => s) s

/-- The recovery ends without a re-placement (R346): the abandoned steps settle without accounting, held gangs are
parked, and the partition stays in pstate 5. A bad block is not written to (R291). -/
def State.giveUpSteps (s : State) (p : Nat) : State :=
  (upto 0 16).foldl (fun s g =>
    if (s.group g).cfg.part.toNat = p ∧ (s.group g).phase = .abandoned then
      let held := s.heldGangs g
      let s := s.keepInput g held
      let s := s.setGroup g { s.group g with phase := .idle, rerun := false }
      if (s.blockFault g).isNone then (s.settle g false held).writeGroupBlock g else s.settle g false held
    else s) s

/-- The images of the operators of some planes. -/
def State.planeImages (s : State) (planes : List (Option Plane)) : List Image :=
  (planes.filterMap (fun o => o.map (fun pl => pl.image))).eraseDups.filterMap (fun i => s.images.find? (fun g => g.ident == i))

/-- The code with which the operator of a plane of partition p ends when its partition is re-placed; none where it runs on the new
rectangle. An operator that came to its drain point on every core it has had done its work, and retires (R335); one that did not is
started again if it may run again, else abandoned with 0x10 (R339; DEDUCED, log 29). -/
def State.endCode (s : State) (p : Nat) (pl : Plane) : Option (BitVec 8) :=
  let cores := s.coresOf pl.record
  if pl.group.isSome then none
  else if (s.part p).relaunch.all (fun e => e.2 != pl.record) && cores.all (fun c => !(s.core c).fenced) then
    some (((cores.map (fun c => (s.core c).opFault)).find? (fun f => f != 0)).getD 0)
  else if pl.rerun then none
  else some 0x10

/-- The plane of a core of the old rectangle on core e.1 of the new one: its operator ends, or its plane is rebuilt from its record.
The completion word is that of R335, or of an operator that is abandoned. -/
def State.rebuild (s : State) (e : Nat × Option (Plane × Option (BitVec 8))) : State :=
  match e.2 with
  | none => s
  | some (pl, some code) => if pl.launch || code == 0x10 then s.complete pl.record code else s
  | some (pl, none) =>
    let s := s.readAs0 pl.record
    match s.planeOf ⟨pl.record, 0, pl.part, pl.launch⟩ with
    | some n => s.startCore e.1 n
    | none => s.complete pl.record 0x02

/-- Steps 1 to 5 of R346 on a spare rectangle. -/
def State.replacePart (s : State) (p : Nat) : State :=
  let t := s.part p
  let old := Rect.ofBits t.rect.toNat
  let new := Rect.ofBits t.spare.toNat
  let mv := s.moveAddr old new
  let planes := old.cores.map (fun c => (s.core c).active)
  let ends := planes.map (fun o => o.map (fun pl => (pl, s.endCode p pl)))
  let s := s.rowFaults p (s.lostRows old)
  let s := s.copyShafts old new
  let s := (upto 0 16).foldl (fun s g => if (s.group g).cfg.part.toNat = p then s.moveGroup mv g else s) s
  let s := (s.planeImages planes).foldl (fun s img => s.replaceImage img t.spare) s
  let s := s.setPart p { s.part p with rect := t.spare, spare := t.rect, relaunch := [], fencing := none }
  let s := { s with swaps := s.swaps.filter (fun r => (Rect.ofBits r.toNat).cores.all (fun c => !old.cores.contains c)) }
  let s := old.cores.foldl (fun s c => s.modCore c (fun k => { k.emptied with shadow := none, token := false })) s
  let s := (new.cores.zip ends).foldl State.rebuild s
  (s.setPstate p 1).refreshPstate p

/-- A re-placement can go ahead (R92, R346): there is a spare rectangle, a page list names every unreadable row, and every
image can be placed on the spare (DEDUCED, log 29). -/
def State.canReplace (s : State) (p : Nat) : Bool :=
  let t := s.part p
  let old := Rect.ofBits t.rect.toNat
  t.spare != 0 && s.rowsNamed p (s.lostRows old) &&
    (s.planeImages (old.cores.map (fun c => (s.core c).active))).all (fun img => s.replaceable img t.spare)

/-- RE_PLACEMENT (R346): when the cores that are left have drained or been reset. -/
def execRePlacement (p : PartId) (s : State) : Out :=
  .next (let n := p.toNat
    if (s.part n).pstate = 5 ∧ (s.partRect n).cores.all (fun c => (s.core c).settled) then
      if s.canReplace n then s.replacePart n
      else
        let s := s.giveUpSteps n
        s.setPart n { s.part n with fencing := none }
    else s)

end Sys2Proof.Machine
end

