-- ==== Sys2Proof/Machine/Router.lean ====
section
/-! DEFINITION. The package's router (spec/12_fabric_host_time.md, R350–R359, R363, R365): routes, multicast copies,
arrivals, arbitration, and the links. -/

namespace Sys2Proof.Machine

/-! ## Buffers (R353, R354, R356) -/

def State.setFabric (s : State) (f : Fabric) : State := { s with fabric := f }
def State.modPort (s : State) (p : Nat) (f : Port → Port) : State := s.setFabric (s.fabric.setPort p (f (s.fabric.port p)))

/-- An input buffer has room for the first flit of a packet: 128 flits a channel, in a wrapped dimension 64 in each dateline
class (R356). The packet's other flits follow as room comes (log 16). -/
def State.hasRoom (s : State) (port : Nat) (p : Packet) : Bool :=
  let l := s.fabric.buf port (pktVc p)
  if s.wrapped port then
    decide (bufferFlits (l.filter (fun q => s.crossed port q == s.crossed port p)) < 64)
  else decide (bufferFlits l < 128)

/-- A packet appended to an input buffer; a multicast packet as its copies. -/
def State.buffer (s : State) (port : Nat) (p : Packet) (toSelf : Bool) : State :=
  let ps := if pktKind p = 10 then s.copies port p toSelf else [p]
  let v := pktVc p
  s.setFabric (s.fabric.setBuf port v (s.fabric.buf port v ++ ps))

/-- PACKET_ROUTE (R352, R354, R365): a packet comes in on a port and waits in its channel's buffer; one of a reserved kind
or channel is dropped and counted. Without a credit for its first flit it does not come (R356). What a neighbour sends
acknowledges what this port sent before (log 16). -/
def execPacketRoute (port : PortId) (pkt : Packet) (s : State) : Out :=
  .next (let p := port.toNat
    if 12 ≤ p || !(s.fabric.port p).up then s
    else
      let t := s.modPort p (fun v => { v with flitsIn := (v.flitsIn + pktFlits pkt) % 2 ^ 64, unacked := [] })
      if 10 < pktKind pkt ∨ 5 < pktVc pkt then t.modPort p (fun v => { v with drops := (v.drops + 1) % 2 ^ 64 })
      else if s.hasRoom p pkt then t.buffer p pkt true
      else s)

/-! ## Reduction windows as inputs see them (R367) -/

def State.rwindow (s : State) (w : Nat) : RWindow := s.fabric.windows.get RWindow.reset w
def State.setRwindow (s : State) (w : Nat) (v : RWindow) : State :=
  s.setFabric { s.fabric with windows := s.fabric.windows.set RWindow.reset w v }

/-- Packet bytes of an element, elements of a chunk, chunks of a window (R233, R366). -/
def RWindow.pe (v : RWindow) : Nat := packetElem v.op.toNat v.cols
def RWindow.per (v : RWindow) : Nat := 4096 / v.pe
def RWindow.chunks (v : RWindow) : Nat := ceilDiv v.nelem v.per
/-- The elements of chunk c. -/
def RWindow.chunkElems (v : RWindow) (c : Nat) : List Nat := upto (c * v.per) (min v.nelem ((c + 1) * v.per) - c * v.per)
/-- Bytes of partial chunks the window holds. -/
def RWindow.held (v : RWindow) : Nat :=
  (v.own.map (fun e => e.2.length)).sum + (v.fromChild.map (fun e => e.2.length)).sum
/-- Bytes in use of the combining store of 256 KiB (R367). -/
def State.combining (s : State) : Nat := (s.fabric.windows.map (fun (e : Nat × RWindow) => e.2.held)).sum

/-- A reduction packet may leave its buffer: its window is armed for its generation and the store has room (R367). -/
def State.takesReduction (s : State) (p : Packet) : Bool :=
  let v := s.rwindow (pktWin p)
  v.armed && bits v.gen.toNat 0 8 == pktAux p && decide (s.combining + p.payload.length ≤ 2 ^ 18)

/-! ## Arbitration (R357, R358) -/

/-- A head at an input: its buffer (8 × port + channel), its channel, the packet. -/
structure Head where
  key : Nat
  vc : Nat
  pkt : Packet

/-- The output of the head at input `i`: a reduction packet of the combining unit leaves on its own port while that is up. -/
def State.outputOf (s : State) (i : Nat) (p : Packet) : Option Nat :=
  if decide (13 ≤ i) && pktKind p == 6 && (s.fabric.port (i - 13)).up then some (i - 13) else s.route (pktDst p)

/-- The destinations a packet that waits here serves: a multicast copy those of its rectangle that lie the way it goes (R365). -/
def State.serves (s : State) (p : Packet) : List Nat :=
  if pktKind p = 10 then (rectPackages (pktRect p)).filter (fun d =>
    s.direction s.pkg d == s.direction s.pkg (pktDst p) && firstSibling d == firstSibling (pktDst p))
  else [pktDst p]

/-- Two packets have a stream in common (R360, R365). -/
def State.sameStream (s : State) (p q : Packet) : Bool :=
  pktSrc p == pktSrc q && pktVc p == pktVc q && (s.serves p).any (fun d => (s.serves q).contains d)

/-- An earlier packet of a stream of `p` waits to be sent again after its port went down (R363). Among those that wait the
order is that of their one buffer. -/
def State.overtaken (s : State) (i : Nat) (p : Packet) : Bool :=
  decide (i < 13) && (upto 13 12).any (fun j => (s.fabric.buf j (pktVc p)).any (fun q => pktKind q != 6 && s.sameStream p q))

/-- The ready heads routed to output o, by input index, then channel, so that of two promoted heads of one input that of the lower
channel is first (DESIGN CHOICE, log 96). What the combining unit sends and what is sent again come at inputs 13 to 24,
after the local one (DESIGN CHOICE, log 96). The buffers downstream have room (log 16). -/
def State.heads (s : State) (o : Nat) : List Head :=
  (upto 0 25).flatMap (fun i => (upto 0 6).filterMap (fun v =>
    match s.fabric.buf i v with
    | [] => none
    | p :: _ =>
      if s.outputOf i p == some o && !(o == 12 && pktKind p == 6 && !s.takesReduction p) && !s.overtaken i p then
        some ⟨8 * i + v, v, p⟩
      else none))

/-- The head of the first channel from cur on that has credit, after a reload when none has (R357). -/
def grantByCredit (port : Port) (hs : List Head) : Option (Head × Port) :=
  let wts := (upto 0 6).map (fun v => bits port.wt.toNat (4 * v) 4)
  let cred := if hs.any (fun h => decide (0 < port.cred.getD h.vc 0)) then port.cred else wts
  ((upto 0 6).map (fun n => (port.cur + n) % 6)).findSome? (fun v =>
    match hs.find? (fun h => h.vc == v) with
    | some h => if 0 < cred.getD v 0 then some (h, { port with cred := cred.set v (cred.getD v 0 - 1), cur := (v + 1) % 6 }) else none
    | none => none)

/-- The timer of a combined chunk, which ends when its packet has left for the parent (R364, R366). -/
def Pending.sentBy (x : Pending) (p : Packet) : Bool :=
  match x.waiter with
  | .chunk _ => x.dst.toNat == pktDst p && x.seq.toNat == pktSeq p
  | _ => false

/-- What leaves input `i` on output `o` when `p` does, and what stays of the packets behind it: of a multicast packet all the copies
that take this output leave as one (R365), which names the destination that has passed most siblings. -/
def State.takeCopies (s : State) (i o : Nat) (p : Packet) (rest : List Packet) : Packet × List Packet :=
  if pktKind p ≠ 10 then (p, rest)
  else
    let run := rest.takeWhile (fun q => retarget q 0 == retarget p 0)
    let goes (q : Packet) : Bool := s.outputOf i q == some o && !s.overtaken i q
    ((run.filter goes).foldl (fun a q => if siblingsPassed o (pktDst a) < siblingsPassed o (pktDst q) then q else a) p,
      run.filter (fun q => !goes q) ++ rest.drop run.length)

/-- A packet leaves on output o: 12 ejects it (R352, R353). -/
def State.sendOn (s : State) (o : Nat) (h : Head) : State :=
  let f := s.fabric
  let out := s.takeCopies (h.key / 8) o h.pkt (f.bufs.get [] h.key).tail
  let h := { h with pkt := out.1 }
  let f := { f with bufs := f.bufs.set [] h.key out.2 }
  if o = 12 then
    let box := if pktKind h.pkt = 6 then 16 + h.key / 8 else h.vc
    s.setFabric { f with inbox := f.inbox.set [] box (f.inbox.get [] box ++ [⟨h.pkt, s.fwindow (pktWin h.pkt)⟩]) }
  else
    let f := if 8 * 13 ≤ h.key ∧ pktKind h.pkt = 6 then { f with pending := f.pending.filter (fun x => !x.sentBy h.pkt) } else f
    (s.setFabric { f with sent := f.sent.set [] o (f.sent.get [] o ++ [h.pkt]) }).modPort o (fun v =>
      { v with flitsOut := (v.flitsOut + pktFlits h.pkt) % 2 ^ 64, unacked := v.unacked ++ [h.pkt] })

/-- OUTPUT_GRANT (R357, R358): one grant of an output port, 12 the local one, which has no control register: its weights and
its threshold are the defaults of R359 (DESIGN CHOICE, log 96). -/
def execOutputGrant (port : PortId) (s : State) : Out :=
  .next (let o := port.toNat
    let hs := s.heads o
    let p := s.fabric.port o
    if 12 < o || (o < 12 && !p.up) then s
    else
      let winner := match hs.find? (fun h => s.fabric.promoted.get false h.key) with
        | some h => some (h, p)
        | none => grantByCredit p hs
      match winner with
      | none => s
      | some (h, p) =>
        let losers := hs.filter (fun g => g.key != h.key)
        let f := s.fabric
        let age := losers.foldl (fun (a : Cells Nat) g => a.set 0 g.key (a.get 0 g.key + 1)) f.age
        let newly := losers.filter (fun g => age.get 0 g.key == p.thr && !f.promoted.get false g.key)
        let promoted := newly.foldl (fun (a : Cells Bool) g => a.set false g.key true) (f.promoted.set false h.key false)
        let f := { f with age := age.set 0 h.key 0, promoted := promoted }
        (s.setFabric (f.setPort o { p with promotions := (p.promotions + newly.length) % 2 ^ 64 })).sendOn o h)

/-! ## Links (R350, R353, R359, R361, R363) -/

/-- FABRIC_PORT_CONTROL_WRITE (R359). -/
def execFabricPortControlWrite (port : PortId) (v : DWord) (s : State) : Out :=
  .next (if port.toNat < 12 then s.writePort port.toNat v else s)

/-- INBOUND_WINDOW_WRITE (R361). -/
def execInboundWindowWrite (win : BitVec 4) (base size attr srect : DWord) (s : State) : Out :=
  .next (s.setFwindow win.toNat ⟨base, size &&& 0xFFFFFF0000, attr &&& 0x7FFF, srect &&& 0xFFFF⟩)

/-- PORT_COMES_UP (R350, R351): an enabled port whose neighbour reports the same extents and wrap bits comes up; one whose
neighbour does not stays down and is counted. A port that faces past the edge of a mesh is down. -/
def execPortComesUp (port : PortId) (wx wy : BitVec 5) (wraps : BitVec 2) (s : State) : Out :=
  .next (let p := port.toNat
    if 12 ≤ p || !(s.fabric.port p).en || (s.neighbour s.pkg (p / 3)).isNone then s
    else if wx.toNat = s.cfg.wx ∧ wy.toNat = s.cfg.wy ∧ wraps.getLsbD 0 = s.cfg.wrapX ∧ wraps.getLsbD 1 = s.cfg.wrapY then
      s.modPort p (fun v => { v with up := true, lanes := 8 })
    else s.modPort p (fun v => { v with up := false, drops := (v.drops + 1) % 2 ^ 64 }))

/-- LANE_FAILURE (R363): the link runs on the lanes that remain, from 4 to 7; with fewer the port goes down, and what it
sent without acknowledgement is sent again ahead of every later packet. -/
def execLaneFailure (port : PortId) (lanes : BitVec 4) (s : State) : Out :=
  .next (let p := port.toNat
    let v := s.fabric.port p
    if 12 ≤ p || !v.up || decide (v.lanes ≤ lanes.toNat) then s
    else if 4 ≤ lanes.toNat then s.modPort p (fun v => { v with lanes := lanes.toNat })
    else (s.modPort p (fun v => { v with lanes := lanes.toNat })).portDown p)

/-- CORRUPTED_FLIT_REPLAY (R363): visible in telemetry only. -/
def execCorruptedFlitReplay (port : PortId) (s : State) : Out :=
  .next (if port.toNat < 12 then s.modPort port.toNat (fun v => { v with replays := (v.replays + 1) % 2 ^ 64 }) else s)

end Sys2Proof.Machine
end

