-- ==== Sys2Proof/Machine/FabricQueue.lean ====
section
/-! DEFINITION. The macros of the fabric queue (spec/07_engine_commands.md, R232–R234) and reduction windows
(spec/12_fabric_host_time.md, R365–R367; spec/02_number_formats.md, R66). One unit is one flit. -/

namespace Sys2Proof.Machine

/-! ## FXSEND and FXMCAST (R232, R365) -/

def fxMulti (m : Nat) : Bool := mopOf m == 0x51
def fxVc (m : Nat) : Nat := bits m 18 3
def fxLen (m : Nat) : Nat := bits m 192 32 + 1
def fxPackets (m : Nat) : Nat := ceilDiv (fxLen m) 4096
/-- Bytes of packet k. -/
def fxPacketLen (m k : Nat) : Nat := min 4096 (fxLen m - 4096 * k)
/-- The engine space a source space code names. -/
def fxSpace (code : Nat) : Nat := if code = 1 then 2 else 0
/-- The destinations. -/
def State.fxDests (s : State) (m : Nat) : List Nat :=
  if fxMulti m then (rectPackages (bits m 256 16)).filter (fun d => bit m 272 || d != s.pkg) else [fPkg (bits m 128 64)]
/-- The rectangle or the package of a send reaches past the extents (R350, R365). -/
def State.fxOutside (s : State) (m : Nat) : Bool :=
  if fxMulti m then
    decide (s.cfg.wx < bits m 256 4 + bits m 264 4 + 1) || decide (s.cfg.wy < bits m 260 4 + bits m 268 4 + 1)
  else !s.inExtents (fPkg (bits m 128 64))

/-- Counters: flit, packet, destinations completed (R44). The packet field shows the number modulo 2 ^ 16; `mark` holds
it whole. -/
def fxCtr (flit packet done : Nat) : Nat := flit % 2 ^ 32 + packet % 2 ^ 16 * 2 ^ 32 + done % 2 ^ 16 * 2 ^ 48

/-- Source bytes [o, o + n) of a send, in ring mode within its slots (R225, R232). -/
def State.fxRead (s : State) (c m o n : Nat) : LoadRes × State :=
  let a := (bits m 64 64 + o) % 2 ^ 64
  if bit m 21 then
    let r := s.ringAt c (bits m 22 5)
    if bits m 27 8 * r.slotBytes < a + n then (.fault 0x08, s) else (.val (r.streamRead (s.core c).scratch r.head a n), s)
  else s.engineRead c (fxSpace (bits m 16 2)) a n

/-- The stream of a send and the next number in it: multicast packets are numbered apart, by channel (log 15). -/
def fxStream (m dst : Nat) : Nat := 8 * (if fxMulti m then 256 else dst) + fxVc m

/-- A timer for one packet on channel `vc` to one destination (R364). -/
def State.addPending (s : State) (c vc dst addr : Nat) (seq : BitVec 20) : Nat × State :=
  let f := s.fabric
  let p : Pending := ⟨f.nextId, BitVec.ofNat 8 dst, BitVec.ofNat 3 vc, seq, s.tai + s.cfg.timer,
    .engine (BitVec.ofNat 5 c), 0, BitVec.ofNat 64 addr⟩
  (f.nextId, s.setFabric { f with pending := f.pending ++ [p], nextId := f.nextId + 1 })

def State.isPending (s : State) (id : Nat) : Bool := s.fabric.pending.any (fun p => p.id == id)

/-- Packet k leaves with its payload: with a new number the first time; sent again, with its number, to the destinations
that have not acknowledged it (R45, R363). -/
def State.fxSend (s : State) (c m k : Nat) (payload : List Byte) : State :=
  let u := s.queueOf c 13
  let dests := s.fxDests m
  let stream := fxStream m (dests.getD 0 0)
  let addr := bits m 128 64 + 4096 * k
  let again := decide (k < u.seqs.length)
  let seq := if again then u.seqs.getD k 0 else s.fabric.seqOut.get 0 stream
  let pkt : Packet := ⟨mkHeader (dests.getD 0 s.pkg) s.pkg (fxVc m) (if fxMulti m then 10 else 0) 0 payload.length 0 (fWin addr)
    (fOff addr) (if fxMulti m then bits m 256 16 else 0) seq.toNat, payload⟩
  let waiting := if again then u.late.filter (fun e => e.2.1 == k) else dests.map (fun d => (0, k, d))
  if again && waiting.isEmpty then s
  else
    let s := if again then s else s.setFabric { s.fabric with seqOut := s.fabric.seqOut.set 0 stream (seq + 1) }
    let s := if dests.isEmpty then s else s.buffer 12 pkt (fxMulti m && bit m 272)
    let r := waiting.foldl (fun (a : State × List (Nat × Nat × Nat)) e =>
      if again && a.1.isPending e.1 then (a.1, a.2 ++ [e])
      else
        let x := a.1.addPending c (fxVc m) e.2.2 (bits m 128 64 % 2 ^ 44 + e.2.2 * 2 ^ 44 + 4096 * k) seq
        (x.2, a.2 ++ [(x.1, k, e.2.2)])) (s, [])
    r.1.modQueue c 13 (fun u => { u with
      late := u.late.filter (fun e => e.2.1 != k) ++ r.2
      seqs := if again then u.seqs else u.seqs ++ [seq] })

/-- A macro of the fabric queue whose packets or contributions have all left is complete when none is waited for: its ring
slots are released (R225, R232). -/
def State.fxFinish (s : State) (c m : Nat) : EUnit :=
  if bit m 21 && (mopOf m == 0x50 || mopOf m == 0x51) then
    match (s.ringAt c (bits m 22 5)).doRelease (bits m 27 8) with
    | some r => .done (s.setRingAt c (bits m 22 5) r)
    | none => .stop s 0x08 (fxCtr 0 (fxPackets m) 0)
  else .done s

/-- Destinations that have acknowledged every packet. -/
def State.fxDone (s : State) (c m : Nat) : Nat :=
  ((s.fxDests m).filter (fun d => !(s.queueOf c 13).late.any (fun e => e.2.2 == d))).length

/-- The start conditions of a send (R225, R232): the code of a fault, or 0 to wait, or nothing. -/
def State.fxBlocked (s : State) (c m : Nat) : Option (BitVec 8) :=
  let r := s.ringAt c (bits m 22 5)
  if s.fxOutside m then some 0x06
  else if bit m 21 then
    if !r.usable then some 0x08 else if r.filled < bits m 27 8 then some 0 else none
  else none

/-- One flit of a send. -/
def State.fxFlit (s : State) (c : Nat) (cmd : Command) : EUnit :=
  let m := cmd.bits.toNat
  let u := s.queueOf c 13
  let flit := bits u.ctr.toNat 0 32
  let k := u.mark
  let n := fxPacketLen m k
  let hi := if 64 * (flit + 1) < n then fxCtr (flit + 1) k 0 else fxCtr 0 (k + 1) 0
  if u.started && fxPackets m == k then
    if u.late.isEmpty then s.fxFinish c m
    else .wait (s.modQueue c 13 (fun u => { u with ctr := BitVec.ofNat 80 (fxCtr 0 k (s.fxDone c m)) })) 7
  else match (if u.started then none else s.fxBlocked c m) with
    | some f => if f = 0 then .wait s 3 else .fault s f (if f = 0x06 then some (bits m 128 64) else none) 0 hi 5
    | none =>
      let o := 4096 * k + 64 * flit
      let size := min 64 (fxLen m - o)
      match s.fxRead c m o size with
      | (.fault f, s) => .fault s f (if f = 0x08 then none else some (bits m 64 64 + o)) 0 hi 5
      | (.miss va, s) => s.engineMiss c 13 cmd va 0 hi
      | (.val v, s) =>
        let payload := (if flit = 0 then [] else u.bytes) ++ toBytes size v
        if 64 * (flit + 1) < n then .next (s.modQueue c 13 (fun u => { u with bytes := payload })) hi
        else if !s.canInject (fxVc m) then .wait s 2
        else
          let s := (s.fxSend c m k payload).modQueue c 13 (fun u => { u with bytes := [], started := true, mark := k + 1 })
          if k + 1 = fxPackets m then
            let s := s.modQueue c 13 (fun u => { u with ctr := BitVec.ofNat 80 hi })
            if (s.queueOf c 13).late.isEmpty then s.fxFinish c m else .wait s 7
          else .next s hi

/-- FXSEND (R232). -/
def execFxsend (c : CoreId) (s : State) : Out :=
  .next (s.runUnit c.toNat 13 (fun m => mopOf m == 0x50) (fun s cmd => s.fxFlit c.toNat cmd))
/-- FXMCAST (R232, R365). -/
def execFxmcast (c : CoreId) (s : State) : Out :=
  .next (s.runUnit c.toNat 13 (fun m => mopOf m == 0x51) (fun s cmd => s.fxFlit c.toNat cmd))

/-! ## Reduction elements (R66, R233) -/

/-- The operator's identity in packet bytes. -/
def identityElement (op cols : Nat) : List Byte :=
  match op with
  | 0 => toBytes 4 0
  | 3 => toBytes 8 fp32NegInf ++ toBytes (8 + 8 * cols) 0
  | _ => toBytes 8 0

/-- A triple in packet bytes: m in FP32, four zero bytes, s and o as containers. -/
def tripleOf (b : List Byte) (cols : Nat) : Triple :=
  let c (i : Nat) : Acc := accLoad .float (ofBytes ((b.drop (8 * i)).take 8))
  ⟨ofBytes (b.take 4), c 1, (upto 0 cols).map (fun i => c (i + 2))⟩
def tripleBytes (t : Triple) : List Byte :=
  toBytes 8 t.m ++ toBytes 8 (accStore .float t.s) ++ t.o.flatMap (fun a => toBytes 8 (accStore .float a))

/-- An element of a local source as its contribution, in packet bytes: MK8 widens exactly to an ACC40 container, and a
container is taken by its value (R60, R61, R66). -/
def widenElement (op cols : Nat) (b : List Byte) : List Byte :=
  match op with
  | 0 => b
  | 1 => toBytes 8 (accStore .float (accLoad .float (ofBytes b)))
  | 2 => toBytes 8 (accStore .float (accOfExt (extOfMk8 (ofBytes b))))
  | _ => tripleBytes (tripleOf b cols)

/-- Two elements combined by the operator (R66). -/
def combineElement (op cols : Nat) (a b : List Byte) : List Byte :=
  match op with
  | 0 => toBytes 4 (fpAdd Fmt.fp32 .rne (fp32 (ofBytes a)) (fp32 (ofBytes b))).bits
  | 3 => tripleBytes (smaxMerge (tripleOf a cols) (tripleOf b cols))
  | _ => toBytes 8 (accStore .float (accAddF (accLoad .float (ofBytes a)) (accLoad .float (ofBytes b))))

/-- The element as home memory takes it, and the flags of its requantisation (R66). -/
def deliverElement (op : Nat) (b : List Byte) : List Byte × Flags :=
  if op = 2 then
    let r := mk8OfAcc (accLoad .float (ofBytes b))
    (toBytes 1 r.bits, r.flags)
  else (b, 0)

/-! ## FXWIN and FXRED (R233, R234, R366, R367) -/

/-- The combined packet of chunk c of window w still waits in the combining unit. -/
def State.chunkWaits (s : State) (w c : Nat) (v : RWindow) : Bool :=
  (upto 13 12).any (fun j => (s.fabric.buf j 3).any (fun p =>
    pktKind p == 6 && pktWin p == w && pktAux p == bits v.gen.toNat 0 8 && pktOffset p == c * v.per))

/-- A window has a chunk not yet forwarded, or not yet delivered at home (R367). -/
def State.windowBusy (s : State) (w : Nat) (v : RWindow) : Bool :=
  v.armed && (decide (v.doneChunks.length < v.chunks) || (upto 0 v.chunks).any (fun c => s.chunkWaits w c v))

/-- FXWIN (R233, R367): it waits for the chunks of the previous generation. -/
def execFxwin (c : CoreId) (s : State) : Out :=
  .next (s.runUnit c.toNat 13 (fun m => mopOf m == 0x53) (fun s cmd =>
    let m := cmd.bits.toNat
    let w := bits m 16 4
    if s.windowBusy w (s.rwindow w) then .wait s 3
    else .done (s.setRwindow w
      { armed := true, core := c, op := BitVec.ofNat 2 (bits m 20 2), home := BitVec.ofNat 8 (bits m 22 8)
        parent := BitVec.ofNat 4 (bits m 30 4), children := BitVec.ofNat 12 (bits m 34 12), isLocal := bit m 46
        cols := bits m 47 16, base := BitVec.ofNat 64 (bits m 64 64), nelem := bits m 128 32 + 1
        gen := BitVec.ofNat 32 (bits m 160 32), own := [], fromChild := [], doneChunks := [], missed := [] })))

/-- Fields of FXRED (R234). -/
def redWin (m : Nat) : Nat := bits m 16 4
def redElems (m : Nat) : Nat := bits m 128 32 + 1
def redFirst (m : Nat) : Nat := bits m 192 32
/-- The chunks an FXRED contributes to. -/
def redChunks (v : RWindow) (m : Nat) : List Nat :=
  let lo := redFirst m / v.per
  upto lo ((redFirst m + redElems m - 1) / v.per + 1 - lo)
/-- Every chunk of an FXRED has been forwarded or delivered. -/
def State.redDone (s : State) (m : Nat) : Bool :=
  let v := s.rwindow (redWin m)
  v.gen.toNat != bits m 160 32 ||
    (redChunks v m).all (fun c => v.doneChunks.contains c && !s.chunkWaits (redWin m) c v)

/-- An element that the package's own macros have covered (R366). -/
def RWindow.covered (v : RWindow) (i : Nat) : Bool := !(v.own.get [] i).isEmpty || v.doneChunks.contains (i / v.per)

/-- The faults of an FXRED as the queue reaches it (R234, R366). -/
def State.redFault (s : State) (m : Nat) : Bool :=
  let v := s.rwindow (redWin m)
  !v.armed || v.gen.toNat != bits m 160 32 || !v.isLocal || decide (v.nelem < redFirst m + redElems m) ||
    (upto (redFirst m) (redElems m)).any v.covered

/-- The whole elements at the front of some bytes, and what is left. -/
def takeElements (size : Nat) : Nat → List Byte → List (List Byte) × List Byte
  | 0, bs => ([], bs)
  | fuel + 1, bs =>
    if size = 0 ∨ bs.length < size then ([], bs)
    else
      let r := takeElements size fuel (bs.drop size)
      (bs.take size :: r.1, r.2)

/-- The timer of an FXRED runs from its first unit on (R364, R367). It waits for no packet: its channel is 7, which no
packet has. -/
def State.redTimer (s : State) (c m : Nat) : State :=
  if (s.queueOf c 13).late.any (fun e => s.isPending e.1) then s
  else
    let x := s.addPending c 7 s.pkg (bits m 64 64) 0
    x.2.modQueue c 13 (fun u => { u with late := [(x.1, 0, s.pkg)] })

/-- One flit of an FXRED: 64 bytes of its source, and the elements they complete. -/
def State.redFlit (s : State) (c : Nat) (cmd : Command) : EUnit :=
  let m := cmd.bits.toNat
  let u := s.queueOf c 13
  let v := s.rwindow (redWin m)
  let esize := windowElem v.op.toNat v.cols
  let total := redElems m * esize
  let gone := u.mark * esize + u.bytes.length
  let flit := gone / 64
  let hi := fxCtr (flit + 1) 0 0
  if u.started && decide (total ≤ gone) then
    if s.redDone m then .done (s.setFabric { s.fabric with pending := s.fabric.pending.filter (fun p => !u.late.any (fun e => e.1 == p.id)) })
    else .wait (s.redTimer c m) 7
  else if !u.started && s.redFault m then .stop s 0x02 hi
  else
    let s := s.redTimer c m
    let n := min 64 (total - gone)
    let a := (bits m 64 64 + gone) % 2 ^ 64
    match s.engineRead c (fxSpace (bits m 20 2)) a n with
    | (.fault f, s) => .fault s f (some a) 0 hi 5
    | (.miss va, s) => s.engineMiss c 13 cmd va 0 hi
    | (.val x, s) =>
      let (elems, rest) := takeElements esize 64 (u.bytes ++ toBytes n x)
      let first := redFirst m + u.mark
      if (upto first elems.length).any v.covered then .stop s 0x02 hi
      else if 2 ^ 18 < s.combining + elems.length * v.pe then .wait s 3
      else
        let own := (upto 0 elems.length).foldl (fun (o : Cells (List Byte)) i =>
          o.set [] (first + i) (widenElement v.op.toNat v.cols (elems.getD i []))) v.own
        let s := (s.setRwindow (redWin m) { v with own := own }).modQueue c 13 (fun u =>
          { u with bytes := rest, mark := u.mark + elems.length })
        .next s hi

/-- FXRED (R234). -/
def execFxred (c : CoreId) (s : State) : Out :=
  .next (s.runUnit c.toNat 13 (fun m => mopOf m == 0x52) (fun s cmd => s.redFlit c.toNat cmd))

/-- A macro of a fabric queue that only waits for answers looks again (R165, R232, R234). -/
def State.fxSettle (s : State) (c : Nat) : State :=
  if (s.queueOf c 13).phase ≠ 7 then s
  else s.runUnit c 13 (fun _ => true) (fun s cmd => if mopOf cmd.bits.toNat = 0x52 then s.redFlit c cmd else s.fxFlit c cmd)

/-- The children of a window that send to it, as ports. -/
def RWindow.childPorts (v : RWindow) : List Nat := (upto 0 12).filter (fun p => v.children.getLsbD p)

/-- Chunk c has every contribution (R366). -/
def RWindow.complete (v : RWindow) (c : Nat) : Bool :=
  v.armed && decide (c < v.chunks) && !v.doneChunks.contains c &&
    (!v.isLocal || (v.chunkElems c).all (fun i => !(v.own.get [] i).isEmpty)) &&
    v.childPorts.all (fun p => !(v.fromChild.get [] (16 * c + p)).isEmpty)

/-- The combined elements of chunk c: the package's own, or the identity, then the children by port (R66). -/
def RWindow.combine (v : RWindow) (c : Nat) : List (List Byte) :=
  let elems := v.chunkElems c
  (upto 0 elems.length).map (fun n =>
    let own := if v.isLocal then v.own.get [] (elems.getD n 0) else identityElement v.op.toNat v.cols
    v.childPorts.foldl (fun a p =>
      combineElement v.op.toNat v.cols a (((v.fromChild.get [] (16 * c + p)).drop (n * v.pe)).take v.pe)) own)

/-- Chunk c is forwarded or delivered. -/
def RWindow.finishChunk (v : RWindow) (c : Nat) : RWindow :=
  { v with
    own := v.own.filter (fun e => !(v.chunkElems c).contains e.1)
    fromChild := v.fromChild.filter (fun e => e.1 / 16 != c)
    missed := v.missed.set none c none
    doneChunks := v.doneChunks ++ [c] }

/-- Every fabric queue looks again. -/
def State.fxSettleAll (s : State) : State := (upto 0 32).foldl State.fxSettle s

/-- A combined chunk sent to the parent port as one packet on channel 3 (R366), with its timer (R364). -/
def State.forwardChunk (s : State) (w c : Nat) (v : RWindow) : State :=
  let p := v.parent.toNat
  let dst := (s.neighbour s.pkg (p / 3)).getD s.pkg
  let payload := (v.combine c).flatten
  let seq := s.fabric.seqOut.get 0 (8 * dst + 3)
  let pkt : Packet := ⟨mkHeader dst s.pkg 3 6 v.gen.toNat payload.length 0 w (c * v.per) 0 seq.toNat, payload⟩
  let x : Pending := ⟨s.fabric.nextId, BitVec.ofNat 8 dst, 3, seq, s.tai + s.cfg.timer, .chunk v.core, 0,
    BitVec.ofNat 64 (w * 2 ^ 40 + c * v.per)⟩
  let f := { s.fabric with
    seqOut := s.fabric.seqOut.set 0 (8 * dst + 3) (seq + 1)
    pending := s.fabric.pending ++ [x], nextId := s.fabric.nextId + 1 }
  s.setFabric (f.setBuf (13 + p) 3 (f.buf (13 + p) 3 ++ [pkt]))

/-- A window's own work faults: it parks the fabric queue of the core that armed the window, or goes to the porch when that
queue is empty (log 17). -/
def State.chunkFault (s : State) (c : Nat) (code : BitVec 8) (addr : Nat) : State :=
  let u := s.queueOf c 13
  match u.entries with
  | cmd :: _ => if u.parked.isSome then s else s.parkQueue c 13 cmd code (some addr) 0 (u.ctr.toNat + 1) 5
  | [] => s.addEvent (s.partOfCore c) ⟨1, s.engineRecord c 13 0 code (some addr) 0 u.mpc u.mpc⟩

/-- A delivery whose translation is not present in park mode (R283): the event is posted with the first walk of a page, and the
chunk waits; 1 ms later it is fault 0x06. -/
def State.chunkMiss (s : State) (w c a : Nat) (v : RWindow) : State :=
  match missAgain (v.missed.get none c) a s.tai with
  | none => s.chunkFault v.core.toNat 0x06 a
  | some (_, false) => s
  | some (x, true) =>
    let u := s.queueOf v.core.toNat 13
    (s.addEvent (s.partOfCore v.core.toNat) ⟨2, s.engineRecord v.core.toNat 13 0 0x06 (some a) 0 u.mpc u.mpc⟩).setRwindow w
      { v with missed := v.missed.set none c (some x) }

/-- CHUNK_COMBINE (R366): the chunk goes to the parent, or at home to memory, for which the inbound window of its number must
allow writes (R362; DEDUCED, log 78). A delivery that faults parks the fabric queue of the core that armed the window, or goes
to the porch when that queue is empty (log 17). -/
def execChunkCombine (win : BitVec 4) (chunk : Word) (s : State) : Out :=
  .next (let w := win.toNat
    let c := chunk.toNat
    let v := s.rwindow w
    if !v.complete c then s
    else if v.parent ≠ 15 then ((s.forwardChunk w c v).setRwindow w (v.finishChunk c)).fxSettleAll
    else
      let out := (v.combine c).map (deliverElement v.op.toNat)
      let bytes := (out.map (fun e => e.1)).flatten
      let a := (v.base.toNat + windowElem v.op.toNat v.cols * (c * v.per)) % 2 ^ 64
      if !(bit (s.fwindow w).attr.toNat 1) then s.chunkFault v.core.toNat 0x07 a
      else match s.engineWrite v.core.toNat 2 a bytes.length (ofBytes bytes) 0 with
      | (.fault f, _) => s.chunkFault v.core.toNat f a
      | (.miss va, s) => s.chunkMiss w c va v
      | (_, s) =>
        ((s.modCore v.core.toNat (fun k => k.raiseFxstat (out.foldl (fun x e => x ||| e.2) 0) false)).setRwindow w
          (v.finishChunk c)).fxSettleAll)

end Sys2Proof.Machine
end

