-- ==== Sys2Proof/Machine/Remote.lean ====
section
/-! DEFINITION. Packets at their destination and answers at their source (spec/12_fabric_host_time.md, R360–R367): inbound
windows, the target checks, acknowledgements, responses, timeouts. -/

namespace Sys2Proof.Machine

/-! ## Memory as the fabric and the host reach it (R279, R360) -/

/-- [addr, addr + n) cut at 64-byte lines. -/
def linePieces : Nat → Nat → Nat → List (Nat × Nat)
  | 0, _, _ => []
  | fuel + 1, a, n =>
    if n = 0 then []
    else
      let m := min n (64 - a % 64)
      (a, m) :: linePieces fuel (a + m) (n - m)

/-- Register words of address space 0 in [va, va + n), if the range lies among them. -/
def State.registerRead (s : State) (va n : Nat) : Option Nat :=
  if (s.register (va / 8 * 8)).isNone then none
  else some (ofBytes ((upto 0 n).map (fun i => BitVec.ofNat 8 ((s.registerBytes (va + i) 1).getD 0))))
def State.registerWrite (s : State) : Nat → Nat → Nat → Nat → State
  | 0, _, _, _ => s
  | fuel + 1, va, n, v =>
    if n = 0 then s
    else
      let m := min n (8 - va % 8)
      (s.setRegisterBytes va m (v % 2 ^ (8 * m))).registerWrite fuel (va + m) (n - m) (v / 2 ^ (8 * m))

/-- One piece of at most 64 bytes of .G, within a line, read for a party outside the package: the coherent copy (R274). There is no
.G address from 2 ^ 52 on (R29). -/
def State.farLoad (s : State) (asid va n : Nat) : LoadRes × State :=
  if 2 ^ 52 < va + n then (.fault 0x06, s)
  else match (if asid = 0 then s.registerRead va n else none) with
  | some v => (.val v, s)
  | none =>
    match s.walk asid va false with
    | (.ok pa pol _, s) =>
      if !s.pooledOk pa then (.fault 0x06, s)
      else if pol = 1 then (if s.badPooled pa then .fault 0x0D else .val (bytesAt s.pooled pa n), s)
      else (if s.fillBad (pa / 64) then .fault 0x0D else .val (s.physNat pa n), s)
    | (_, s) => (.fault 0x06, s)

/-- The same, written: at the L2 that holds the line, or at memory when none does (R279). -/
def State.farStore (s : State) (asid va n v : Nat) : StoreRes × State :=
  if 2 ^ 52 < va + n then (.fault 0x06, s)
  else if asid = 0 ∧ (s.register (va / 8 * 8)).isSome then (.done, s.registerWrite 65 va n v)
  else
    match s.walk asid va true with
    | (.ok pa pol wr, s) =>
      if !s.pooledOk pa then (.fault 0x06, s)
      else if !wr then (.fault 0x07, s)
      else if pol = 1 then (if s.badPooled pa then (.fault 0x0D, s) else (.done, s.uncachedStore pa n v (s.roKeep pa n)))
      else if s.fillBad (pa / 64) then (.fault 0x0D, s)
      else (.done, s.storePhys pa n v (s.roKeep pa n))
    | (_, s) => (.fault 0x06, s)

def State.farReadG (s : State) (asid : Nat) : List (Nat × Nat) → LoadRes × State
  | [] => (.val 0, s)
  | (a, n) :: rest =>
    match s.farLoad asid a n with
    | (.val v, s) =>
      match s.farReadG asid rest with
      | (.val w, s) => (.val (v + w * 2 ^ (8 * n)), s)
      | r => r
    | r => r
def State.farWriteG (s : State) (asid : Nat) : List (Nat × Nat) → Nat → StoreRes × State
  | [], _ => (.done, s)
  | (a, n) :: rest, v =>
    match s.farStore asid a n (v % 2 ^ (8 * n)) with
    | (.done, s) => s.farWriteG asid rest (v / 2 ^ (8 * n))
    | r => r

/-! ## Inbound windows and target checks (R361, R362) -/

/-- attr of a window: whether it maps .W, its address space. -/
def winPlaced (w : FWindow) : Bool := bit w.attr.toNat 0
def winAsid (w : FWindow) : Nat := bits w.attr.toNat 3 12

/-- A source package lies in srect. -/
def winAdmits (w : FWindow) (src : Nat) : Bool := (rectPackages w.srect.toNat).contains src

/-- A .W access of the fabric: an absent place, an offset beyond the placed size, a row in error. -/
def State.farPlaced (s : State) (addr n : Nat) : Option (BitVec 8) :=
  if !s.present (addr / 2 ^ 27) then some 0x0F
  else if 2 ^ 40 ≤ addr ∨ s.placedBytes < addr % 2 ^ 27 + n then some 0x06
  else if s.badPlaced (addr / 2 ^ 27) (addr % 2 ^ 27) n then some 0x0D
  else none

/-- The address in its space that a packet's offset reaches. -/
def Arrived.addr (r : Arrived) : Nat := (r.win.base.toNat + pktOffset r.pkt) % 2 ^ 64

/-- The checks of R362 on an access of `n` bytes: `right` is the attr bit it needs, 0 for a read. -/
def State.targetCheck (s : State) (r : Arrived) (right n : Nat) : Option (BitVec 8) :=
  let p := r.pkt
  let w := r.win
  let a := r.addr
  if w.size.toNat < pktOffset p + n ∨ w.size = 0 then some 0x07
  else if !winAdmits w (pktSrc p) then some 0x07
  else if right ≠ 0 ∧ !(bit w.attr.toNat right) then some 0x07
  else if winPlaced w then s.farPlaced a n
  else
    let pieces := linePieces (n + 1) a n
    let faults := pieces.map (fun x => if right = 0 then
        (match (s.farLoad (winAsid w) x.1 x.2).1 with | .fault f => some f | _ => none)
      else match (s.farStore (winAsid w) x.1 x.2 0).1 with | .fault f => some f | _ => none)
    (((faults.find? (· == some 0x06)).or (faults.find? (· == some 0x07))).or (faults.find? Option.isSome)).join

/-- `n` bytes read, or written in 64-byte-aligned units in increasing order, through a window, after the checks. -/
def State.targetRead (s : State) (r : Arrived) (n : Nat) : Nat × State :=
  let w := r.win
  let a := r.addr
  if winPlaced w then (s.placedNat a n, s)
  else match s.farReadG (winAsid w) (linePieces (n + 1) a n) with
    | (.val v, s) => (v, s)
    | (_, s) => (0, s)
def State.targetWrite (s : State) (r : Arrived) (n v : Nat) : State :=
  let w := r.win
  let a := r.addr
  if winPlaced w then s.setPlaced a n v else (s.farWriteG (winAsid w) (linePieces (n + 1) a n) v).2

/-! ## Taking packets in (R360, R363) -/

/-- The head of an inbox, when it is of this kind, and the inbox without it. -/
def State.takePacket (s : State) (box kind : Nat) : Option (Arrived × State) :=
  match s.fabric.inbox.get [] box with
  | [] => none
  | p :: rest => if pktKind p.pkt = kind then some (p, s.setFabric { s.fabric with inbox := s.fabric.inbox.set [] box rest }) else none

/-- The stream a packet came in (R360); multicast packets are numbered apart (log 15). -/
def pktStream (p : Packet) : Nat := 8 * (if pktKind p = 10 then 256 + pktSrc p else pktSrc p) + pktVc p
/-- Its number has been accepted. -/
def State.seen (s : State) (p : Packet) : Bool := (s.fabric.seqIn.get [] (pktStream p)).contains (BitVec.ofNat 20 (pktSeq p))
/-- The number of a packet is accepted. A receiver remembers the last 2 ^ 19, half of the numbers, so that a number that comes round again
is no duplicate (DESIGN CHOICE, log 97). -/
def State.accepted (s : State) (p : Packet) : State :=
  let l := s.fabric.seqIn.get [] (pktStream p)
  s.setFabric { s.fabric with seqIn := s.fabric.seqIn.set [] (pktStream p) ((BitVec.ofNat 20 (pktSeq p) :: l).take (2 ^ 19)) }

/-- The channel of the answer to a write (R355). -/
def ackVc (vc : Nat) : Nat := if vc = 2 ∨ vc = 4 then 4 else vc

/-- The answer to a packet: it carries the number, window and offset of what it answers (log 12). -/
def State.respond (s : State) (p : Packet) (vc kind aux : Nat) (payload : List Byte) : State :=
  s.buffer 12 ⟨mkHeader (pktSrc p) s.pkg vc kind aux payload.length (pktClass p) (pktWin p) (pktOffset p) 0 (pktSeq p), payload⟩ true

/-- A request handled once its answer has room to leave (R356): discarded when its number has been accepted (R363), refused
with an error response on its own channel (R355, R362), or performed and answered. -/
def State.serve (s : State) (vc kind right : Nat) (size : Packet → Nat) (perform : State → Arrived → State) : Out :=
  .next (match s.takePacket vc kind with
    | none => s
    | some (r, t) =>
      let p := r.pkt
      if s.seen p then t
      else if !(s.canInject (pktVc p) && s.canInject (ackVc (pktVc p))) then s
      else match t.targetCheck r right (size p) with
        | some f =>
          (if f = 0x0D ∧ winPlaced r.win then t.poison r.addr (size p) else t).respond p (pktVc p) 9 f.toNat [0]
        | none => perform (t.accepted p) r)

/-- A write and its acknowledgement. -/
def State.performWrite (s : State) (r : Arrived) : State :=
  (s.targetWrite r r.pkt.payload.length (ofBytes r.pkt.payload)).respond r.pkt (ackVc (pktVc r.pkt)) 1 0 [0]

/-- WRITE (R360). -/
def execWrite (vc : BitVec 3) (s : State) : Out :=
  s.serve vc.toNat 0 1 (fun p => p.payload.length) State.performWrite
/-- MULTICAST_WRITE (R365). -/
def execMulticastWrite (vc : BitVec 3) (s : State) : Out :=
  s.serve vc.toNat 10 1 (fun p => p.payload.length) State.performWrite
/-- READ_REQUEST (R360, R362): a read of as many bytes as the request's payload has (log 12). -/
def execReadRequest (vc : BitVec 3) (s : State) : Out :=
  s.serve vc.toNat 2 0 (fun p => p.payload.length) (fun s r =>
    let p := r.pkt
    let (v, s) := s.targetRead r p.payload.length
    s.respond p (pktVc p) 3 0 (toBytes p.payload.length v))
/-- Bytes an atomic request covers: CAS carries two operands (log 12). -/
def atomicSize (p : Packet) : Nat := if pktAux p = 16 then p.payload.length / 2 else p.payload.length
/-- ATOMIC_REQUEST (R360): indivisible. -/
def execAtomicRequest (vc : BitVec 3) (s : State) : Out :=
  s.serve vc.toNat 4 2 atomicSize (fun s r =>
    let p := r.pkt
    let n := atomicSize p
    let (old, s) := s.targetRead r n
    let s := if pktAux p = 16 then
        (if old = ofBytes (p.payload.take n) then s.targetWrite r n (ofBytes (p.payload.drop n)) else s)
      else s.targetWrite r n (amoF (pktAux p) n old (ofBytes p.payload))
    s.respond p (pktVc p) 5 0 (toBytes n old))

/-- REDUCTION (R367): a kind-6 packet enters its window's combining store. One that comes by a port that is no child's is accepted
and dropped, also a child's own that was sent again through a sibling port (R363; DESIGN CHOICE, log 98). -/
def execReduction (vc : BitVec 3) (s : State) : Out :=
  .next (match (upto 0 12).find? (fun p =>
      match s.fabric.inbox.get [] (16 + p) with
      | q :: _ => pktVc q.pkt == vc.toNat && s.takesReduction q.pkt
      | [] => false) with
    | none => s
    | some p =>
      match s.takePacket (16 + p) 6 with
      | none => s
      | some (r, s) =>
        let q := r.pkt
        let v := s.rwindow (pktWin q)
        let c := pktOffset q / v.per
        if s.seen q then s
        else if !v.children.getLsbD p || v.doneChunks.contains c then s.accepted q
        else (s.accepted q).setRwindow (pktWin q) { v with fromChild := v.fromChild.set [] (16 * c + p) q.payload })

/-- MANAGEMENT (R355): a management packet is received on channel 5. What porches say to each other is theirs. -/
def execManagement (vc : BitVec 3) (s : State) : Out :=
  .next (match s.takePacket vc.toNat 8 with
    | none => s
    | some (r, s) =>
      if s.seen r.pkt || vc != 5 then s
      else { s.accepted r.pkt with managed := r.pkt.payload :: s.managed })

/-- The porch sends a management packet, on channel 5 (R355). -/
def State.manage (s : State) (dst : Nat) (data : List Byte) : State :=
  if s.canInject 5 ∧ data ≠ [] then s.inject dst 5 8 0 0 0 0 0 (data.take 4096) else s

/-- The porch reads `n` bytes at an offset of a window of another package, attestation or telemetry among them, on channel 5
(R355), with the timer of R364. -/
def State.manageRead (s : State) (dst win offset n : Nat) : State :=
  if s.canInject 5 ∧ n ≠ 0 ∧ n ≤ 4096 then
    s.request dst 5 2 0 0 win offset (List.replicate n 0) .manage
      (bits dst 4 4 * 2 ^ 48 + bits dst 0 4 * 2 ^ 44 + win * 2 ^ 40 + offset % 2 ^ 40)
  else s

/-! ## Answers (R360, R364) -/

/-- What a response answers. -/
def State.pendingOf (s : State) (p : Packet) : Option Pending :=
  s.fabric.pending.find? (fun x => x.dst.toNat == pktSrc p && x.seq.toNat == pktSeq p && fWin x.addr.toNat == pktWin p &&
    fOff x.addr.toNat == pktOffset p &&
    pktVc p == (if pktKind p = 1 then ackVc x.vc.toNat else x.vc.toNat))
def State.dropPending (s : State) (id : Nat) : State :=
  s.setFabric { s.fabric with pending := s.fabric.pending.filter (fun x => x.id != id) }

/-- The value of a load whose requested bytes are `v`: the strand's own stores to them that were held when it left lie over them
(R147). -/
def FarLoad.value (f : FarLoad) (v : Nat) : Nat :=
  let peek (a m : Nat) : Nat := bits v (8 * (a - f.span.1)) (8 * m)
  overlayStores f.own peek f.addr f.size (peek f.addr f.size)

/-- A load or an atomic of the fabric is answered (R143): the value, and the acquire. -/
def State.completeLoad (s : State) (id : Nat) (a : Agent) (v : Nat) : State :=
  s.asAgent a (fun s =>
    match s.me.far.findIdx? (fun f => f.id == some id) with
    | some j =>
      match s.me.far[j]? with
      | some f => (s.finishLoad j f (f.value v)).farFault
      | none => s
    | none => s)

/-- A load or an atomic of the fabric fails. -/
def State.failLoad (s : State) (id : Nat) (a : Agent) (code : BitVec 8) : State :=
  s.asAgent a (fun s =>
    (s.modMe (fun t => { t with
      far := t.far.map (fun f => if f.id == some id then { f with failed := some code } else f) })).farFault)

/-- A .F store or RED is performed: its entry leaves the store queue. -/
def State.completeStore (s : State) (a : Agent) (id : Nat) : State :=
  s.setStoreq a ((s.strandOf a).storeq.filter (fun e => e.sent != some id))

/-- A packet of an engine is acknowledged. -/
def State.completeSend (s : State) (c id : Nat) : State :=
  (s.modQueue c 13 (fun u => { u with late := u.late.filter (fun e => e.1 != id) })).fxSettle c

/-- A request fails with a code: precisely for a load, delayed-precisely for a store, with the window of the unacknowledged
packets for an engine (R45, R144, R364). -/
def State.failRequest (s : State) (x : Pending) (code : BitVec 8) : State :=
  let s := s.dropPending x.id
  match x.waiter with
  | .load a => s.failLoad x.id a code
  | .store a => s.setStoreq a ((s.strandOf a).storeq.map (fun e =>
      if e.sent = some x.id then { e with sent := none, fault := some code } else e))
  | .engine c =>
    let c := c.toNat
    let u := s.queueOf c 13
    match u.entries with
    | [] => s
    | cmd :: _ =>
      if u.parked.isSome || !u.late.any (fun e => e.1 == x.id) then s
      else
        let hi := u.ctr.toNat
        let m := cmd.bits.toNat
        if mopOf m = 0x52 then s.parkQueue c 13 cmd code (some x.addr.toNat) 0 hi 5
        else
          let k := (u.late.filter (fun e => !s.isPending e.1)).foldl (fun a e => min a e.2.1) u.mark
          (s.modQueue c 13 (fun u => { u with ctr := BitVec.ofNat 80 (fxCtr 0 k 0), mark := k, bytes := [] })).parkQueue
            c 13 cmd code (some x.addr.toNat) 0 hi 5
  | .chunk c => s.chunkFault c.toNat code x.addr.toNat
  | .manage => s

/-- An answer of a kind on a channel; one that answers nothing is discarded (R364). -/
def State.answer (s : State) (vc kind : Nat) (f : State → Pending → Packet → State) : Out :=
  .next (match s.takePacket vc kind with
    | none => s
    | some (r, s) =>
      match s.pendingOf r.pkt with
      | none => s
      | some x => f s x r.pkt)

/-- What an answer completes. -/
def State.completeRequest (s : State) (x : Pending) (p : Packet) : State :=
  let s := s.dropPending x.id
  match x.waiter with
  | .load a => s.completeLoad x.id a (ofBytes p.payload)
  | .store a => s.completeStore a x.id
  | .engine c => s.completeSend c.toNat x.id
  | .chunk _ => s
  | .manage => { s with managed := p.payload :: s.managed }

/-- WRITE_ACKNOWLEDGEMENT (R360). -/
def execWriteAcknowledgement (vc : BitVec 3) (s : State) : Out := s.answer vc.toNat 1 State.completeRequest
/-- READ_RESPONSE (R360). -/
def execReadResponse (vc : BitVec 3) (s : State) : Out := s.answer vc.toNat 3 State.completeRequest
/-- ATOMIC_RESPONSE (R360). -/
def execAtomicResponse (vc : BitVec 3) (s : State) : Out := s.answer vc.toNat 5 State.completeRequest
/-- ERROR_RESPONSE (R362). -/
def execErrorResponse (vc : BitVec 3) (s : State) : Out :=
  s.answer vc.toNat 9 (fun s x p => s.failRequest x (BitVec.ofNat 8 (pktAux p)))

/-- FABRIC_TIMEOUT (R364): the timer of request `seq`, by the model's own number, has expired: fault 0x0E. -/
def execFabricTimeout (seq : Nat) (s : State) : Out :=
  .next (match s.fabric.pending.find? (fun x => x.id == seq) with
    | none => s
    | some x =>
      if s.tai < x.deadline then s
      else
        let s := match s.route x.dst.toNat with
          | some p => if p < 12 then s.modPort p (fun v => { v with timeouts := (v.timeouts + 1) % 2 ^ 64 }) else s
          | none => s
        s.failRequest x 0x0E)

end Sys2Proof.Machine
end

