-- ==== Sys2Proof/Machine/Device.lean ====
section
/-! DEFINITION. The device around the cores: mitigation windows, time, power and throttling, links, the host port, boot and
attestation (spec/08_shafts_arrays_landing.md, R250; spec/12_fabric_host_time.md, R368–R381; spec/01_machine_state.md,
R46), and reserved encodings (spec/03_encoding_and_assembly.md, R85). -/

namespace Sys2Proof.Machine

/-! ## True time (R3, R250) -/

/-- The clk period in units of 1/72 ns: 0.5556 ns × (1 + L/8) (R3, R380). -/
def State.clkUnits (s : State) : Nat := 5 * (8 + s.power.level.toNat)

/-! ## Mitigation windows (R250) -/

/-- A fill under way in shaft `n`. -/
def State.fillOf (s : State) (n : Nat) : Option Fill :=
  let p := shaftPlace n
  ((s.core (coreOfPlace (placeRow p) (placeCol p))).arrayAt (placeRow p % 8) (placeCol p % 8)).fill

/-- MITIGATION_WINDOW: one that is due opens, when no transfer runs, and is counted; fills and swaps in the shaft wait. Each
grid point has its window. -/
def execMitigationWindow (p : Place) (s : State) : Out :=
  .next (let n := shaftIndex p.toNat
    let t := s.shaft n
    let runs := match s.fillOf n with | some f => f.running | none => false
    if s.present p.toNat && !t.open_ && s.windowDue n && !runs then
      s.setShaft n { t with open_ := true, windows := t.windows + 1, grid := t.grid + 1, since := s.upNs }
    else s)

/-- MITIGATION_WINDOW_END. -/
def execMitigationWindowEnd (p : Place) (s : State) : Out :=
  .next (let n := shaftIndex p.toNat
    s.setShaft n { s.shaft n with open_ := false })

/-- `n` clks of an open window: each costs the fill of its shaft so many (R250, R381); 350 ns after it opened it is over. -/
def State.windowRuns (s : State) (n shaft : Nat) (t : ShaftTel) : ShaftTel :=
  if t.open_ then
    let left := 72 * (t.since + 350) - s.up
    let cost := if (s.fillOf shaft).isSome then min n (ceilDiv left s.clkUnits) else 0
    { t with lost := t.lost + BitVec.ofNat 32 cost, open_ := decide (n * s.clkUnits < left) }
  else t

/-- `n` clks of the mitigation windows. -/
def State.windowClks (s : State) (n : Nat) : State :=
  { s with shafts := s.shafts.map (fun e => (e.1, s.windowRuns n e.1 e.2)) }

/-! ## Time (R372–R374) -/

/-- What `ns` of true time add to the time base: the slew moves it by at most 200 ppm, 1 ns in 5,000 (R372). -/
def Servo.slewStep (v : Servo) (ns : Nat) : Int :=
  let n := (v.rest + ns) / 5000
  sat v.slew (-(n : Int)) n

/-- `ns` of true time pass (R372); the ticks whose times are reached fire (R308). -/
def State.passTime (s : State) (ns : Nat) : State :=
  let a := s.servo.slewStep ns
  let s := { s with
    tai := ((s.tai : Int) + ns + a).toNat
    servo := { s.servo with slew := s.servo.slew - a, rest := (s.servo.rest + ns) % 5000 } }
  State.fireDue s.dueBound s

/-- How far this package is ahead of its master (R372), before the correction by the link's asymmetry constant. -/
def stampsAhead (t : TimeStamps) : Int :=
  (((t.t2.toNat : Int) - t.t1.toNat) - ((t.t4.toNat : Int) - t.t3.toNat)) / 2

/-- The servo on a measured offset (R372): more than 1 ms behind is one forward step; anything else is slewed away. -/
def State.discipline (s : State) (ahead : Int) : State :=
  let v := s.servo
  if ahead < -1000000 then
    let s := { s with
      tai := ((s.tai : Int) - ahead).toNat
      servo := { v with status := 3, offset := ahead, slew := 0, goodSince := none } }
    let s := { s with servo := { s.servo with lastMsg := s.tai } }
    State.fireDue s.dueBound s
  else
    let good := if decide (-100 < ahead) && decide (ahead < 100) then some (v.goodSince.getD s.tai) else none
    let locked := match good with | some t => decide (t + 1000000000 ≤ s.tai) | none => false
    { s with servo := { v with
      status := if locked then 1 else 3, offset := ahead, slew := -ahead, lastMsg := s.tai, goodSince := good } }

/-- A package with a time parent counts it as locked while its exchanges arrive (R373). -/
def State.followsParent (s : State) : Bool :=
  s.servo.parent.isSome && (match s.servo.parentMsg with
    | some t => decide (s.tai ≤ t + 2000000000)
    | none => false)

/-- PTP_SYNC (R372, R373): the own adapter disciplines a package that follows no parent. One that has lost the link to its
parent is in holdover until the porch names another. -/
def execPtpSync (stamps : TimeStamps) (s : State) : Out :=
  .next (if s.followsParent || s.servo.parent.isSome && s.servo.lost then s
    else s.discipline (stampsAhead stamps - s.cfg.asym))

/-- The package at the far end of a port. -/
def State.farEnd (s : State) (p : Nat) : Option Nat := s.neighbour s.pkg (p / 3)

/-- A time message (kind 7) to a package on channel 0 (R355, R373); its payload is not given (log 12). -/
def State.timeMessage (s : State) (dst : Nat) : State :=
  if s.canInject 0 then s.inject dst 0 7 0 0 0 0 0 [0] else s

/-- The exchange with the time parent at port p (R373): its message is taken, the stamps discipline the time base, and the
delay request leaves. The stamps are taken at the ports' serialisers, which measures the link delay. -/
def State.exchange (s : State) (p : Nat) (stamps : TimeStamps) : State :=
  let s := s.discipline (stampsAhead stamps)
  let s := { s with servo := { s.servo with parentMsg := some s.tai } }
  match s.farEnd p with
  | some parent => s.timeMessage parent
  | none => s

/-- TIME (R373): the exchange with the time parent, over a link that is up and has not been lost. A message of a package that
has this one as its parent is answered. -/
def execTime (stamps : TimeStamps) (s : State) : Out :=
  .next (
    let parent := match s.servo.parent with
      | some p => if (s.fabric.port p).up && !s.servo.lost then some p else none
      | none => none
    match s.takePacket 0 7 with
    | some (r, t) =>
      if s.seen r.pkt then t
      else
        let t := t.accepted r.pkt
        match parent with
        | some p => if s.farEnd p = some (pktSrc r.pkt) then t.exchange p stamps else t.timeMessage (pktSrc r.pkt)
        | none => t.timeMessage (pktSrc r.pkt)
    | none =>
      match parent with
      | some p => s.exchange p stamps
      | none => s)

/-- HOLDOVER_TIMEOUT (R372): after two seconds without messages the time base runs free, with no slewing left. -/
def execHoldoverTimeout (s : State) : Out :=
  .next (if s.servo.status ≠ 0 ∧ s.servo.lastMsg + 2000000000 ≤ s.tai then
    { s with servo := { s.servo with status := 2, goodSince := none, slew := 0 } } else s)

/-! ## Power (R379, R380) -/

/-- PSTATE_WRITE (R379). -/
def execPstateWrite (state : BitVec 2) (s : State) : Out := .next (s.writePstate state.toNat)

/-- P0, or P1 while the device throttles (R379). -/
def Power.runState (w : Power) : BitVec 2 := if w.level = 0 then 0 else 1

/-- POWER_STATE_RETURN (R379). -/
def execPowerStateReturn (s : State) : Out :=
  .next (if s.power.returning then
    { s with power := { s.power with pstate := s.power.runState, returning := false } } else s)

/-- A die temperature has reached the limit of the image (R380). -/
def State.hot (s : State) : Bool := (upto 0 4).any (fun d => decide (s.cfg.tempLimit ≤ s.power.sensed.get 0 (2 + d)))
/-- The package power averaged over 1 ms exceeds the limit of the image (R380). -/
def State.overPower (s : State) : Bool := decide (s.cfg.powerLimit < s.power.sensed.get 0 0)

/-- THROTTLE_CHANGE (R380): the level rises for a cause and falls when both are clear; the causes are those that hold (log 2). -/
def execThrottleChange (level : BitVec 3) (temperature pw : Bool) (s : State) : Out :=
  .next (if temperature != s.hot || pw != s.overPower then s
  else
    let cause := temperature || pw
    let w := { s.power with temperature := temperature, powerCause := pw }
    let w := if cause && decide (w.level < level) || !cause && decide (level < w.level) then { w with level := level } else w
    { s with power := { w with pstate := if w.pstate = 2 ∨ w.pstate = 3 then w.pstate else w.runState } })

/-! ## Die edges and the host port (R368, R369) -/

/-- EDGE_MODULE_FAILURE (R368): the module joins the edge's mask. -/
def execEdgeModuleFailure (edge : BitVec 2) (module : BitVec 6) (s : State) : Out :=
  .next (if module.toNat < 48 then
    { s with power := { s.power with
        edges := s.power.edges.set 0 edge.toNat (s.power.edges.get 0 edge.toNat ||| BitVec.ofNat 48 (2 ^ module.toNat)) } }
    else s)

/-- HOST_LINK_LANE_FAILURE (R369): with `lanes` lanes left the link runs on 16, 8 or 4 of them. -/
def execHostLinkLaneFailure (lanes : BitVec 5) (s : State) : Out :=
  .next (let n := min s.power.hostLanes lanes.toNat
    { s with power := { s.power with hostLanes := if 16 ≤ n then 16 else if 8 ≤ n then 8 else if 4 ≤ n then 4 else 0 } })

/-- A window that maps nothing. -/
def closedWindow : HostIn := ⟨0, 0, 0, 0, false, false⟩

/-- Bytes of a host access. -/
def hostBytes : HostOp → Nat
  | .read n => n
  | .write data => data.length

/-- The first of some addresses whose translation is not present in park mode (R283). -/
def State.hostMiss (s : State) (asid : Nat) : List Nat → Option Nat × State
  | [] => (none, s)
  | va :: rest =>
    match s.walk asid va false with
    | (.notPresent _, s) => if s.parkMode asid then (some va, s) else s.hostMiss asid rest
    | (_, s) => s.hostMiss asid rest

/-- The partition that runs in an address space. -/
def State.partWithAsid (s : State) (asid : Nat) : Nat :=
  ((s.parts.find? (fun e => e.2.asid.toNat == asid)).map (fun e => e.1)).getD 0

/-- A host access tried: what it goes on to wait for, when a translation is not present in park mode (R283). After 1 ms without
success it is dropped (DEDUCED, log 55). -/
def State.hostTry (s : State) (x : HostWait) : Option HostWait × State :=
  let w := s.hostIn.get closedWindow x.win.toNat
  let at_ := x.offset.toNat - w.off
  let n := hostBytes x.access
  let asid := w.asid.toNat
  let allowed := match x.access with | .read _ => w.readable | .write _ => w.writable
  let pieces := linePieces (n + 1) (w.base + at_) n
  if !(allowed && decide (w.off ≤ x.offset.toNat) && decide (at_ + n ≤ w.size) && s.power.pstate != 3) then (none, s)
  else match s.hostMiss asid (if asid = 0 ∧ (s.registerRead (w.base + at_) n).isSome then [] else pieces.map (fun p => p.1)) with
    | (some va, s) =>
      match missAgain x.missed va s.tai with
      | none => (none, s)
      | some (r, new) => (some { x with missed := some r }, if new then s.ingestMiss (s.partWithAsid asid) va else s)
    | (none, s) =>
      match x.access with
      | .read _ =>
        match s.farReadG asid pieces with
        | (.val v, s) => (none, { s with hostReads := toBytes n v :: s.hostReads })
        | (_, s) => (none, s)
      | .write data => (none, (s.farWriteG asid pieces (ofBytes data)).2)

/-- HOST_ACCESS (R369): performed at L2 through an inbound window, at an adapter offset of its range, after the accesses through
the window that still wait. An access outside the window, without the right, or in P3 (R379) has no effect. -/
def execHostAccess (win : BitVec 3) (offset : DWord) (access : HostOp) (s : State) : Out :=
  .next (let x : HostWait := ⟨win, offset, access, none⟩
    if s.hostWaits.any (fun y => y.win == win) then { s with hostWaits := s.hostWaits ++ [x] }
    else match s.hostTry x with
      | (some x, s) => { s with hostWaits := s.hostWaits ++ [x] }
      | (none, s) => s)

/-- The accesses of a window that wait for a translation are tried again, in order, up to one that goes on waiting (R283, R369). -/
def State.hostRetry (s : State) (win : BitVec 3) : State :=
  let rec go : List HostWait → State → List HostWait × State
    | [], s => ([], s)
    | x :: rest, s =>
      match s.hostTry x with
      | (some x, s) => (x :: rest, s)
      | (none, s) => go rest s
  let r := go (s.hostWaits.filter (fun x => x.win == win)) s
  { r.2 with hostWaits := s.hostWaits.filter (fun x => x.win != win) ++ r.1 }

/-! ## The debug path (R243, R371) -/

/-- A strand that the debug path reads and writes: halted, on a core with dbg = 1. -/
def State.debuggable (s : State) (c k : Nat) : Bool :=
  (s.core c).dbg && (match ((s.core c).strand k).run with
    | .debugged | .halted | .trapped => true
    | .absent | .ready | .parked _ | .memory _ => false)

/-- The context of strand k of core c in the layout of R340. -/
def State.strandBytes (s : State) (c k : Nat) : Cells Byte :=
  putFields [] 0 (s.strandFields (.strand (BitVec.ofNat 5 c) (BitVec.ofNat 3 k)) ((s.core c).windowBase k))

/-- The debug path reads `n` bytes at an offset of the strand context table. -/
def State.debugRead (s : State) (c k offset n : Nat) : State :=
  if s.debuggable c k && decide (offset + n ≤ 32768) then
    { s with debugReads := toBytes n (bytesAt (s.strandBytes c k) offset n) :: s.debugReads }
  else s

/-- The debug path reads `n` bytes of the context of a core that has such a strand: ring descriptors and the rest of the core's state
(R25, R340). -/
def State.debugCore (s : State) (c k offset n : Nat) : State :=
  if s.debuggable c k && decide (offset + n ≤ contextBytes) then
    { s with debugReads := toBytes n (bytesAt (s.contextBody c) offset n) :: s.debugReads }
  else s

/-- The debug path writes `n` bytes at an offset of the strand context table. -/
def State.debugWrite (s : State) (c k offset n data : Nat) : State :=
  if s.debuggable c k && decide (offset + n ≤ 32768) then
    s.modCore c (fun co => co.setStrand k ((co.strand k).ofContext s.clk (setBytes (s.strandBytes c k) offset n data)))
  else s

/-! ## What else the outside does (log 1) -/

/-- One input. -/
def State.input (s : State) : Input → State
  | .rowError n row b => { s with bad := s.bad.set false (n * 2 ^ 17 + row) b }
  | .beat c a n => s.fillBeat c.toNat (a.toNat / 8) (a.toNat % 8) n.toNat
  | .hostReplay => { s with power := { s.power with hostReplays := (s.power.hostReplays + 1) % 2 ^ 32 } }
  | .hostWindow n w => { s with hostIn := s.hostIn.set closedWindow n.toNat w }
  | .timeParent p => { s with servo := { s.servo with parent := p.map (fun x => x.toNat), parentMsg := none, lost := false } }
  | .sense n v => { s with power := { s.power with sensed := s.power.sensed.set 0 n v } }
  | .debugRead c k o n => s.debugRead c.toNat k.toNat o n
  | .debugWrite c k o n d => s.debugWrite c.toNat k.toNat o n d
  | .debugCore c k o n => s.debugCore c.toNat k.toNat o n
  | .hostRetry w => s.hostRetry w
  | .manage d data => s.manage d.toNat data
  | .manageRead d w o n => s.manageRead d.toNat w.toNat o n

/-! ## Boot and attestation (R46, R324, R375–R378) -/

/-- Two rectangles share no array. -/
def Rect.apart (a b : Rect) : Bool :=
  decide (a.row + a.rows ≤ b.row) || decide (b.row + b.rows ≤ a.row) ||
    decide (a.col + a.cols ≤ b.col) || decide (b.col + b.cols ≤ a.col)

/-- The enabled partitions of an image. -/
def enabledParts (c : Cfg) : List (Nat × PartCfg) := c.parts.filter (fun e => e.2.en)

/-- The rectangles of a partition: its own and its spare, 0 for none (R323). -/
def partRects (p : PartCfg) : List Rect :=
  Rect.ofBits p.rect.toNat :: if p.spare = 0 then [] else [Rect.ofBits p.spare.toNat]

/-- All pairs of a list satisfy a relation. -/
def allPairs {α : Type} (f : α → α → Bool) : List α → Bool
  | [] => true
  | a :: rest => rest.all (f a) && allPairs f rest

/-- The ranges of a queue descriptor's fields (R325); that boot checks them is the model's reading (DEDUCED, log 4). -/
def queueAccepted (d : QueueDesc) : Bool :=
  (d.be == 0 || decide (10 ≤ d.be ∧ d.be ≤ 16)) && decide (d.t1 ≤ 1000000) && d.hdr % 256 == 0 &&
    decide (d.windows.length ≤ 4) && d.windows.all (fun w => [1, 2, 3, 5].contains w.space)

/-- What boot requires of a configuration image (R245, R323, R324, R340). -/
def imageAccepted (c : Cfg) : Bool :=
  let ps := enabledParts c
  c.placedRows % 64 == 0 && decide (c.placedRows ≤ 98304) && decide (72 ≤ c.cellarRows) &&
    decide (c.cellarRows ≤ c.placedRows) &&
    ps.all (fun e => (partRects e.2).all Rect.wholeCores) &&
    allPairs Rect.apart (ps.flatMap (fun e => partRects e.2)) &&
    allPairs (fun a b => a.2.asid != b.2.asid) ps &&
    ps.all (fun e => (upto 0 64).all (fun q => !e.2.qmask.getLsbD q || q / 16 == rectDie e.2.rect)) &&
    ps.all (fun e => (upto 0 64).any (fun q => e.2.qmask.getLsbD q && (c.queues.get QueueDesc.off q).en)) &&
    c.queues.all (fun e => queueAccepted e.2)

/-- A copy in the flash that the boot ROM accepts (R375, R376): its length, its digest, and the signature over that. -/
def flashVerifies (f : FlashCopy) : Bool :=
  f.length == f.body.length && f.digest == digest512 (Config.headerBytes f ++ f.body) &&
    Config.mldsaVerify Config.romKey f.digest f.signature

/-- Copy B of item 0, the configuration image, or 1, the firmware, is used: copy A fails and B does not; none when both
fail (R376). -/
def bootCopy (c : Cfg) (item : Nat) : Option Bool :=
  if flashVerifies (c.flash.get FlashCopy.blank (2 * item)) then some false
  else if flashVerifies (c.flash.get FlashCopy.blank (2 * item + 1)) then some true
  else none

/-- PACKAGE_RESET (R46, R376): the reset state under the same flash; what lies in the host's memory is the host's. A boot
that fails leaves a package that runs nothing. -/
def execPackageReset (s : State) : Out :=
  .next (let c := s.cfg
    let image := bootCopy c 0
    let firmware := bootCopy c 1
    let fail : BitVec 2 := if image.isNone || !imageAccepted c then 1 else if firmware.isNone then 2 else 0
    { State.boot c with
      host := s.host
      hostReads := s.hostReads
      debugReads := s.debugReads
      copyB := BitVec.ofNat 2 ((image == some true).toNat + 2 * (firmware == some true).toNat)
      booted := fail == 0
      bootFail := fail })

/-- A list of bytes cut or padded with zeros to `n`. -/
def fixedBytes (n : Nat) (l : List Byte) : List Byte := (upto 0 n).map (fun i => l.getD i 0)

/-- The copy of an item that is in use (R376). -/
def State.flashCopy (s : State) (item : Nat) : FlashCopy :=
  s.cfg.flash.get FlashCopy.blank (2 * item + (bit s.copyB.toNat item).toNat)

/-- ξ, from which the identity key is derived at every boot (R377): "WENRAL-CH48-ID" follows the seed. -/
def identitySeed : List Byte :=
  shake256 (toBytes 32 Config.seed.toNat ++
    [0x57, 0x45, 0x4E, 0x52, 0x41, 0x4C, 0x2D, 0x43, 0x48, 0x34, 0x38, 0x2D, 0x49, 0x44]) 32

/-- The identity public key (R377). -/
def identityKey : List Byte := fixedBytes 1952 (Config.mldsaPublic identitySeed)

/-- The device id (R377). -/
def deviceId : List Byte := shake256 identityKey 16

/-- Bytes 0x000–0x8DF of the attestation report (R378). -/
def State.reportBody (s : State) (nonce : BitVec 256) : List Byte :=
  toBytes 4 0x54544148 ++ toBytes 2 1 ++ toBytes 2 s.copyB.toNat ++ toBytes 32 nonce.toNat ++
    deviceId ++ toBytes 64 (s.flashCopy 1).digest.toNat ++ toBytes 64 (s.flashCopy 0).digest.toNat ++
    toBytes 4 (s.flashCopy 1).secver.toNat ++ toBytes 4 (s.flashCopy 0).secver.toNat ++ toBytes 8 s.tai ++ toBytes 56 0 ++
    toBytes 64 s.measure.toNat ++ identityKey

/-- The whole report. -/
def State.attestReport (s : State) (nonce : BitVec 256) : List Byte :=
  let body := s.reportBody nonce
  body ++ fixedBytes 3309 (Config.mldsaSign identitySeed (digest512 body))

/-- A list of bytes as a table. -/
def byteTable (l : List Byte) : Cells Byte := (upto 0 l.length).foldl (fun m i => m.set 0 i (l.getD i 0)) []

/-- ATTESTATION_REQUEST (R378): the report is written at a .H address, where a writable outbound window maps it (R370). -/
def execAttestationRequest (nonce : BitVec 256) (dest : DWord) (s : State) : Out :=
  .next (let r := s.attestReport nonce
    s.writeHost dest.toNat r.length (byteTable r))

/-! ## Reserved encodings (R85) -/

/-- RESERVED_ENCODING: fault 0x01, taken precisely. -/
def execReservedEncoding (_w0 _w1 : Word) (s : State) : Out := .next (s.failIssue (raise 0x01))

end Sys2Proof.Machine
end

