-- ==== Sys2Proof/Machine/Scalar.lean ====
section
/-! DEFINITION. Scalar, address and predicate instructions (spec/04_scalar_and_control.md, R103–R120). -/

namespace Sys2Proof.Machine

/-! ## Forms -/

/-- Format A with a value written to x[d] (R103, R108). -/
def State.runA (s : State) (f : FA) (v : DWord) : Out :=
  s.run 1 none (s.guard4 f.g) [f.d, f.a, f.b] (fun s => s.put f.d v)
/-- Format I (R113). -/
def State.runI (s : State) (f : FI) (v : DWord) : Out :=
  s.run 1 none (s.guard4 f.g) [f.d, f.a] (fun s => s.put f.d v)
/-- Format SY of the immediate forms (R115). -/
def State.runSY (s : State) (f : FSY) (v : DWord) : Out :=
  s.run 2 none (s.guard7 f.g) [f.d, f.a] (fun s => s.put f.d v)
/-- Format F: the result zero-extended, its flags raised (R117). -/
def State.runF (s : State) (f : FF) (r : Res) : Out :=
  s.run 1 none (s.guard4 f.g) [f.d, f.a, f.b] (fun s => s.putF f.d (BitVec.ofNat 64 r.bits) r.flags)
def State.runMinMax (s : State) (f : FMinMax) (r : Res) : Out :=
  s.run 1 none (s.guard4 f.g) [f.d, f.a, f.b] (fun s => s.putF f.d (BitVec.ofNat 64 r.bits) r.flags)

/-- NOP (R107). -/
def execNop (s : State) : Out := s.run 1 none true [] (fun s => .next s)

/-! ## Register forms (R108–R112) -/

/-- ADD (R108). -/
def execAdd (f : FA) (s : State) : Out := s.runA f (s.rx f.a + s.rx f.b)

/-- SUB (R108). -/
def execSub (f : FA) (s : State) : Out := s.runA f (s.rx f.a - s.rx f.b)

/-- AND (R108). -/
def execAnd (f : FA) (s : State) : Out := s.runA f (s.rx f.a &&& s.rx f.b)

/-- OR (R108). -/
def execOr (f : FA) (s : State) : Out := s.runA f (s.rx f.a ||| s.rx f.b)

/-- XOR (R108). -/
def execXor (f : FA) (s : State) : Out := s.runA f (s.rx f.a ^^^ s.rx f.b)

/-- ANDN (R108). -/
def execAndn (f : FA) (s : State) : Out := s.runA f (s.rx f.a &&& ~~~(s.rx f.b))

/-- ORN (R108). -/
def execOrn (f : FA) (s : State) : Out := s.runA f (s.rx f.a ||| ~~~(s.rx f.b))

/-- XNOR (R108). -/
def execXnor (f : FA) (s : State) : Out := s.runA f (~~~(s.rx f.a ^^^ s.rx f.b))

/-- SLL (R108). -/
def execSll (f : FA) (s : State) : Out := s.runA f (s.rx f.a <<< shiftAmount (s.rx f.b))

/-- SRL (R108). -/
def execSrl (f : FA) (s : State) : Out := s.runA f (s.rx f.a >>> shiftAmount (s.rx f.b))

/-- SRA (R108). -/
def execSra (f : FA) (s : State) : Out := s.runA f ((s.rx f.a).sshiftRight (shiftAmount (s.rx f.b)))

/-- ROR (R108). -/
def execRor (f : FA) (s : State) : Out := s.runA f ((s.rx f.a).rotateRight (shiftAmount (s.rx f.b)))

/-- MUL (R108). -/
def execMul (f : FA) (s : State) : Out := s.runA f (s.rx f.a * s.rx f.b)

/-- MULH (R108): the exact signed product shifted right by 64. -/
def execMulh (f : FA) (s : State) : Out := s.runA f (highProduct (s.sx f.a) (s.sx f.b))

/-- MULHU (R108). -/
def execMulhu (f : FA) (s : State) : Out := s.runA f (highProduct (s.ux f.a) (s.ux f.b))

/-- MULHSU (R108): signed by unsigned. -/
def execMulhsu (f : FA) (s : State) : Out := s.runA f (highProduct (s.sx f.a) (s.ux f.b))

/-- DIV (R109). -/
def execDiv (f : FA) (s : State) : Out := s.runA f (divSigned (s.rx f.a) (s.rx f.b))

/-- DIVU (R109). -/
def execDivu (f : FA) (s : State) : Out := s.runA f (divUnsigned (s.rx f.a) (s.rx f.b))

/-- REM (R109). -/
def execRem (f : FA) (s : State) : Out := s.runA f (remSigned (s.rx f.a) (s.rx f.b))

/-- REMU (R109). -/
def execRemu (f : FA) (s : State) : Out := s.runA f (remUnsigned (s.rx f.a) (s.rx f.b))

/-- ADDW (R108). -/
def execAddw (f : FA) (s : State) : Out := s.runA f (wordSext (s.rx f.a + s.rx f.b))

/-- SUBW (R108). -/
def execSubw (f : FA) (s : State) : Out := s.runA f (wordSext (s.rx f.a - s.rx f.b))

/-- MULW (R108). -/
def execMulw (f : FA) (s : State) : Out := s.runA f (wordSext (s.rx f.a * s.rx f.b))

/-- ADDS (R108): saturates to the signed range. -/
def execAdds (f : FA) (s : State) : Out := s.runA f (dword (sat (s.sx f.a + s.sx f.b) (-2 ^ 63) (2 ^ 63 - 1)))

/-- SUBS (R108). -/
def execSubs (f : FA) (s : State) : Out := s.runA f (dword (sat (s.sx f.a - s.sx f.b) (-2 ^ 63) (2 ^ 63 - 1)))

/-- ADDUS (R108): saturates to the unsigned range. -/
def execAddus (f : FA) (s : State) : Out := s.runA f (dword (sat ((s.ux f.a : Int) + s.ux f.b) 0 (2 ^ 64 - 1)))

/-- SUBUS (R108). -/
def execSubus (f : FA) (s : State) : Out := s.runA f (dword (sat ((s.ux f.a : Int) - s.ux f.b) 0 (2 ^ 64 - 1)))

/-- ROL (R108). -/
def execRol (f : FA) (s : State) : Out := s.runA f ((s.rx f.a).rotateLeft (shiftAmount (s.rx f.b)))

/-- SEQ (R110). -/
def execSeq (f : FA) (s : State) : Out := s.runA f (truth (s.rx f.a == s.rx f.b))

/-- SNE (R110). -/
def execSne (f : FA) (s : State) : Out := s.runA f (truth (s.rx f.a != s.rx f.b))

/-- SLT (R110). -/
def execSlt (f : FA) (s : State) : Out := s.runA f (truth ((s.rx f.a).slt (s.rx f.b)))

/-- SLTU (R110). -/
def execSltu (f : FA) (s : State) : Out := s.runA f (truth ((s.rx f.a).ult (s.rx f.b)))

/-- SGE (R110). -/
def execSge (f : FA) (s : State) : Out := s.runA f (truth (!(s.rx f.a).slt (s.rx f.b)))

/-- SGEU (R110). -/
def execSgeu (f : FA) (s : State) : Out := s.runA f (truth (!(s.rx f.a).ult (s.rx f.b)))

/-- MIN (R110): as signed patterns. -/
def execMin (f : FA) (s : State) : Out := s.runA f (if (s.rx f.b).slt (s.rx f.a) then s.rx f.b else s.rx f.a)

/-- MINU (R110). -/
def execMinu (f : FA) (s : State) : Out := s.runA f (if (s.rx f.b).ult (s.rx f.a) then s.rx f.b else s.rx f.a)

/-- MAX (R110). -/
def execMax (f : FA) (s : State) : Out := s.runA f (if (s.rx f.a).slt (s.rx f.b) then s.rx f.b else s.rx f.a)

/-- MAXU (R110). -/
def execMaxu (f : FA) (s : State) : Out := s.runA f (if (s.rx f.a).ult (s.rx f.b) then s.rx f.b else s.rx f.a)

/-- CMOVNZ (R110): x[d] is a source. -/
def execCmovnz (f : FA) (s : State) : Out := s.runA f (if s.rx f.b ≠ 0 then s.rx f.a else s.rx f.d)

/-- CMOVZ (R110). -/
def execCmovz (f : FA) (s : State) : Out := s.runA f (if s.rx f.b = 0 then s.rx f.a else s.rx f.d)

/-- TSTNZ (R110). -/
def execTstnz (f : FA) (s : State) : Out := s.runA f (truth (s.rx f.a &&& s.rx f.b != 0))

/-- TSTZ (R110). -/
def execTstz (f : FA) (s : State) : Out := s.runA f (truth (s.rx f.a &&& s.rx f.b == 0))

/-- SELB (R110): bitwise select with mask x[d]. -/
def execSelb (f : FA) (s : State) : Out := s.runA f ((s.rx f.d &&& s.rx f.a) ||| (~~~(s.rx f.d) &&& s.rx f.b))

/-- CMPS (R110). -/
def execCmps (f : FA) (s : State) : Out := s.runA f (if (s.rx f.a).slt (s.rx f.b) then BitVec.allOnes 64 else if s.rx f.a = s.rx f.b then 0 else 1)

/-- CLZ (R111). -/
def execClz (f : FA) (s : State) : Out := s.runA f (leadingZeros (s.rx f.a))

/-- CTZ (R111). -/
def execCtz (f : FA) (s : State) : Out := s.runA f (trailingZeros (s.rx f.a))

/-- POPC (R111). -/
def execPopc (f : FA) (s : State) : Out := s.runA f (oneBits (s.rx f.a))

/-- BSWAP (R111). -/
def execBswap (f : FA) (s : State) : Out := s.runA f (byteReverse (s.rx f.a))

/-- BEXT (R111). -/
def execBext (f : FA) (s : State) : Out := s.runA f (fieldExtract (s.rx f.a) (fieldPos (s.rx f.b)) (fieldWidth (s.rx f.b)))

/-- BEXTS (R111). -/
def execBexts (f : FA) (s : State) : Out := s.runA f (fieldExtractSigned (s.rx f.a) (fieldPos (s.rx f.b)) (fieldWidth (s.rx f.b)))

/-- BINS (R111). -/
def execBins (f : FA) (s : State) : Out := s.runA f (fieldInsert (s.rx f.d) (s.rx f.a) (fieldPos (s.rx f.b)) (fieldWidth (s.rx f.b)))

/-- SH1ADD (R111). -/
def execSh1add (f : FA) (s : State) : Out := s.runA f ((s.rx f.a <<< 1) + s.rx f.b)

/-- SH2ADD (R111). -/
def execSh2add (f : FA) (s : State) : Out := s.runA f ((s.rx f.a <<< 2) + s.rx f.b)

/-- SH3ADD (R111). -/
def execSh3add (f : FA) (s : State) : Out := s.runA f ((s.rx f.a <<< 3) + s.rx f.b)

/-- SH4ADD (R111). -/
def execSh4add (f : FA) (s : State) : Out := s.runA f ((s.rx f.a <<< 4) + s.rx f.b)

/-- SH6ADD (R111). -/
def execSh6add (f : FA) (s : State) : Out := s.runA f ((s.rx f.a <<< 6) + s.rx f.b)

/-- PLW (R111, R112): a .W address. -/
def execPlw (f : FA) (s : State) : Out := s.runA f (BitVec.ofNat 64 (bits (s.ux f.a) 0 13 * 2 ^ 27 + bits (s.ux f.b) 0 27))

/-- QADDR (R111, R112): a .Q address. -/
def execQaddr (f : FA) (s : State) : Out := s.runA f (BitVec.ofNat 64 (bits (s.ux f.a) 0 12 * 2 ^ 8 + bits (s.ux f.b) 0 8))

/-- FADDR (R111, R112): a .F address. -/
def execFaddr (f : FA) (s : State) : Out := s.runA f (BitVec.ofNat 64 (bits (s.ux f.a) 0 12 * 2 ^ 40 + bits (s.ux f.b) 0 40))

/-- ALIGNUP (R111). -/
def execAlignup (f : FA) (s : State) : Out := s.runA f ((s.rx f.a + ((1#64 <<< shiftAmount (s.rx f.b)) - 1)) &&& ~~~((1#64 <<< shiftAmount (s.rx f.b)) - 1))

/-! ## Immediate forms (R113–R116) -/

/-- ADDI (R113). -/
def execAddi (f : FI) (s : State) : Out := s.runI f (s.rx f.a + f.imm.signExtend 64)

/-- ANDI (R113). -/
def execAndi (f : FI) (s : State) : Out := s.runI f (s.rx f.a &&& f.imm.signExtend 64)

/-- ORI (R113). -/
def execOri (f : FI) (s : State) : Out := s.runI f (s.rx f.a ||| f.imm.signExtend 64)

/-- XORI (R113). -/
def execXori (f : FI) (s : State) : Out := s.runI f (s.rx f.a ^^^ f.imm.signExtend 64)

/-- SLLI (R114). -/
def execSlli (f : FShift) (s : State) : Out :=
  s.run 1 none (s.guard4 f.g) [f.d, f.a] (fun s => s.put f.d (s.rx f.a <<< f.amt.toNat))

/-- SRLI (R114). -/
def execSrli (f : FShift) (s : State) : Out :=
  s.run 1 none (s.guard4 f.g) [f.d, f.a] (fun s => s.put f.d (s.rx f.a >>> f.amt.toNat))

/-- SRAI (R114). -/
def execSrai (f : FShift) (s : State) : Out :=
  s.run 1 none (s.guard4 f.g) [f.d, f.a] (fun s => s.put f.d ((s.rx f.a).sshiftRight f.amt.toNat))

/-- RORI (R114). -/
def execRori (f : FShift) (s : State) : Out :=
  s.run 1 none (s.guard4 f.g) [f.d, f.a] (fun s => s.put f.d ((s.rx f.a).rotateRight f.amt.toNat))

/-- WIDF (R116): field i of the work identifier, zero-extended, plus x[a]. -/
def execWidf (f : FWid) (s : State) : Out :=
  s.run 1 none (s.guard4 f.g) [f.d, f.a] (fun s => s.put f.d (BitVec.ofNat 64 (s.me.widField f.i.toNat) + s.rx f.a))

/-- LI (R113). -/
def execLi (f : FL) (s : State) : Out :=
  s.run 2 none (s.guard7 f.g) [f.d] (fun s => s.put f.d (f.imm.signExtend 64))

/-- LIH (R113). -/
def execLih (f : FL) (s : State) : Out :=
  s.run 2 none (s.guard7 f.g) [f.d, f.a] (fun s => s.put f.d (f.imm ++ (s.rx f.a).setWidth 32))

/-- Wide ADDI (R113). -/
def execAddiWide (f : FL) (s : State) : Out :=
  s.run 2 none (s.guard7 f.g) [f.d, f.a] (fun s => s.put f.d (s.rx f.a + f.imm.signExtend 64))

/-- Wide ANDI (R113). -/
def execAndiWide (f : FL) (s : State) : Out :=
  s.run 2 none (s.guard7 f.g) [f.d, f.a] (fun s => s.put f.d (s.rx f.a &&& f.imm.signExtend 64))

/-- Wide ORI (R113). -/
def execOriWide (f : FL) (s : State) : Out :=
  s.run 2 none (s.guard7 f.g) [f.d, f.a] (fun s => s.put f.d (s.rx f.a ||| f.imm.signExtend 64))

/-- Wide XORI (R113). -/
def execXoriWide (f : FL) (s : State) : Out :=
  s.run 2 none (s.guard7 f.g) [f.d, f.a] (fun s => s.put f.d (s.rx f.a ^^^ f.imm.signExtend 64))

/-- MULI (R115). -/
def execMuli (f : FSY) (s : State) : Out := s.runSY f (s.rx f.a * f.imm.signExtend 64)

/-- SLTI (R115). -/
def execSlti (f : FSY) (s : State) : Out := s.runSY f (truth ((s.rx f.a).slt (f.imm.signExtend 64)))

/-- SLTIU (R115). -/
def execSltiu (f : FSY) (s : State) : Out := s.runSY f (truth ((s.rx f.a).ult (f.imm.signExtend 64)))

/-- SEQI (R115). -/
def execSeqi (f : FSY) (s : State) : Out := s.runSY f (truth (s.rx f.a == f.imm.signExtend 64))

/-- MINI (R115). -/
def execMini (f : FSY) (s : State) : Out := s.runSY f (if (f.imm.signExtend 64).slt (s.rx f.a) then f.imm.signExtend 64 else s.rx f.a)

/-- MAXI (R115). -/
def execMaxi (f : FSY) (s : State) : Out := s.runSY f (if (s.rx f.a).slt (f.imm.signExtend 64) then f.imm.signExtend 64 else s.rx f.a)

/-- BEXTI (R115). -/
def execBexti (f : FSY) (s : State) : Out := s.runSY f (fieldExtract (s.rx f.a) (bits f.imm.toNat 0 6) (bits f.imm.toNat 6 6 + 1))

/-- BEXTSI (R115). -/
def execBextsi (f : FSY) (s : State) : Out := s.runSY f (fieldExtractSigned (s.rx f.a) (bits f.imm.toNat 0 6) (bits f.imm.toNat 6 6 + 1))

/-- BINSI (R115). -/
def execBinsi (f : FSY) (s : State) : Out := s.runSY f (fieldInsert (s.rx f.d) (s.rx f.a) (bits f.imm.toNat 0 6) (bits f.imm.toNat 6 6 + 1))

/-- ADDHI (R115). -/
def execAddhi (f : FSY) (s : State) : Out := s.runSY f (s.rx f.a + ((f.imm.signExtend 64) <<< 24))

/-! ## Scalar FP32 (R117) -/

/-- FADD (R117). -/
def execFadd (f : FF) (s : State) : Out := s.runF f (fpAdd Fmt.fp32 (Rm.ofBits f.rm) (s.fx f.a) (s.fx f.b))

/-- FMUL (R117). -/
def execFmul (f : FF) (s : State) : Out := s.runF f (fpMul Fmt.fp32 (Rm.ofBits f.rm) (s.fx f.a) (s.fx f.b))

/-- FMA (R117): a × b + x[d], rounded once. -/
def execFma (f : FF) (s : State) : Out := s.runF f (fpFma Fmt.fp32 (Rm.ofBits f.rm) (s.fx f.a) (s.fx f.b) (s.fx f.d))

/-- FMAX (R72, R117). -/
def execFmax (f : FMinMax) (s : State) : Out := s.runMinMax f (fpMax Fmt.fp32 (s.fx f.a) (s.fx f.b))

/-- FMIN (R72, R117). -/
def execFmin (f : FMinMax) (s : State) : Out := s.runMinMax f (fpMin Fmt.fp32 (s.fx f.a) (s.fx f.b))

/-- FCVT.f32.i64 (R117). -/
def execFcvtF32I64 (f : FCvt) (s : State) : Out :=
  let r := fpOfInt Fmt.fp32 (Rm.ofBits f.rm) (s.sx f.a)
  s.run 1 none (s.guard4 f.g) [f.d, f.a] (fun s => s.putF f.d (BitVec.ofNat 64 r.bits) r.flags)

/-- FCVT.f32.u64 (R117). -/
def execFcvtF32U64 (f : FCvt) (s : State) : Out :=
  let r := fpOfInt Fmt.fp32 (Rm.ofBits f.rm) (s.ux f.a)
  s.run 1 none (s.guard4 f.g) [f.d, f.a] (fun s => s.putF f.d (BitVec.ofNat 64 r.bits) r.flags)

/-- FCVT.i64.f32 (R57, R117). -/
def execFcvtI64F32 (f : FCvt) (s : State) : Out :=
  let r := intFrom 64 (Rm.ofBits f.rm) (s.fx f.a)
  s.run 1 none (s.guard4 f.g) [f.d, f.a] (fun s => s.putF f.d (dword r.val) r.flags)

/-- FCVT.i32.f32 (R57, R117): sign-extended to 64 bits. -/
def execFcvtI32F32 (f : FCvt) (s : State) : Out :=
  let r := intFrom 32 (Rm.ofBits f.rm) (s.fx f.a)
  s.run 1 none (s.guard4 f.g) [f.d, f.a] (fun s => s.putF f.d (dword r.val) r.flags)

/-! ## Special-register moves (R118, R119) -/

/-- MFS (R118). -/
def execMfs (f : FS) (s : State) : Out :=
  s.run 1 none (s.guard4 f.g) [f.d] (fun s => s.put f.d (s.specialRead f.sreg.toNat))

/-- MTS (R118): the source is x[d]. -/
def execMts (f : FS) (s : State) : Out :=
  s.run 1 none (s.guard4 f.g) [f.d] (fun s => .next (s.modMe (fun t => t.specialWrite f.sreg.toNat (s.rx f.d))))

/-! ## Predicate moves and select (R120) -/

/-- PCMP (R120): the whole predicate from one comparison; cc 6 and 7 are fault 0x02. -/
def execPcmp (f : FSY) (s : State) : Out :=
  s.run 2 none (s.guard7 f.g) [f.a, f.b] (fun s => .next (s.modMe (fun t =>
    t.wp (bits f.imm.toNat 0 7)
      (allOrNone (branchCond (bits f.imm.toNat 8 3) (s.rx f.a) (s.rx f.b))))))

/-- MPX (R120): row 0 of the predicate. -/
def execMpx (f : FSY) (s : State) : Out :=
  s.run 2 none (s.guard7 f.g) [f.d] (fun s => s.put f.d ((s.me.rp (bits f.imm.toNat 0 7)).setWidth 64))

/-- MXP (R120): every row of the predicate := x[a]. -/
def execMxp (f : FSY) (s : State) : Out :=
  s.run 2 none (s.guard7 f.g) [f.a] (fun s =>
    .next (s.modMe (fun t => t.wp (bits f.imm.toNat 0 7) (eachRow (s.rx f.a)))))

/-- SELP (R120). -/
def execSelp (f : FSY) (s : State) : Out :=
  s.run 2 none (s.guard7 f.g) [f.d, f.a, f.b] (fun s =>
    s.put f.d (if (s.me.rp (bits f.imm.toNat 0 7)).getLsbD 0 then s.rx f.a else s.rx f.b))

end Sys2Proof.Machine
end

