-- ==== Sys2Proof/Machine/Dispatch.lean ====
section
/-! DEFINITION. The meaning of every instruction, engine command and event: one arm per constructor. -/

namespace Sys2Proof.Machine

def exec (i : Instr) (s : State) : Host.Outcome State Fault Refusal :=
  match i with
  | .nop => Sys2Proof.Machine.execNop s
  | .add f => Sys2Proof.Machine.execAdd f s
  | .sub f => Sys2Proof.Machine.execSub f s
  | .and f => Sys2Proof.Machine.execAnd f s
  | .or f => Sys2Proof.Machine.execOr f s
  | .xor f => Sys2Proof.Machine.execXor f s
  | .andn f => Sys2Proof.Machine.execAndn f s
  | .orn f => Sys2Proof.Machine.execOrn f s
  | .xnor f => Sys2Proof.Machine.execXnor f s
  | .sll f => Sys2Proof.Machine.execSll f s
  | .srl f => Sys2Proof.Machine.execSrl f s
  | .sra f => Sys2Proof.Machine.execSra f s
  | .ror f => Sys2Proof.Machine.execRor f s
  | .mul f => Sys2Proof.Machine.execMul f s
  | .mulh f => Sys2Proof.Machine.execMulh f s
  | .mulhu f => Sys2Proof.Machine.execMulhu f s
  | .mulhsu f => Sys2Proof.Machine.execMulhsu f s
  | .div f => Sys2Proof.Machine.execDiv f s
  | .divu f => Sys2Proof.Machine.execDivu f s
  | .rem f => Sys2Proof.Machine.execRem f s
  | .remu f => Sys2Proof.Machine.execRemu f s
  | .addw f => Sys2Proof.Machine.execAddw f s
  | .subw f => Sys2Proof.Machine.execSubw f s
  | .mulw f => Sys2Proof.Machine.execMulw f s
  | .adds f => Sys2Proof.Machine.execAdds f s
  | .subs f => Sys2Proof.Machine.execSubs f s
  | .addus f => Sys2Proof.Machine.execAddus f s
  | .subus f => Sys2Proof.Machine.execSubus f s
  | .rol f => Sys2Proof.Machine.execRol f s
  | .seq f => Sys2Proof.Machine.execSeq f s
  | .sne f => Sys2Proof.Machine.execSne f s
  | .slt f => Sys2Proof.Machine.execSlt f s
  | .sltu f => Sys2Proof.Machine.execSltu f s
  | .sge f => Sys2Proof.Machine.execSge f s
  | .sgeu f => Sys2Proof.Machine.execSgeu f s
  | .min f => Sys2Proof.Machine.execMin f s
  | .minu f => Sys2Proof.Machine.execMinu f s
  | .max f => Sys2Proof.Machine.execMax f s
  | .maxu f => Sys2Proof.Machine.execMaxu f s
  | .cmovnz f => Sys2Proof.Machine.execCmovnz f s
  | .cmovz f => Sys2Proof.Machine.execCmovz f s
  | .tstnz f => Sys2Proof.Machine.execTstnz f s
  | .tstz f => Sys2Proof.Machine.execTstz f s
  | .selb f => Sys2Proof.Machine.execSelb f s
  | .cmps f => Sys2Proof.Machine.execCmps f s
  | .clz f => Sys2Proof.Machine.execClz f s
  | .ctz f => Sys2Proof.Machine.execCtz f s
  | .popc f => Sys2Proof.Machine.execPopc f s
  | .bswap f => Sys2Proof.Machine.execBswap f s
  | .bext f => Sys2Proof.Machine.execBext f s
  | .bexts f => Sys2Proof.Machine.execBexts f s
  | .bins f => Sys2Proof.Machine.execBins f s
  | .sh1add f => Sys2Proof.Machine.execSh1add f s
  | .sh2add f => Sys2Proof.Machine.execSh2add f s
  | .sh3add f => Sys2Proof.Machine.execSh3add f s
  | .sh4add f => Sys2Proof.Machine.execSh4add f s
  | .sh6add f => Sys2Proof.Machine.execSh6add f s
  | .plw f => Sys2Proof.Machine.execPlw f s
  | .qaddr f => Sys2Proof.Machine.execQaddr f s
  | .faddr f => Sys2Proof.Machine.execFaddr f s
  | .alignup f => Sys2Proof.Machine.execAlignup f s
  | .fadd f => Sys2Proof.Machine.execFadd f s
  | .fmul f => Sys2Proof.Machine.execFmul f s
  | .fma f => Sys2Proof.Machine.execFma f s
  | .fmax f => Sys2Proof.Machine.execFmax f s
  | .fmin f => Sys2Proof.Machine.execFmin f s
  | .fcvtF32I64 f => Sys2Proof.Machine.execFcvtF32I64 f s
  | .fcvtF32U64 f => Sys2Proof.Machine.execFcvtF32U64 f s
  | .fcvtI64F32 f => Sys2Proof.Machine.execFcvtI64F32 f s
  | .fcvtI32F32 f => Sys2Proof.Machine.execFcvtI32F32 f s
  | .mfs f => Sys2Proof.Machine.execMfs f s
  | .mts f => Sys2Proof.Machine.execMts f s
  | .addi f => Sys2Proof.Machine.execAddi f s
  | .andi f => Sys2Proof.Machine.execAndi f s
  | .ori f => Sys2Proof.Machine.execOri f s
  | .xori f => Sys2Proof.Machine.execXori f s
  | .slli f => Sys2Proof.Machine.execSlli f s
  | .srli f => Sys2Proof.Machine.execSrli f s
  | .srai f => Sys2Proof.Machine.execSrai f s
  | .rori f => Sys2Proof.Machine.execRori f s
  | .widf f => Sys2Proof.Machine.execWidf f s
  | .b f => Sys2Proof.Machine.execB f s
  | .call f => Sys2Proof.Machine.execCall f s
  | .bloop f => Sys2Proof.Machine.execBloop f s
  | .br f => Sys2Proof.Machine.execBr f s
  | .callr f => Sys2Proof.Machine.execCallr f s
  | .ret f => Sys2Proof.Machine.execRet f s
  | .yield f => Sys2Proof.Machine.execYield f s
  | .waitRing f => Sys2Proof.Machine.execWaitRing f s
  | .waitFree f => Sys2Proof.Machine.execWaitFree f s
  | .waitJoin f => Sys2Proof.Machine.execWaitJoin f s
  | .waitStep f => Sys2Proof.Machine.execWaitStep f s
  | .waitTime f => Sys2Proof.Machine.execWaitTime f s
  | .waitClk f => Sys2Proof.Machine.execWaitClk f s
  | .halt f => Sys2Proof.Machine.execHalt f s
  | .ldS f => Sys2Proof.Machine.execLdS f s
  | .stS f => Sys2Proof.Machine.execStS f s
  | .ldW f => Sys2Proof.Machine.execLdW f s
  | .stW f => Sys2Proof.Machine.execStW f s
  | .ldG f => Sys2Proof.Machine.execLdG f s
  | .stG f => Sys2Proof.Machine.execStG f s
  | .ldQ f => Sys2Proof.Machine.execLdQ f s
  | .stQ f => Sys2Proof.Machine.execStQ f s
  | .rclaim f => Sys2Proof.Machine.execRclaim f s
  | .rcommit f => Sys2Proof.Machine.execRcommit f s
  | .rrelease f => Sys2Proof.Machine.execRrelease f s
  | .rstat f => Sys2Proof.Machine.execRstat f s
  | .fenceShort f => Sys2Proof.Machine.execFenceShort f s
  | .mark f => Sys2Proof.Machine.execMark f s
  | .mwaitS f => Sys2Proof.Machine.execMwaitS f s
  | .mwaitG f => Sys2Proof.Machine.execMwaitG f s
  | .mwaitQ f => Sys2Proof.Machine.execMwaitQ f s
  | .push f => Sys2Proof.Machine.execPush f s
  | .pushW f => Sys2Proof.Machine.execPushW f s
  | .kins f => Sys2Proof.Machine.execKins f s
  | .vaddShort f => Sys2Proof.Machine.execVaddShort f s
  | .vsubShort f => Sys2Proof.Machine.execVsubShort f s
  | .vmulShort f => Sys2Proof.Machine.execVmulShort f s
  | .vfmaShort f => Sys2Proof.Machine.execVfmaShort f s
  | .vmaxShort f => Sys2Proof.Machine.execVmaxShort f s
  | .vminShort f => Sys2Proof.Machine.execVminShort f s
  | .vexpShort f => Sys2Proof.Machine.execVexpShort f s
  | .vsigmShort f => Sys2Proof.Machine.execVsigmShort f s
  | .viaddShort f => Sys2Proof.Machine.execViaddShort f s
  | .visubShort f => Sys2Proof.Machine.execVisubShort f s
  | .vimulShort f => Sys2Proof.Machine.execVimulShort f s
  | .vandShort f => Sys2Proof.Machine.execVandShort f s
  | .vorShort f => Sys2Proof.Machine.execVorShort f s
  | .vxorShort f => Sys2Proof.Machine.execVxorShort f s
  | .vimaxShort f => Sys2Proof.Machine.execVimaxShort f s
  | .viminShort f => Sys2Proof.Machine.execViminShort f s
  | .vcmpeqF32Short f => Sys2Proof.Machine.execVcmpeqF32Short f s
  | .vcmpltF32Short f => Sys2Proof.Machine.execVcmpltF32Short f s
  | .vcmpleF32Short f => Sys2Proof.Machine.execVcmpleF32Short f s
  | .vcmpeqI32Short f => Sys2Proof.Machine.execVcmpeqI32Short f s
  | .vcmpltI32Short f => Sys2Proof.Machine.execVcmpltI32Short f s
  | .vcmpltuI32Short f => Sys2Proof.Machine.execVcmpltuI32Short f s
  | .pandShort f => Sys2Proof.Machine.execPandShort f s
  | .pnotShort f => Sys2Proof.Machine.execPnotShort f s
  | .vmovShort f => Sys2Proof.Machine.execVmovShort f s
  | .vpermbShort f => Sys2Proof.Machine.execVpermbShort f s
  | .vgathrShort f => Sys2Proof.Machine.execVgathrShort f s
  | .vredrFaddShort f => Sys2Proof.Machine.execVredrFaddShort f s
  | .vredrFmaxShort f => Sys2Proof.Machine.execVredrFmaxShort f s
  | .vbcxShort f => Sys2Proof.Machine.execVbcxShort f s
  | .vredcFaddShort f => Sys2Proof.Machine.execVredcFaddShort f s
  | .viotaShort f => Sys2Proof.Machine.execViotaShort f s
  | .bGuarded f => Sys2Proof.Machine.execBGuarded f s
  | .beq f => Sys2Proof.Machine.execBeq f s
  | .bne f => Sys2Proof.Machine.execBne f s
  | .blt f => Sys2Proof.Machine.execBlt f s
  | .bge f => Sys2Proof.Machine.execBge f s
  | .bltu f => Sys2Proof.Machine.execBltu f s
  | .bgeu f => Sys2Proof.Machine.execBgeu f s
  | .li f => Sys2Proof.Machine.execLi f s
  | .lih f => Sys2Proof.Machine.execLih f s
  | .addiWide f => Sys2Proof.Machine.execAddiWide f s
  | .andiWide f => Sys2Proof.Machine.execAndiWide f s
  | .oriWide f => Sys2Proof.Machine.execOriWide f s
  | .xoriWide f => Sys2Proof.Machine.execXoriWide f s
  | .lip f => Sys2Proof.Machine.execLip f s
  | .lir f => Sys2Proof.Machine.execLir f s
  | .liw f => Sys2Proof.Machine.execLiw f s
  | .kpl f => Sys2Proof.Machine.execKpl f s
  | .krl f => Sys2Proof.Machine.execKrl f s
  | .loopset f => Sys2Proof.Machine.execLoopset f s
  | .callGuarded f => Sys2Proof.Machine.execCallGuarded f s
  | .pcmp f => Sys2Proof.Machine.execPcmp f s
  | .mpx f => Sys2Proof.Machine.execMpx f s
  | .mxp f => Sys2Proof.Machine.execMxp f s
  | .selp f => Sys2Proof.Machine.execSelp f s
  | .muli f => Sys2Proof.Machine.execMuli f s
  | .slti f => Sys2Proof.Machine.execSlti f s
  | .sltiu f => Sys2Proof.Machine.execSltiu f s
  | .seqi f => Sys2Proof.Machine.execSeqi f s
  | .mini f => Sys2Proof.Machine.execMini f s
  | .maxi f => Sys2Proof.Machine.execMaxi f s
  | .bexti f => Sys2Proof.Machine.execBexti f s
  | .bextsi f => Sys2Proof.Machine.execBextsi f s
  | .binsi f => Sys2Proof.Machine.execBinsi f s
  | .addhi f => Sys2Proof.Machine.execAddhi f s
  | .ld f => Sys2Proof.Machine.execLd f s
  | .lda f => Sys2Proof.Machine.execLda f s
  | .st f => Sys2Proof.Machine.execSt f s
  | .stl f => Sys2Proof.Machine.execStl f s
  | .amoSwap f => Sys2Proof.Machine.execAmoSwap f s
  | .amoAdd f => Sys2Proof.Machine.execAmoAdd f s
  | .amoAnd f => Sys2Proof.Machine.execAmoAnd f s
  | .amoOr f => Sys2Proof.Machine.execAmoOr f s
  | .amoXor f => Sys2Proof.Machine.execAmoXor f s
  | .amoMin f => Sys2Proof.Machine.execAmoMin f s
  | .amoMax f => Sys2Proof.Machine.execAmoMax f s
  | .amoMinu f => Sys2Proof.Machine.execAmoMinu f s
  | .amoMaxu f => Sys2Proof.Machine.execAmoMaxu f s
  | .amoFadd f => Sys2Proof.Machine.execAmoFadd f s
  | .amoFmax f => Sys2Proof.Machine.execAmoFmax f s
  | .amoFmin f => Sys2Proof.Machine.execAmoFmin f s
  | .amoIncw f => Sys2Proof.Machine.execAmoIncw f s
  | .amoDecw f => Sys2Proof.Machine.execAmoDecw f s
  | .amoAddus f => Sys2Proof.Machine.execAmoAddus f s
  | .amoSubus f => Sys2Proof.Machine.execAmoSubus f s
  | .cas f => Sys2Proof.Machine.execCas f s
  | .redSwap f => Sys2Proof.Machine.execRedSwap f s
  | .redAdd f => Sys2Proof.Machine.execRedAdd f s
  | .redAnd f => Sys2Proof.Machine.execRedAnd f s
  | .redOr f => Sys2Proof.Machine.execRedOr f s
  | .redXor f => Sys2Proof.Machine.execRedXor f s
  | .redMin f => Sys2Proof.Machine.execRedMin f s
  | .redMax f => Sys2Proof.Machine.execRedMax f s
  | .redMinu f => Sys2Proof.Machine.execRedMinu f s
  | .redMaxu f => Sys2Proof.Machine.execRedMaxu f s
  | .redFadd f => Sys2Proof.Machine.execRedFadd f s
  | .redFmax f => Sys2Proof.Machine.execRedFmax f s
  | .redFmin f => Sys2Proof.Machine.execRedFmin f s
  | .redIncw f => Sys2Proof.Machine.execRedIncw f s
  | .redDecw f => Sys2Proof.Machine.execRedDecw f s
  | .redAddus f => Sys2Proof.Machine.execRedAddus f s
  | .redSubus f => Sys2Proof.Machine.execRedSubus f s
  | .fence f => Sys2Proof.Machine.execFence f s
  | .fenceAcq f => Sys2Proof.Machine.execFenceAcq f s
  | .fenceRel f => Sys2Proof.Machine.execFenceRel f s
  | .mwaittS f => Sys2Proof.Machine.execMwaittS f s
  | .mwaittG f => Sys2Proof.Machine.execMwaittG f s
  | .mwaittQ f => Sys2Proof.Machine.execMwaittQ f s
  | .cpref f => Sys2Proof.Machine.execCpref f s
  | .cprefw f => Sys2Proof.Machine.execCprefw f s
  | .cclean f => Sys2Proof.Machine.execCclean f s
  | .cflush f => Sys2Proof.Machine.execCflush f s
  | .cinv f => Sys2Proof.Machine.execCinv f s
  | .ccleanr f => Sys2Proof.Machine.execCcleanr f s
  | .cflushr f => Sys2Proof.Machine.execCflushr f s
  | .cinvr f => Sys2Proof.Machine.execCinvr f s
  | .ccleana f => Sys2Proof.Machine.execCcleana f s
  | .cflusha f => Sys2Proof.Machine.execCflusha f s
  | .rcfg f => Sys2Proof.Machine.execRcfg f s
  | .rdesc f => Sys2Proof.Machine.execRdesc f s
  | .raddr f => Sys2Proof.Machine.execRaddr f s
  | .rld f => Sys2Proof.Machine.execRld f s
  | .rst f => Sys2Proof.Machine.execRst f s
  | .rclaima f => Sys2Proof.Machine.execRclaima f s
  | .rown f => Sys2Proof.Machine.execRown f s
  | .rbar f => Sys2Proof.Machine.execRbar f s
  | .vadd f => Sys2Proof.Machine.execVadd f s
  | .vsub f => Sys2Proof.Machine.execVsub f s
  | .vmul f => Sys2Proof.Machine.execVmul f s
  | .vfma f => Sys2Proof.Machine.execVfma f s
  | .vfms f => Sys2Proof.Machine.execVfms f s
  | .vfnma f => Sys2Proof.Machine.execVfnma f s
  | .vdiv f => Sys2Proof.Machine.execVdiv f s
  | .vsqrt f => Sys2Proof.Machine.execVsqrt f s
  | .vmax f => Sys2Proof.Machine.execVmax f s
  | .vmin f => Sys2Proof.Machine.execVmin f s
  | .vabs f => Sys2Proof.Machine.execVabs f s
  | .vneg f => Sys2Proof.Machine.execVneg f s
  | .vcpsgn f => Sys2Proof.Machine.execVcpsgn f s
  | .vrint f => Sys2Proof.Machine.execVrint f s
  | .vldexp f => Sys2Proof.Machine.execVldexp f s
  | .vrcp f => Sys2Proof.Machine.execVrcp f s
  | .vrsqrt f => Sys2Proof.Machine.execVrsqrt f s
  | .vexp f => Sys2Proof.Machine.execVexp f s
  | .vexp2 f => Sys2Proof.Machine.execVexp2 f s
  | .vlog2 f => Sys2Proof.Machine.execVlog2 f s
  | .vtanh f => Sys2Proof.Machine.execVtanh f s
  | .vsigm f => Sys2Proof.Machine.execVsigm f s
  | .vsilu f => Sys2Proof.Machine.execVsilu f s
  | .vgelu f => Sys2Proof.Machine.execVgelu f s
  | .vcvt f => Sys2Proof.Machine.execVcvt f s
  | .vcvtn f => Sys2Proof.Machine.execVcvtn f s
  | .vcvtw f => Sys2Proof.Machine.execVcvtw f s
  | .vmaxnum f => Sys2Proof.Machine.execVmaxnum f s
  | .vminnum f => Sys2Proof.Machine.execVminnum f s
  | .vdot2 f => Sys2Proof.Machine.execVdot2 f s
  | .vsqd f => Sys2Proof.Machine.execVsqd f s
  | .vlerp f => Sys2Proof.Machine.execVlerp f s
  | .viadd f => Sys2Proof.Machine.execViadd f s
  | .visub f => Sys2Proof.Machine.execVisub f s
  | .vimul f => Sys2Proof.Machine.execVimul f s
  | .vimulh f => Sys2Proof.Machine.execVimulh f s
  | .vimad f => Sys2Proof.Machine.execVimad f s
  | .viadds f => Sys2Proof.Machine.execViadds f s
  | .visubs f => Sys2Proof.Machine.execVisubs f s
  | .viaddus f => Sys2Proof.Machine.execViaddus f s
  | .visubus f => Sys2Proof.Machine.execVisubus f s
  | .vimin f => Sys2Proof.Machine.execVimin f s
  | .vimax f => Sys2Proof.Machine.execVimax f s
  | .viminu f => Sys2Proof.Machine.execViminu f s
  | .vimaxu f => Sys2Proof.Machine.execVimaxu f s
  | .viabs f => Sys2Proof.Machine.execViabs f s
  | .vand f => Sys2Proof.Machine.execVand f s
  | .vor f => Sys2Proof.Machine.execVor f s
  | .vxor f => Sys2Proof.Machine.execVxor f s
  | .vandn f => Sys2Proof.Machine.execVandn f s
  | .vnot f => Sys2Proof.Machine.execVnot f s
  | .vsll f => Sys2Proof.Machine.execVsll f s
  | .vsrl f => Sys2Proof.Machine.execVsrl f s
  | .vsra f => Sys2Proof.Machine.execVsra f s
  | .vslli f => Sys2Proof.Machine.execVslli f s
  | .vsrli f => Sys2Proof.Machine.execVsrli f s
  | .vsrai f => Sys2Proof.Machine.execVsrai f s
  | .vpopc f => Sys2Proof.Machine.execVpopc f s
  | .vclz f => Sys2Proof.Machine.execVclz f s
  | .vdot4 f => Sys2Proof.Machine.execVdot4 f s
  | .vaddi f => Sys2Proof.Machine.execVaddi f s
  | .vandi f => Sys2Proof.Machine.execVandi f s
  | .vsrar f => Sys2Proof.Machine.execVsrar f s
  | .vclamp f => Sys2Proof.Machine.execVclamp f s
  | .vcmpeq f => Sys2Proof.Machine.execVcmpeq f s
  | .vcmpne f => Sys2Proof.Machine.execVcmpne f s
  | .vcmplt f => Sys2Proof.Machine.execVcmplt f s
  | .vcmple f => Sys2Proof.Machine.execVcmple f s
  | .vcmpgt f => Sys2Proof.Machine.execVcmpgt f s
  | .vcmpge f => Sys2Proof.Machine.execVcmpge f s
  | .vcmpltu f => Sys2Proof.Machine.execVcmpltu f s
  | .vcmpgeu f => Sys2Proof.Machine.execVcmpgeu f s
  | .vcmpun f => Sys2Proof.Machine.execVcmpun f s
  | .vftest f => Sys2Proof.Machine.execVftest f s
  | .pand f => Sys2Proof.Machine.execPand f s
  | .por f => Sys2Proof.Machine.execPor f s
  | .pxor f => Sys2Proof.Machine.execPxor f s
  | .pandn f => Sys2Proof.Machine.execPandn f s
  | .porn f => Sys2Proof.Machine.execPorn f s
  | .pnot f => Sys2Proof.Machine.execPnot f s
  | .pset f => Sys2Proof.Machine.execPset f s
  | .pclr f => Sys2Proof.Machine.execPclr f s
  | .plen f => Sys2Proof.Machine.execPlen f s
  | .plenr f => Sys2Proof.Machine.execPlenr f s
  | .pfirst f => Sys2Proof.Machine.execPfirst f s
  | .pfirstr f => Sys2Proof.Machine.execPfirstr f s
  | .pcnt f => Sys2Proof.Machine.execPcnt f s
  | .pcntr f => Sys2Proof.Machine.execPcntr f s
  | .vsel f => Sys2Proof.Machine.execVsel f s
  | .vptov f => Sys2Proof.Machine.execVptov f s
  | .vtop f => Sys2Proof.Machine.execVtop f s
  | .pany f => Sys2Proof.Machine.execPany f s
  | .pall f => Sys2Proof.Machine.execPall f s
  | .panyr f => Sys2Proof.Machine.execPanyr f s
  | .protr f => Sys2Proof.Machine.execProtr f s
  | .prowb f => Sys2Proof.Machine.execProwb f s
  | .vmov f => Sys2Proof.Machine.execVmov f s
  | .vli f => Sys2Proof.Machine.execVli f s
  | .vbcx f => Sys2Proof.Machine.execVbcx f s
  | .vins f => Sys2Proof.Machine.execVins f s
  | .vext f => Sys2Proof.Machine.execVext f s
  | .viota f => Sys2Proof.Machine.execViota f s
  | .vrotr f => Sys2Proof.Machine.execVrotr f s
  | .vrotc f => Sys2Proof.Machine.execVrotc f s
  | .vshr f => Sys2Proof.Machine.execVshr f s
  | .vshc f => Sys2Proof.Machine.execVshc f s
  | .vrev f => Sys2Proof.Machine.execVrev f s
  | .vrevc f => Sys2Proof.Machine.execVrevc f s
  | .vtr16 f => Sys2Proof.Machine.execVtr16 f s
  | .vbcr f => Sys2Proof.Machine.execVbcr f s
  | .vbcc f => Sys2Proof.Machine.execVbcc f s
  | .vgathr f => Sys2Proof.Machine.execVgathr f s
  | .vgathc f => Sys2Proof.Machine.execVgathc f s
  | .vpermb f => Sys2Proof.Machine.execVpermb f s
  | .vswaph f => Sys2Proof.Machine.execVswaph f s
  | .vbswap f => Sys2Proof.Machine.execVbswap f s
  | .vcompr f => Sys2Proof.Machine.execVcompr f s
  | .vexpd f => Sys2Proof.Machine.execVexpd f s
  | .vredr f => Sys2Proof.Machine.execVredr f s
  | .vredc f => Sys2Proof.Machine.execVredc f s
  | .vreda f => Sys2Proof.Machine.execVreda f s
  | .vscanr f => Sys2Proof.Machine.execVscanr f s
  | .vscanc f => Sys2Proof.Machine.execVscanc f s
  | .vpscan f => Sys2Proof.Machine.execVpscan f s
  | .vpscana f => Sys2Proof.Machine.execVpscana f s
  | .vtopk f => Sys2Proof.Machine.execVtopk f s
  | .vsamp f => Sys2Proof.Machine.execVsamp f s
  | .vsumsqr f => Sys2Proof.Machine.execVsumsqr f s
  | .vld f => Sys2Proof.Machine.execVld f s
  | .vldT f => Sys2Proof.Machine.execVldT f s
  | .vldRowb f => Sys2Proof.Machine.execVldRowb f s
  | .vldColb f => Sys2Proof.Machine.execVldColb f s
  | .vldN8 f => Sys2Proof.Machine.execVldN8 f s
  | .vldN16 f => Sys2Proof.Machine.execVldN16 f s
  | .vldN8s f => Sys2Proof.Machine.execVldN8s f s
  | .vldN16s f => Sys2Proof.Machine.execVldN16s f s
  | .vst f => Sys2Proof.Machine.execVst f s
  | .vstT f => Sys2Proof.Machine.execVstT f s
  | .vstRow0 f => Sys2Proof.Machine.execVstRow0 f s
  | .vstCol0 f => Sys2Proof.Machine.execVstCol0 f s
  | .vstN8 f => Sys2Proof.Machine.execVstN8 f s
  | .vstN16 f => Sys2Proof.Machine.execVstN16 f s
  | .vstN8s f => Sys2Proof.Machine.execVstN8s f s
  | .vstN16s f => Sys2Proof.Machine.execVstN16s f s
  | .kli f => Sys2Proof.Machine.execKli f s
  | .kliw f => Sys2Proof.Machine.execKliw f s
  | .kmvx f => Sys2Proof.Machine.execKmvx f s
  | .kclr f => Sys2Proof.Machine.execKclr f s
  | .rsubmit f => Sys2Proof.Machine.execRsubmit f s
  | .rpark f => Sys2Proof.Machine.execRpark f s
  | .rresume f => Sys2Proof.Machine.execRresume f s
  | .rcancel f => Sys2Proof.Machine.execRcancel f s
  | .rfree f => Sys2Proof.Machine.execRfree f s
  | .remit f => Sys2Proof.Machine.execRemit f s
  | .rflt f => Sys2Proof.Machine.execRflt f s
  | .rrec f => Sys2Proof.Machine.execRrec f s
  | .tnext f => Sys2Proof.Machine.execTnext f s
  | .tcfg f => Sys2Proof.Machine.execTcfg f s
  | .tarm f => Sys2Proof.Machine.execTarm f s
  | .tstamp f => Sys2Proof.Machine.execTstamp f s
  | .launch f => Sys2Proof.Machine.execLaunch f s
  | .plane f => Sys2Proof.Machine.execPlane f s
  | .swapt f => Sys2Proof.Machine.execSwapt f s
  | .preempt f => Sys2Proof.Machine.execPreempt f s
  | .resumePartition f => Sys2Proof.Machine.execResumePartition f s
  | .resumeQueue f => Sys2Proof.Machine.execResumeQueue f s
  | .commit f => Sys2Proof.Machine.execCommit f s
  | .trap f => Sys2Proof.Machine.execTrap f s
  | .rtt f => Sys2Proof.Machine.execRtt f s
  | .brk f => Sys2Proof.Machine.execBrk f s
  | .mfsr f => Sys2Proof.Machine.execMfsr f s
  | .mtsr f => Sys2Proof.Machine.execMtsr f s
  | .qres f => Sys2Proof.Machine.execQres f s
  | .qmpc f => Sys2Proof.Machine.execQmpc f s
  | .rdfr f => Sys2Proof.Machine.execRdfr f s
  | .alatch c q => Sys2Proof.Machine.execAlatch c q s
  | .aswap c q => Sys2Proof.Machine.execAswap c q s
  | .amac c q => Sys2Proof.Machine.execAmac c q s
  | .adist c q => Sys2Proof.Machine.execAdist c q s
  | .azero c q => Sys2Proof.Machine.execAzero c q s
  | .achain c => Sys2Proof.Machine.execAchain c s
  | .abypass c => Sys2Proof.Machine.execAbypass c s
  | .vapply c => Sys2Proof.Machine.execVapply c s
  | .edrain c => Sys2Proof.Machine.execEdrain c s
  | .eexp c => Sys2Proof.Machine.execEexp c s
  | .esmaxPass c => Sys2Proof.Machine.execEsmaxPass c s
  | .esmaxMerge c => Sys2Proof.Machine.execEsmaxMerge c s
  | .esmaxFinish c => Sys2Proof.Machine.execEsmaxFinish c s
  | .esmaxReset c => Sys2Proof.Machine.execEsmaxReset c s
  | .etopk c => Sys2Proof.Machine.execEtopk c s
  | .efold c => Sys2Proof.Machine.execEfold c s
  | .eturn c => Sys2Proof.Machine.execEturn c s
  | .escale c => Sys2Proof.Machine.execEscale c s
  | .cpy c q => Sys2Proof.Machine.execCpy c q s
  | .kvappend c => Sys2Proof.Machine.execKvappend c s
  | .kvpos c => Sys2Proof.Machine.execKvpos c s
  | .kvevictWindow c => Sys2Proof.Machine.execKvevictWindow c s
  | .kvevictMask c => Sys2Proof.Machine.execKvevictMask c s
  | .kvpin c => Sys2Proof.Machine.execKvpin c s
  | .kvfreeList c => Sys2Proof.Machine.execKvfreeList c s
  | .kvfreePage c => Sys2Proof.Machine.execKvfreePage c s
  | .kvpromotePromotion c => Sys2Proof.Machine.execKvpromotePromotion c s
  | .kvpromoteDemotion c => Sys2Proof.Machine.execKvpromoteDemotion c s
  | .fxsend c => Sys2Proof.Machine.execFxsend c s
  | .fxmcast c => Sys2Proof.Machine.execFxmcast c s
  | .fxred c => Sys2Proof.Machine.execFxred c s
  | .fxwin c => Sys2Proof.Machine.execFxwin c s
  | .landingArrival c col => Sys2Proof.Machine.execLandingArrival c col s
  | .latchFillComplete c array fresh => Sys2Proof.Machine.execLatchFillComplete c array fresh s
  | .latchSwap c q => Sys2Proof.Machine.execLatchSwap c q s
  | .mitigationWindow p => Sys2Proof.Machine.execMitigationWindow p s
  | .mitigationWindowEnd p => Sys2Proof.Machine.execMitigationWindowEnd p s
  | .loadDataReturn c y1 d => Sys2Proof.Machine.execLoadDataReturn c y1 d s
  | .storePerform a n => Sys2Proof.Machine.execStorePerform a n s
  | .l1Eviction c n => Sys2Proof.Machine.execL1Eviction c n s
  | .translationRetry a => Sys2Proof.Machine.execTranslationRetry a s
  | .translationParkTimeout a => Sys2Proof.Machine.execTranslationParkTimeout a s
  | .ringWaitWake c y1 => Sys2Proof.Machine.execRingWaitWake c y1 s
  | .waitTimeReached a => Sys2Proof.Machine.execWaitTimeReached a s
  | .waitClkExpiry a => Sys2Proof.Machine.execWaitClkExpiry a s
  | .joinComplete c y1 => Sys2Proof.Machine.execJoinComplete c y1 s
  | .barrierWake c y1 => Sys2Proof.Machine.execBarrierWake c y1 s
  | .monitorWake a => Sys2Proof.Machine.execMonitorWake a s
  | .mwaittTimeout a => Sys2Proof.Machine.execMwaittTimeout a s
  | .pushEntryFreed c y1 => Sys2Proof.Machine.execPushEntryFreed c y1 s
  | .watchdogExpiry c y1 => Sys2Proof.Machine.execWatchdogExpiry c y1 s
  | .issueSelect c => Sys2Proof.Machine.execIssueSelect c s
  | .engineFaultDelivery c q => Sys2Proof.Machine.execEngineFaultDelivery c q s
  | .tick g => Sys2Proof.Machine.execTick g s
  | .stepOpen g => Sys2Proof.Machine.execStepOpen g s
  | .holdGraceExpiry g => Sys2Proof.Machine.execHoldGraceExpiry g s
  | .stepCommit g => Sys2Proof.Machine.execStepCommit g s
  | .porchRunStart q => Sys2Proof.Machine.execPorchRunStart q s
  | .porchBudgetExpiry q => Sys2Proof.Machine.execPorchBudgetExpiry q s
  | .hostQueuePublish q entry => Sys2Proof.Machine.execHostQueuePublish q entry s
  | .qctlRestart q => Sys2Proof.Machine.execQctlRestart q s
  | .planeSwap rc => Sys2Proof.Machine.execPlaneSwap rc s
  | .operatorRetire c => Sys2Proof.Machine.execOperatorRetire c s
  | .preemptDrainComplete p => Sys2Proof.Machine.execPreemptDrainComplete p s
  | .preemptT1Expiry p => Sys2Proof.Machine.execPreemptT1Expiry p s
  | .preemptSaveComplete p => Sys2Proof.Machine.execPreemptSaveComplete p s
  | .preemptT2Expiry p => Sys2Proof.Machine.execPreemptT2Expiry p s
  | .coreFence c => Sys2Proof.Machine.execCoreFence c s
  | .rePlacement p => Sys2Proof.Machine.execRePlacement p s
  | .stepRerun g => Sys2Proof.Machine.execStepRerun g s
  | .fatalError die core code => Sys2Proof.Machine.execFatalError die core code s
  | .packageReset => Sys2Proof.Machine.execPackageReset s
  | .imageLoad img => Sys2Proof.Machine.execImageLoad img s
  | .attestationRequest nonce dest => Sys2Proof.Machine.execAttestationRequest nonce dest s
  | .packetRoute port pkt => Sys2Proof.Machine.execPacketRoute port pkt s
  | .outputGrant port => Sys2Proof.Machine.execOutputGrant port s
  | .write vc => Sys2Proof.Machine.execWrite vc s
  | .writeAcknowledgement vc => Sys2Proof.Machine.execWriteAcknowledgement vc s
  | .readRequest vc => Sys2Proof.Machine.execReadRequest vc s
  | .readResponse vc => Sys2Proof.Machine.execReadResponse vc s
  | .atomicRequest vc => Sys2Proof.Machine.execAtomicRequest vc s
  | .atomicResponse vc => Sys2Proof.Machine.execAtomicResponse vc s
  | .reduction vc => Sys2Proof.Machine.execReduction vc s
  | .chunkCombine win chunk => Sys2Proof.Machine.execChunkCombine win chunk s
  | .time stamps => Sys2Proof.Machine.execTime stamps s
  | .management vc => Sys2Proof.Machine.execManagement vc s
  | .errorResponse vc => Sys2Proof.Machine.execErrorResponse vc s
  | .multicastWrite vc => Sys2Proof.Machine.execMulticastWrite vc s
  | .fabricTimeout seq => Sys2Proof.Machine.execFabricTimeout seq s
  | .laneFailure port lanes => Sys2Proof.Machine.execLaneFailure port lanes s
  | .edgeModuleFailure edge md => Sys2Proof.Machine.execEdgeModuleFailure edge md s
  | .hostLinkLaneFailure lanes => Sys2Proof.Machine.execHostLinkLaneFailure lanes s
  | .hostAccess win offset ac => Sys2Proof.Machine.execHostAccess win offset ac s
  | .fabricPortControlWrite port value => Sys2Proof.Machine.execFabricPortControlWrite port value s
  | .inboundWindowWrite win base size attr srect => Sys2Proof.Machine.execInboundWindowWrite win base size attr srect s
  | .ptpSync stamps => Sys2Proof.Machine.execPtpSync stamps s
  | .holdoverTimeout => Sys2Proof.Machine.execHoldoverTimeout s
  | .pstateWrite st => Sys2Proof.Machine.execPstateWrite st s
  | .throttleChange level temperature pw => Sys2Proof.Machine.execThrottleChange level temperature pw s
  | .debugAttach => Sys2Proof.Machine.execDebugAttach s
  | .debugDetach => Sys2Proof.Machine.execDebugDetach s
  | .debugRelease c y1 => Sys2Proof.Machine.execDebugRelease c y1 s
  | .reservedEncoding w0 w1 => Sys2Proof.Machine.execReservedEncoding w0 w1 s
  | .portComesUp port wx wy wraps => Sys2Proof.Machine.execPortComesUp port wx wy wraps s
  | .l2Eviction n => Sys2Proof.Machine.execL2Eviction n s
  | .planeCompletion record => Sys2Proof.Machine.execPlaneCompletion record s
  | .fenceDrainT1Expiry p => Sys2Proof.Machine.execFenceDrainT1Expiry p s
  | .powerStateReturn => Sys2Proof.Machine.execPowerStateReturn s
  | .corruptedFlitReplay port => Sys2Proof.Machine.execCorruptedFlitReplay port s

end Sys2Proof.Machine
end

