-- ==== Sys2Proof/Decode.lean ====
section
/-! DEFINITION. The decoder, total on any two words and rejecting by name (R74, R85, R86), and the encoder, both from
the format tables R82 and R83 and the opcode map R85. `noncomputable`
marks what builds an `Instr`: Lean's compiler has no run-time tag for so many constructors; the kernel evaluates it all. The word of an instruction is one number: bits [31:0] are its
first word, bits [63:32] its second. -/

namespace Sys2Proof

/-- Why two words are no instruction (R86): a reserved major or minor (fault 0x01), or a zero field or reserved value
that is not as it must be (fault 0x02). -/
inductive DecodeError where
  | reserved
  | field
  deriving DecidableEq, Repr

/-- The fault code a decode error raises (R85, R86). -/
def DecodeError.code : DecodeError → BitVec 8
  | .reserved => 0x01
  | .field => 0x02

/-- Fields laid out from bit 0 upward, each with its width. -/
def packFields : List (Nat × Nat) → Nat
  | [] => 0
  | (n, v) :: rest => v + 2 ^ n * packFields rest

/-- Whether bits [lo + n − 1 : lo] of `w` are zero. -/
def zeroAt (w lo n : Nat) : Bool := fld w lo n == 0

def FA.ofWord (w : Nat) : FA := ⟨fld w 20 5, fld w 15 5, fld w 10 5, fld w 6 4⟩
def FF.ofWord (w : Nat) : FF := ⟨fld w 20 5, fld w 15 5, fld w 10 5, fld w 6 4, fld w 4 2⟩
def FMinMax.ofWord (w : Nat) : FMinMax := ⟨fld w 20 5, fld w 15 5, fld w 10 5, fld w 6 4⟩
def FCvt.ofWord (w : Nat) : FCvt := ⟨fld w 20 5, fld w 15 5, fld w 6 4, fld w 4 2⟩
def FI.ofWord (w : Nat) : FI := ⟨fld w 20 5, fld w 15 5, fld w 4 11, fld w 0 4⟩
def FShift.ofWord (w : Nat) : FShift := ⟨fld w 20 5, fld w 15 5, fld w 4 6, fld w 0 4⟩
def FWid.ofWord (w : Nat) : FWid := ⟨fld w 20 5, fld w 15 5, fld w 4 3, fld w 0 4⟩
def FJ.ofWord (w : Nat) : FJ := ⟨fld w 4 21, fld w 0 4⟩
def FM.ofWord (w : Nat) : FM := ⟨fld w 20 5, fld w 15 5, fld w 13 2, fld w 12 1, fld w 8 4, fld w 4 4, fld w 0 4⟩
def FS.ofWord (w : Nat) : FS := ⟨fld w 20 5, fld w 15 5, fld w 0 4⟩
def FW.ofWord (w : Nat) : FW := ⟨fld w 4 17, fld w 0 4⟩
def FFence.ofWord (w : Nat) : FFence := ⟨fld w 21 2, fld w 4 17, fld w 0 4⟩
def FQ.ofWord (w : Nat) : FQ := ⟨fld w 20 5, fld w 15 5, fld w 6 9, fld w 2 4⟩
def FE.ofWord (w : Nat) : FE := ⟨fld w 21 4, fld w 17 4, fld w 15 2, fld w 0 4⟩
def FK.ofWord (w : Nat) : FK := ⟨fld w 21 4, fld w 16 5, fld w 9 7, fld w 3 6⟩
def FV.ofWord (w : Nat) : FV := ⟨fld w 19 6, fld w 13 6, fld w 7 6, fld w 3 4⟩
def FBC.ofWord (w : Nat) : FBC := ⟨fld w 18 7, fld w 13 5, fld w 8 5, fld w 36 21, fld w 32 4⟩
def FL.ofWord (w : Nat) : FL := ⟨fld w 18 7, fld w 13 5, fld w 8 5, fld w 32 32⟩
def FP.ofWord (w : Nat) : FP := ⟨fld w 18 7, fld w 13 5, fld w 8 5, fld w 57 7, fld w 50 7, fld w 45 5, fld w 32 13⟩
def FSY.ofWord (w : Nat) : FSY := ⟨fld w 18 7, fld w 13 5, fld w 8 5, fld w 3 5, fld w 32 24⟩
def FML.ofWord (w : Nat) : FML := ⟨fld w 18 7, fld w 13 5, fld w 8 5, fld w 5 3, fld w 3 2, fld w 2 1, fld w 60 4, fld w 58 2, fld w 32 24⟩
def FAT.ofWord (w : Nat) : FAT := ⟨fld w 18 7, fld w 13 5, fld w 8 5, fld w 3 5, fld w 55 3, fld w 53 2, fld w 52 1, fld w 48 4, fld w 46 2, fld w 44 2, fld w 39 5⟩
def FVL.ofWord (w : Nat) : FVL := ⟨fld w 18 7, fld w 12 6, fld w 6 6, fld w 0 6, fld w 58 6, fld w 56 2, fld w 53 3, fld w 32 13⟩
def FVM.ofWord (w : Nat) : FVM := ⟨fld w 18 7, fld w 12 6, fld w 7 5, fld w 2 5, fld w 0 2, fld w 60 4, fld w 32 24⟩

/-- The instruction two words stand for, before its fields are checked, and whether the bits its format leaves out are
zero; `none` for a reserved major or a minor value outside the defined range (R85). -/
noncomputable def decodeRaw (w : Nat) : Option (Instr × Bool) :=
  match (fld w 25 7).toNat with
  | 0x01 => some (.nop, zeroAt w 0 25)
  | 0x02 =>
    match (fld w 0 6).toNat with
    | 0 => some (.add (FA.ofWord w), true)
    | 1 => some (.sub (FA.ofWord w), true)
    | 2 => some (.and (FA.ofWord w), true)
    | 3 => some (.or (FA.ofWord w), true)
    | 4 => some (.xor (FA.ofWord w), true)
    | 5 => some (.andn (FA.ofWord w), true)
    | 6 => some (.orn (FA.ofWord w), true)
    | 7 => some (.xnor (FA.ofWord w), true)
    | 8 => some (.sll (FA.ofWord w), true)
    | 9 => some (.srl (FA.ofWord w), true)
    | 10 => some (.sra (FA.ofWord w), true)
    | 11 => some (.ror (FA.ofWord w), true)
    | 12 => some (.mul (FA.ofWord w), true)
    | 13 => some (.mulh (FA.ofWord w), true)
    | 14 => some (.mulhu (FA.ofWord w), true)
    | 15 => some (.mulhsu (FA.ofWord w), true)
    | 16 => some (.div (FA.ofWord w), true)
    | 17 => some (.divu (FA.ofWord w), true)
    | 18 => some (.rem (FA.ofWord w), true)
    | 19 => some (.remu (FA.ofWord w), true)
    | 20 => some (.addw (FA.ofWord w), true)
    | 21 => some (.subw (FA.ofWord w), true)
    | 22 => some (.mulw (FA.ofWord w), true)
    | 23 => some (.adds (FA.ofWord w), true)
    | 24 => some (.subs (FA.ofWord w), true)
    | 25 => some (.addus (FA.ofWord w), true)
    | 26 => some (.subus (FA.ofWord w), true)
    | 27 => some (.rol (FA.ofWord w), true)
    | _ => none
  | 0x03 =>
    match (fld w 0 6).toNat with
    | 0 => some (.seq (FA.ofWord w), true)
    | 1 => some (.sne (FA.ofWord w), true)
    | 2 => some (.slt (FA.ofWord w), true)
    | 3 => some (.sltu (FA.ofWord w), true)
    | 4 => some (.sge (FA.ofWord w), true)
    | 5 => some (.sgeu (FA.ofWord w), true)
    | 6 => some (.min (FA.ofWord w), true)
    | 7 => some (.minu (FA.ofWord w), true)
    | 8 => some (.max (FA.ofWord w), true)
    | 9 => some (.maxu (FA.ofWord w), true)
    | 10 => some (.cmovnz (FA.ofWord w), true)
    | 11 => some (.cmovz (FA.ofWord w), true)
    | 12 => some (.tstnz (FA.ofWord w), true)
    | 13 => some (.tstz (FA.ofWord w), true)
    | 14 => some (.selb (FA.ofWord w), true)
    | 15 => some (.cmps (FA.ofWord w), true)
    | _ => none
  | 0x04 =>
    match (fld w 0 6).toNat with
    | 0 => some (.clz (FA.ofWord w), true)
    | 1 => some (.ctz (FA.ofWord w), true)
    | 2 => some (.popc (FA.ofWord w), true)
    | 3 => some (.bswap (FA.ofWord w), true)
    | 4 => some (.bext (FA.ofWord w), true)
    | 5 => some (.bexts (FA.ofWord w), true)
    | 6 => some (.bins (FA.ofWord w), true)
    | 7 => some (.sh1add (FA.ofWord w), true)
    | 8 => some (.sh2add (FA.ofWord w), true)
    | 9 => some (.sh3add (FA.ofWord w), true)
    | 10 => some (.sh4add (FA.ofWord w), true)
    | 11 => some (.sh6add (FA.ofWord w), true)
    | 12 => some (.plw (FA.ofWord w), true)
    | 13 => some (.qaddr (FA.ofWord w), true)
    | 14 => some (.faddr (FA.ofWord w), true)
    | 15 => some (.alignup (FA.ofWord w), true)
    | _ => none
  | 0x05 =>
    match (fld w 0 4).toNat with
    | 0 => some (.fadd (FF.ofWord w), true)
    | 1 => some (.fmul (FF.ofWord w), true)
    | 2 => some (.fma (FF.ofWord w), true)
    | 3 => if (fld w 4 1).toNat = 0 then some (.fmax (FMinMax.ofWord w), zeroAt w 5 1)
      else some (.fmin (FMinMax.ofWord w), zeroAt w 5 1)
    | 4 =>
      match (fld w 10 5).toNat with
      | 0 => some (.fcvtF32I64 (FCvt.ofWord w), true)
      | 1 => some (.fcvtF32U64 (FCvt.ofWord w), true)
      | 2 => some (.fcvtI64F32 (FCvt.ofWord w), true)
      | 3 => some (.fcvtI32F32 (FCvt.ofWord w), true)
      | _ => some (.fcvtF32I64 (FCvt.ofWord w), false)
    | _ => none
  | 0x06 =>
    match (fld w 14 1).toNat with
    | 0 => some (.mfs (FS.ofWord w), zeroAt w 4 10)
    | _ => some (.mts (FS.ofWord w), zeroAt w 4 10)
  | 0x08 => some (.addi (FI.ofWord w), true)
  | 0x09 => some (.andi (FI.ofWord w), true)
  | 0x0A => some (.ori (FI.ofWord w), true)
  | 0x0B => some (.xori (FI.ofWord w), true)
  | 0x0C =>
    match (fld w 13 2).toNat with
    | 0 => some (.slli (FShift.ofWord w), zeroAt w 10 3)
    | 1 => some (.srli (FShift.ofWord w), zeroAt w 10 3)
    | 2 => some (.srai (FShift.ofWord w), zeroAt w 10 3)
    | _ => some (.rori (FShift.ofWord w), zeroAt w 10 3)
  | 0x0D => if 5 < (fld w 4 3).toNat then none else some (.widf (FWid.ofWord w), zeroAt w 7 8)
  | 0x10 => some (.b (FJ.ofWord w), true)
  | 0x11 => some (.call (FJ.ofWord w), true)
  | 0x12 => some (.bloop (FJ.ofWord w), true)
  | 0x13 =>
    match (fld w 0 6).toNat with
    | 0 => some (.br (FA.ofWord w), true)
    | 1 => some (.callr (FA.ofWord w), true)
    | 2 => some (.ret (FA.ofWord w), true)
    | _ => none
  | 0x14 =>
    match (fld w 21 4).toNat with
    | 0 => some (.yield (FW.ofWord w), true)
    | 1 => some (.waitRing (FW.ofWord w), true)
    | 2 => some (.waitFree (FW.ofWord w), true)
    | 3 => some (.waitJoin (FW.ofWord w), true)
    | 4 => some (.waitStep (FW.ofWord w), true)
    | 5 => some (.waitTime (FW.ofWord w), true)
    | 6 => some (.waitClk (FW.ofWord w), true)
    | 7 => some (.halt (FW.ofWord w), true)
    | _ => none
  | 0x18 => some (.ldS (FM.ofWord w), true)
  | 0x19 => some (.stS (FM.ofWord w), true)
  | 0x1A => some (.ldW (FM.ofWord w), true)
  | 0x1B => some (.stW (FM.ofWord w), true)
  | 0x1C => some (.ldG (FM.ofWord w), true)
  | 0x1D => some (.stG (FM.ofWord w), true)
  | 0x1E => some (.ldQ (FM.ofWord w), true)
  | 0x1F => some (.stQ (FM.ofWord w), true)
  | 0x20 =>
    match (fld w 0 2).toNat with
    | 0 => some (.rclaim (FQ.ofWord w), true)
    | 1 => some (.rcommit (FQ.ofWord w), true)
    | 2 => some (.rrelease (FQ.ofWord w), true)
    | _ => some (.rstat (FQ.ofWord w), true)
  | 0x21 =>
    match (fld w 21 4).toNat with
    | 0 | 1 | 2 | 3 => some (.fenceShort (FFence.ofWord w), true)
    | 4 => some (.mark (FW.ofWord w), true)
    | 5 => some (.mwaitS (FW.ofWord w), true)
    | 6 => some (.mwaitG (FW.ofWord w), true)
    | 7 => some (.mwaitQ (FW.ofWord w), true)
    | _ => none
  | 0x28 =>
    match (fld w 14 1).toNat with
    | 0 => some (.push (FE.ofWord w), zeroAt w 4 10)
    | _ => some (.pushW (FE.ofWord w), zeroAt w 4 10)
  | 0x29 => some (.kins (FK.ofWord w), zeroAt w 0 3)
  | 0x30 =>
    match (fld w 0 3).toNat with
    | 0 => some (.vaddShort (FV.ofWord w), true)
    | 1 => some (.vsubShort (FV.ofWord w), true)
    | 2 => some (.vmulShort (FV.ofWord w), true)
    | 3 => some (.vfmaShort (FV.ofWord w), true)
    | 4 => some (.vmaxShort (FV.ofWord w), true)
    | 5 => some (.vminShort (FV.ofWord w), true)
    | 6 => some (.vexpShort (FV.ofWord w), true)
    | _ => some (.vsigmShort (FV.ofWord w), true)
  | 0x31 =>
    match (fld w 0 3).toNat with
    | 0 => some (.viaddShort (FV.ofWord w), true)
    | 1 => some (.visubShort (FV.ofWord w), true)
    | 2 => some (.vimulShort (FV.ofWord w), true)
    | 3 => some (.vandShort (FV.ofWord w), true)
    | 4 => some (.vorShort (FV.ofWord w), true)
    | 5 => some (.vxorShort (FV.ofWord w), true)
    | 6 => some (.vimaxShort (FV.ofWord w), true)
    | _ => some (.viminShort (FV.ofWord w), true)
  | 0x32 =>
    match (fld w 0 3).toNat with
    | 0 => some (.vcmpeqF32Short (FV.ofWord w), true)
    | 1 => some (.vcmpltF32Short (FV.ofWord w), true)
    | 2 => some (.vcmpleF32Short (FV.ofWord w), true)
    | 3 => some (.vcmpeqI32Short (FV.ofWord w), true)
    | 4 => some (.vcmpltI32Short (FV.ofWord w), true)
    | 5 => some (.vcmpltuI32Short (FV.ofWord w), true)
    | 6 => some (.pandShort (FV.ofWord w), true)
    | _ => some (.pnotShort (FV.ofWord w), true)
  | 0x33 =>
    match (fld w 0 3).toNat with
    | 0 => some (.vmovShort (FV.ofWord w), true)
    | 1 => some (.vpermbShort (FV.ofWord w), true)
    | 2 => some (.vgathrShort (FV.ofWord w), true)
    | 3 => some (.vredrFaddShort (FV.ofWord w), true)
    | 4 => some (.vredrFmaxShort (FV.ofWord w), true)
    | 5 => some (.vbcxShort (FV.ofWord w), true)
    | 6 => some (.vredcFaddShort (FV.ofWord w), true)
    | _ => some (.viotaShort (FV.ofWord w), true)
  | 0x40 =>
    match (fld w 4 4).toNat with
    | 0 => some (.bGuarded (FBC.ofWord w), zeroAt w 0 4 && zeroAt w 57 7)
    | 1 => some (.beq (FBC.ofWord w), zeroAt w 0 4 && zeroAt w 57 7)
    | 2 => some (.bne (FBC.ofWord w), zeroAt w 0 4 && zeroAt w 57 7)
    | 3 => some (.blt (FBC.ofWord w), zeroAt w 0 4 && zeroAt w 57 7)
    | 4 => some (.bge (FBC.ofWord w), zeroAt w 0 4 && zeroAt w 57 7)
    | 5 => some (.bltu (FBC.ofWord w), zeroAt w 0 4 && zeroAt w 57 7)
    | 6 => some (.bgeu (FBC.ofWord w), zeroAt w 0 4 && zeroAt w 57 7)
    | _ => none
  | 0x41 =>
    match (fld w 0 8).toNat with
    | 0 => some (.li (FL.ofWord w), true)
    | 1 => some (.lih (FL.ofWord w), true)
    | 2 => some (.addiWide (FL.ofWord w), true)
    | 3 => some (.andiWide (FL.ofWord w), true)
    | 4 => some (.oriWide (FL.ofWord w), true)
    | 5 => some (.xoriWide (FL.ofWord w), true)
    | _ => none
  | 0x42 =>
    match (fld w 0 8).toNat with
    | 0 => some (.lip (FP.ofWord w), true)
    | 1 => some (.lir (FP.ofWord w), true)
    | 2 => some (.liw (FP.ofWord w), true)
    | 3 => some (.kpl (FP.ofWord w), true)
    | 4 => some (.krl (FP.ofWord w), true)
    | _ => none
  | 0x43 =>
    match (fld w 56 8).toNat with
    | 0 => some (.loopset (FSY.ofWord w), zeroAt w 0 3)
    | 1 => some (.callGuarded (FSY.ofWord w), zeroAt w 0 3)
    | 2 => some (.pcmp (FSY.ofWord w), zeroAt w 0 3)
    | 3 => some (.mpx (FSY.ofWord w), zeroAt w 0 3)
    | 4 => some (.mxp (FSY.ofWord w), zeroAt w 0 3)
    | 5 => some (.selp (FSY.ofWord w), zeroAt w 0 3)
    | 6 => some (.muli (FSY.ofWord w), zeroAt w 0 3)
    | 7 => some (.slti (FSY.ofWord w), zeroAt w 0 3)
    | 8 => some (.sltiu (FSY.ofWord w), zeroAt w 0 3)
    | 9 => some (.seqi (FSY.ofWord w), zeroAt w 0 3)
    | 10 => some (.mini (FSY.ofWord w), zeroAt w 0 3)
    | 11 => some (.maxi (FSY.ofWord w), zeroAt w 0 3)
    | 12 => some (.bexti (FSY.ofWord w), zeroAt w 0 3)
    | 13 => some (.bextsi (FSY.ofWord w), zeroAt w 0 3)
    | 14 => some (.binsi (FSY.ofWord w), zeroAt w 0 3)
    | 15 => some (.addhi (FSY.ofWord w), zeroAt w 0 3)
    | _ => none
  | 0x48 =>
    match (fld w 0 2).toNat with
    | 0 => some (.ld (FML.ofWord w), zeroAt w 56 2)
    | 1 => some (.lda (FML.ofWord w), zeroAt w 56 2)
    | _ => none
  | 0x49 =>
    match (fld w 0 2).toNat with
    | 0 => some (.st (FML.ofWord w), zeroAt w 56 2)
    | 2 => some (.stl (FML.ofWord w), zeroAt w 56 2)
    | _ => none
  | 0x4A =>
    match (fld w 58 6).toNat with
    | 0 => some (.amoSwap (FAT.ofWord w), zeroAt w 0 3 && zeroAt w 32 7)
    | 1 => some (.amoAdd (FAT.ofWord w), zeroAt w 0 3 && zeroAt w 32 7)
    | 2 => some (.amoAnd (FAT.ofWord w), zeroAt w 0 3 && zeroAt w 32 7)
    | 3 => some (.amoOr (FAT.ofWord w), zeroAt w 0 3 && zeroAt w 32 7)
    | 4 => some (.amoXor (FAT.ofWord w), zeroAt w 0 3 && zeroAt w 32 7)
    | 5 => some (.amoMin (FAT.ofWord w), zeroAt w 0 3 && zeroAt w 32 7)
    | 6 => some (.amoMax (FAT.ofWord w), zeroAt w 0 3 && zeroAt w 32 7)
    | 7 => some (.amoMinu (FAT.ofWord w), zeroAt w 0 3 && zeroAt w 32 7)
    | 8 => some (.amoMaxu (FAT.ofWord w), zeroAt w 0 3 && zeroAt w 32 7)
    | 9 => some (.amoFadd (FAT.ofWord w), zeroAt w 0 3 && zeroAt w 32 7)
    | 10 => some (.amoFmax (FAT.ofWord w), zeroAt w 0 3 && zeroAt w 32 7)
    | 11 => some (.amoFmin (FAT.ofWord w), zeroAt w 0 3 && zeroAt w 32 7)
    | 12 => some (.amoIncw (FAT.ofWord w), zeroAt w 0 3 && zeroAt w 32 7)
    | 13 => some (.amoDecw (FAT.ofWord w), zeroAt w 0 3 && zeroAt w 32 7)
    | 14 => some (.amoAddus (FAT.ofWord w), zeroAt w 0 3 && zeroAt w 32 7)
    | 15 => some (.amoSubus (FAT.ofWord w), zeroAt w 0 3 && zeroAt w 32 7)
    | _ => none
  | 0x4B => if (fld w 58 6).toNat = 0 then some (.cas (FAT.ofWord w), zeroAt w 0 3 && zeroAt w 32 7) else none
  | 0x4C =>
    match (fld w 58 6).toNat with
    | 0 => some (.redSwap (FAT.ofWord w), zeroAt w 0 3 && zeroAt w 32 7)
    | 1 => some (.redAdd (FAT.ofWord w), zeroAt w 0 3 && zeroAt w 32 7)
    | 2 => some (.redAnd (FAT.ofWord w), zeroAt w 0 3 && zeroAt w 32 7)
    | 3 => some (.redOr (FAT.ofWord w), zeroAt w 0 3 && zeroAt w 32 7)
    | 4 => some (.redXor (FAT.ofWord w), zeroAt w 0 3 && zeroAt w 32 7)
    | 5 => some (.redMin (FAT.ofWord w), zeroAt w 0 3 && zeroAt w 32 7)
    | 6 => some (.redMax (FAT.ofWord w), zeroAt w 0 3 && zeroAt w 32 7)
    | 7 => some (.redMinu (FAT.ofWord w), zeroAt w 0 3 && zeroAt w 32 7)
    | 8 => some (.redMaxu (FAT.ofWord w), zeroAt w 0 3 && zeroAt w 32 7)
    | 9 => some (.redFadd (FAT.ofWord w), zeroAt w 0 3 && zeroAt w 32 7)
    | 10 => some (.redFmax (FAT.ofWord w), zeroAt w 0 3 && zeroAt w 32 7)
    | 11 => some (.redFmin (FAT.ofWord w), zeroAt w 0 3 && zeroAt w 32 7)
    | 12 => some (.redIncw (FAT.ofWord w), zeroAt w 0 3 && zeroAt w 32 7)
    | 13 => some (.redDecw (FAT.ofWord w), zeroAt w 0 3 && zeroAt w 32 7)
    | 14 => some (.redAddus (FAT.ofWord w), zeroAt w 0 3 && zeroAt w 32 7)
    | 15 => some (.redSubus (FAT.ofWord w), zeroAt w 0 3 && zeroAt w 32 7)
    | _ => none
  | 0x4D =>
    match (fld w 56 8).toNat with
    | 0 => some (.fence (FSY.ofWord w), zeroAt w 0 3)
    | 1 => some (.fenceAcq (FSY.ofWord w), zeroAt w 0 3)
    | 2 => some (.fenceRel (FSY.ofWord w), zeroAt w 0 3)
    | 3 => some (.mwaittS (FSY.ofWord w), zeroAt w 0 3)
    | 4 => some (.mwaittG (FSY.ofWord w), zeroAt w 0 3)
    | 5 => some (.mwaittQ (FSY.ofWord w), zeroAt w 0 3)
    | 6 => some (.cpref (FSY.ofWord w), zeroAt w 0 3)
    | 7 => some (.cprefw (FSY.ofWord w), zeroAt w 0 3)
    | 8 => some (.cclean (FSY.ofWord w), zeroAt w 0 3)
    | 9 => some (.cflush (FSY.ofWord w), zeroAt w 0 3)
    | 10 => some (.cinv (FSY.ofWord w), zeroAt w 0 3)
    | 11 => some (.ccleanr (FSY.ofWord w), zeroAt w 0 3)
    | 12 => some (.cflushr (FSY.ofWord w), zeroAt w 0 3)
    | 13 => some (.cinvr (FSY.ofWord w), zeroAt w 0 3)
    | 14 => some (.ccleana (FSY.ofWord w), zeroAt w 0 3)
    | 15 => some (.cflusha (FSY.ofWord w), zeroAt w 0 3)
    | _ => none
  | 0x4E =>
    match (fld w 56 8).toNat with
    | 0 => some (.rcfg (FSY.ofWord w), zeroAt w 0 3)
    | 1 => some (.rdesc (FSY.ofWord w), zeroAt w 0 3)
    | 2 => some (.raddr (FSY.ofWord w), zeroAt w 0 3)
    | 3 => some (.rld (FSY.ofWord w), zeroAt w 0 3)
    | 4 => some (.rst (FSY.ofWord w), zeroAt w 0 3)
    | 5 => some (.rclaima (FSY.ofWord w), zeroAt w 0 3)
    | 6 => some (.rown (FSY.ofWord w), zeroAt w 0 3)
    | 7 => some (.rbar (FSY.ofWord w), zeroAt w 0 3)
    | _ => none
  | 0x50 =>
    match (fld w 45 8).toNat with
    | 0 => some (.vadd (FVL.ofWord w), true)
    | 1 => some (.vsub (FVL.ofWord w), true)
    | 2 => some (.vmul (FVL.ofWord w), true)
    | 3 => some (.vfma (FVL.ofWord w), true)
    | 4 => some (.vfms (FVL.ofWord w), true)
    | 5 => some (.vfnma (FVL.ofWord w), true)
    | 6 => some (.vdiv (FVL.ofWord w), true)
    | 7 => some (.vsqrt (FVL.ofWord w), true)
    | 8 => some (.vmax (FVL.ofWord w), true)
    | 9 => some (.vmin (FVL.ofWord w), true)
    | 10 => some (.vabs (FVL.ofWord w), true)
    | 11 => some (.vneg (FVL.ofWord w), true)
    | 12 => some (.vcpsgn (FVL.ofWord w), true)
    | 13 => some (.vrint (FVL.ofWord w), true)
    | 14 => some (.vldexp (FVL.ofWord w), true)
    | 15 => some (.vrcp (FVL.ofWord w), true)
    | 16 => some (.vrsqrt (FVL.ofWord w), true)
    | 17 => some (.vexp (FVL.ofWord w), true)
    | 18 => some (.vexp2 (FVL.ofWord w), true)
    | 19 => some (.vlog2 (FVL.ofWord w), true)
    | 20 => some (.vtanh (FVL.ofWord w), true)
    | 21 => some (.vsigm (FVL.ofWord w), true)
    | 22 => some (.vsilu (FVL.ofWord w), true)
    | 23 => some (.vgelu (FVL.ofWord w), true)
    | 24 => some (.vcvt (FVL.ofWord w), true)
    | 25 => some (.vcvtn (FVL.ofWord w), true)
    | 26 => some (.vcvtw (FVL.ofWord w), true)
    | 27 => some (.vmaxnum (FVL.ofWord w), true)
    | 28 => some (.vminnum (FVL.ofWord w), true)
    | 29 => some (.vdot2 (FVL.ofWord w), true)
    | 30 => some (.vsqd (FVL.ofWord w), true)
    | 31 => some (.vlerp (FVL.ofWord w), true)
    | _ => none
  | 0x51 =>
    match (fld w 45 8).toNat with
    | 0 => some (.viadd (FVL.ofWord w), true)
    | 1 => some (.visub (FVL.ofWord w), true)
    | 2 => some (.vimul (FVL.ofWord w), true)
    | 3 => some (.vimulh (FVL.ofWord w), true)
    | 4 => some (.vimad (FVL.ofWord w), true)
    | 5 => some (.viadds (FVL.ofWord w), true)
    | 6 => some (.visubs (FVL.ofWord w), true)
    | 7 => some (.viaddus (FVL.ofWord w), true)
    | 8 => some (.visubus (FVL.ofWord w), true)
    | 9 => some (.vimin (FVL.ofWord w), true)
    | 10 => some (.vimax (FVL.ofWord w), true)
    | 11 => some (.viminu (FVL.ofWord w), true)
    | 12 => some (.vimaxu (FVL.ofWord w), true)
    | 13 => some (.viabs (FVL.ofWord w), true)
    | 14 => some (.vand (FVL.ofWord w), true)
    | 15 => some (.vor (FVL.ofWord w), true)
    | 16 => some (.vxor (FVL.ofWord w), true)
    | 17 => some (.vandn (FVL.ofWord w), true)
    | 18 => some (.vnot (FVL.ofWord w), true)
    | 19 => some (.vsll (FVL.ofWord w), true)
    | 20 => some (.vsrl (FVL.ofWord w), true)
    | 21 => some (.vsra (FVL.ofWord w), true)
    | 22 => some (.vslli (FVL.ofWord w), true)
    | 23 => some (.vsrli (FVL.ofWord w), true)
    | 24 => some (.vsrai (FVL.ofWord w), true)
    | 25 => some (.vpopc (FVL.ofWord w), true)
    | 26 => some (.vclz (FVL.ofWord w), true)
    | 27 => some (.vdot4 (FVL.ofWord w), true)
    | 28 => some (.vaddi (FVL.ofWord w), true)
    | 29 => some (.vandi (FVL.ofWord w), true)
    | 30 => some (.vsrar (FVL.ofWord w), true)
    | 31 => some (.vclamp (FVL.ofWord w), true)
    | _ => none
  | 0x52 =>
    match (fld w 45 8).toNat with
    | 0 => some (.vcmpeq (FVL.ofWord w), true)
    | 1 => some (.vcmpne (FVL.ofWord w), true)
    | 2 => some (.vcmplt (FVL.ofWord w), true)
    | 3 => some (.vcmple (FVL.ofWord w), true)
    | 4 => some (.vcmpgt (FVL.ofWord w), true)
    | 5 => some (.vcmpge (FVL.ofWord w), true)
    | 6 => some (.vcmpltu (FVL.ofWord w), true)
    | 7 => some (.vcmpgeu (FVL.ofWord w), true)
    | 8 => some (.vcmpun (FVL.ofWord w), true)
    | 9 => some (.vftest (FVL.ofWord w), true)
    | 10 => some (.pand (FVL.ofWord w), true)
    | 11 => some (.por (FVL.ofWord w), true)
    | 12 => some (.pxor (FVL.ofWord w), true)
    | 13 => some (.pandn (FVL.ofWord w), true)
    | 14 => some (.porn (FVL.ofWord w), true)
    | 15 => some (.pnot (FVL.ofWord w), true)
    | 16 => some (.pset (FVL.ofWord w), true)
    | 17 => some (.pclr (FVL.ofWord w), true)
    | 18 => some (.plen (FVL.ofWord w), true)
    | 19 => some (.plenr (FVL.ofWord w), true)
    | 20 => some (.pfirst (FVL.ofWord w), true)
    | 21 => some (.pfirstr (FVL.ofWord w), true)
    | 22 => some (.pcnt (FVL.ofWord w), true)
    | 23 => some (.pcntr (FVL.ofWord w), true)
    | 24 => some (.vsel (FVL.ofWord w), true)
    | 25 => some (.vptov (FVL.ofWord w), true)
    | 26 => some (.vtop (FVL.ofWord w), true)
    | 27 => some (.pany (FVL.ofWord w), true)
    | 28 => some (.pall (FVL.ofWord w), true)
    | 29 => some (.panyr (FVL.ofWord w), true)
    | 30 => some (.protr (FVL.ofWord w), true)
    | 31 => some (.prowb (FVL.ofWord w), true)
    | _ => none
  | 0x53 =>
    match (fld w 45 8).toNat with
    | 0 => some (.vmov (FVL.ofWord w), true)
    | 1 => some (.vli (FVL.ofWord w), true)
    | 2 => some (.vbcx (FVL.ofWord w), true)
    | 3 => some (.vins (FVL.ofWord w), true)
    | 4 => some (.vext (FVL.ofWord w), true)
    | 5 => some (.viota (FVL.ofWord w), true)
    | 6 => some (.vrotr (FVL.ofWord w), true)
    | 7 => some (.vrotc (FVL.ofWord w), true)
    | 8 => some (.vshr (FVL.ofWord w), true)
    | 9 => some (.vshc (FVL.ofWord w), true)
    | 10 => some (.vrev (FVL.ofWord w), true)
    | 11 => some (.vrevc (FVL.ofWord w), true)
    | 12 => some (.vtr16 (FVL.ofWord w), true)
    | 13 => some (.vbcr (FVL.ofWord w), true)
    | 14 => some (.vbcc (FVL.ofWord w), true)
    | 15 => some (.vgathr (FVL.ofWord w), true)
    | 16 => some (.vgathc (FVL.ofWord w), true)
    | 17 => some (.vpermb (FVL.ofWord w), true)
    | 18 => some (.vswaph (FVL.ofWord w), true)
    | 19 => some (.vbswap (FVL.ofWord w), true)
    | 20 => some (.vcompr (FVL.ofWord w), true)
    | 21 => some (.vexpd (FVL.ofWord w), true)
    | 22 => some (.vredr (FVL.ofWord w), true)
    | 23 => some (.vredc (FVL.ofWord w), true)
    | 24 => some (.vreda (FVL.ofWord w), true)
    | 25 => some (.vscanr (FVL.ofWord w), true)
    | 26 => some (.vscanc (FVL.ofWord w), true)
    | 27 => some (.vpscan (FVL.ofWord w), true)
    | 28 => some (.vpscana (FVL.ofWord w), true)
    | 29 => some (.vtopk (FVL.ofWord w), true)
    | 30 => some (.vsamp (FVL.ofWord w), true)
    | 31 => some (.vsumsqr (FVL.ofWord w), true)
    | _ => none
  | 0x58 =>
    match (fld w 56 4).toNat with
    | 0 => some (.vld (FVM.ofWord w), true)
    | 1 => some (.vldT (FVM.ofWord w), true)
    | 2 => some (.vldRowb (FVM.ofWord w), true)
    | 3 => some (.vldColb (FVM.ofWord w), true)
    | 4 => some (.vldN8 (FVM.ofWord w), true)
    | 5 => some (.vldN16 (FVM.ofWord w), true)
    | 6 => some (.vldN8s (FVM.ofWord w), true)
    | 7 => some (.vldN16s (FVM.ofWord w), true)
    | _ => none
  | 0x59 =>
    match (fld w 56 4).toNat with
    | 0 => some (.vst (FVM.ofWord w), true)
    | 1 => some (.vstT (FVM.ofWord w), true)
    | 2 => some (.vstRow0 (FVM.ofWord w), true)
    | 3 => some (.vstCol0 (FVM.ofWord w), true)
    | 4 => some (.vstN8 (FVM.ofWord w), true)
    | 5 => some (.vstN16 (FVM.ofWord w), true)
    | 6 => some (.vstN8s (FVM.ofWord w), true)
    | 7 => some (.vstN16s (FVM.ofWord w), true)
    | _ => none
  | 0x60 =>
    match (fld w 0 8).toNat with
    | 0 => some (.kli (FL.ofWord w), true)
    | 1 => some (.kliw (FL.ofWord w), true)
    | 2 => some (.kmvx (FL.ofWord w), true)
    | 3 => some (.kclr (FL.ofWord w), true)
    | _ => none
  | 0x61 =>
    match (fld w 56 8).toNat with
    | 0 => some (.rsubmit (FSY.ofWord w), zeroAt w 0 3)
    | 1 => some (.rpark (FSY.ofWord w), zeroAt w 0 3)
    | 2 => some (.rresume (FSY.ofWord w), zeroAt w 0 3)
    | 3 => some (.rcancel (FSY.ofWord w), zeroAt w 0 3)
    | 4 => some (.rfree (FSY.ofWord w), zeroAt w 0 3)
    | 5 => some (.remit (FSY.ofWord w), zeroAt w 0 3)
    | 6 => some (.rflt (FSY.ofWord w), zeroAt w 0 3)
    | 7 => some (.rrec (FSY.ofWord w), zeroAt w 0 3)
    | _ => none
  | 0x62 =>
    match (fld w 56 8).toNat with
    | 0 => some (.tnext (FSY.ofWord w), zeroAt w 0 3)
    | 1 => some (.tcfg (FSY.ofWord w), zeroAt w 0 3)
    | 2 => some (.tarm (FSY.ofWord w), zeroAt w 0 3)
    | 3 => some (.tstamp (FSY.ofWord w), zeroAt w 0 3)
    | _ => none
  | 0x63 =>
    match (fld w 56 8).toNat with
    | 0 => some (.launch (FSY.ofWord w), zeroAt w 0 3)
    | 1 => some (.plane (FSY.ofWord w), zeroAt w 0 3)
    | 2 => some (.swapt (FSY.ofWord w), zeroAt w 0 3)
    | 3 => some (.preempt (FSY.ofWord w), zeroAt w 0 3)
    | 4 => if zeroAt w 32 1 then some (.resumePartition (FSY.ofWord w), zeroAt w 0 3)
      else some (.resumeQueue (FSY.ofWord w), zeroAt w 0 3)
    | 5 => some (.commit (FSY.ofWord w), zeroAt w 0 3)
    | _ => none
  | 0x64 =>
    match (fld w 56 8).toNat with
    | 0 => some (.trap (FSY.ofWord w), zeroAt w 0 3)
    | 1 => some (.rtt (FSY.ofWord w), zeroAt w 0 3)
    | 2 => some (.brk (FSY.ofWord w), zeroAt w 0 3)
    | 3 => some (.mfsr (FSY.ofWord w), zeroAt w 0 3)
    | 4 => some (.mtsr (FSY.ofWord w), zeroAt w 0 3)
    | 5 => some (.qres (FSY.ofWord w), zeroAt w 0 3)
    | 6 => some (.qmpc (FSY.ofWord w), zeroAt w 0 3)
    | 7 => some (.rdfr (FSY.ofWord w), zeroAt w 0 3)
    | _ => none
  | _ => none

/-- The decoder: a well-formed instruction, or the name of what the words break (R86, steps 2 to 4). The second word
is ignored by a 32-bit instruction. -/
noncomputable def decode (w0 w1 : Word) : Except DecodeError Instr :=
  match decodeRaw (w0.toNat + 2 ^ 32 * w1.toNat) with
  | none => .error .reserved
  | some (i, gap) => if gap && i.wf then .ok i else .error .field

/-- A major of 0x40 or above makes an instruction of two words (R74). -/
def isLong (w0 : Word) : Bool := decide (0x40 ≤ (fld w0.toNat 25 7).toNat)

def packN (major : Nat) : Nat :=
  packFields
    [(25, 0), (7, major)]

def packA (major minor : Nat) (f : FA) : Nat :=
  packFields
    [(6, minor), (4, f.g.toNat), (5, f.b.toNat), (5, f.a.toNat), (5, f.d.toNat), (7, major)]

def packF (major minor : Nat) (f : FF) : Nat :=
  packFields
    [(4, minor), (2, f.rm.toNat), (4, f.g.toNat), (5, f.b.toNat), (5, f.a.toNat), (5, f.d.toNat),
     (7, major)]

def packMinMax (major minor0 minor1 : Nat) (f : FMinMax) : Nat :=
  packFields
    [(4, minor0), (2, minor1), (4, f.g.toNat), (5, f.b.toNat), (5, f.a.toNat), (5, f.d.toNat),
     (7, major)]

def packCvt (major minor0 minor1 : Nat) (f : FCvt) : Nat :=
  packFields
    [(4, minor0), (2, f.rm.toNat), (4, f.g.toNat), (5, minor1), (5, f.a.toNat), (5, f.d.toNat),
     (7, major)]

def packS (major minor : Nat) (f : FS) : Nat :=
  packFields
    [(4, f.g.toNat), (10, 0), (1, minor), (5, f.sreg.toNat), (5, f.d.toNat), (7, major)]

def packI (major : Nat) (f : FI) : Nat :=
  packFields
    [(4, f.g.toNat), (11, f.imm.toNat), (5, f.a.toNat), (5, f.d.toNat), (7, major)]

def packShift (major minor : Nat) (f : FShift) : Nat :=
  packFields
    [(4, f.g.toNat), (6, f.amt.toNat), (3, 0), (2, minor), (5, f.a.toNat), (5, f.d.toNat), (7, major)]

def packWid (major : Nat) (f : FWid) : Nat :=
  packFields
    [(4, f.g.toNat), (3, f.i.toNat), (8, 0), (5, f.a.toNat), (5, f.d.toNat), (7, major)]

def packJ (major : Nat) (f : FJ) : Nat :=
  packFields
    [(4, f.slot.toNat), (21, f.line.toNat), (7, major)]

def packW (major minor : Nat) (f : FW) : Nat :=
  packFields
    [(4, f.g.toNat), (17, f.arg.toNat), (4, minor), (7, major)]

def packM (major : Nat) (f : FM) : Nat :=
  packFields
    [(4, f.off.toNat), (4, f.g.toNat), (4, f.cls.toNat), (1, f.xc.toNat), (2, f.sz.toNat),
     (5, f.a.toNat), (5, f.d.toNat), (7, major)]

def packQ (major minor : Nat) (f : FQ) : Nat :=
  packFields
    [(2, minor), (4, f.g.toNat), (9, f.cnt.toNat), (5, f.a.toNat), (5, f.q.toNat), (7, major)]

def packFence (major minor : Nat) (f : FFence) : Nat :=
  packFields
    [(4, f.g.toNat), (17, f.arg.toNat), (2, f.scope.toNat), (2, minor), (7, major)]

def packE (major minor : Nat) (f : FE) : Nat :=
  packFields
    [(4, f.g.toNat), (10, 0), (1, minor), (2, f.n.toNat), (4, f.k.toNat), (4, f.queue.toNat),
     (7, major)]

def packK (major : Nat) (f : FK) : Nat :=
  packFields
    [(3, 0), (6, f.width.toNat), (7, f.pos.toNat), (5, f.a.toNat), (4, f.k.toNat), (7, major)]

def packV (major minor : Nat) (f : FV) : Nat :=
  packFields
    [(3, minor), (4, f.g.toNat), (6, f.vb.toNat), (6, f.va.toNat), (6, f.vd.toNat), (7, major)]

def packBC (major minor : Nat) (f : FBC) : Nat :=
  packFields
    [(4, 0), (4, minor), (5, f.b.toNat), (5, f.a.toNat), (7, f.g.toNat), (7, major), (4, f.slot.toNat),
     (21, f.line.toNat), (7, 0)]

def packL (major minor : Nat) (f : FL) : Nat :=
  packFields
    [(8, minor), (5, f.a.toNat), (5, f.d.toNat), (7, f.g.toNat), (7, major), (32, f.imm.toNat)]

def packP (major minor : Nat) (f : FP) : Nat :=
  packFields
    [(8, minor), (5, f.a.toNat), (5, f.d.toNat), (7, f.g.toNat), (7, major), (13, f.place.toNat),
     (5, f.rows.toNat), (7, f.cols.toNat), (7, f.pos.toNat)]

def packSY (major minor : Nat) (f : FSY) : Nat :=
  packFields
    [(3, 0), (5, f.b.toNat), (5, f.a.toNat), (5, f.d.toNat), (7, f.g.toNat), (7, major),
     (24, f.imm.toNat), (8, minor)]

def packML (major minor : Nat) (f : FML) : Nat :=
  packFields
    [(2, minor), (1, f.xc.toNat), (2, f.sz.toNat), (3, f.space.toNat), (5, f.a.toNat), (5, f.d.toNat),
     (7, f.g.toNat), (7, major), (24, f.off.toNat), (2, 0), (2, f.scope.toNat), (4, f.cls.toNat)]

def packAT (major minor : Nat) (f : FAT) : Nat :=
  packFields
    [(3, 0), (5, f.b.toNat), (5, f.a.toNat), (5, f.d.toNat), (7, f.g.toNat), (7, major), (7, 0),
     (5, f.c.toNat), (2, f.ord.toNat), (2, f.scope.toNat), (4, f.cls.toNat), (1, f.xc.toNat),
     (2, f.sz.toNat), (3, f.space.toNat), (6, minor)]

def packVL (major minor : Nat) (f : FVL) : Nat :=
  packFields
    [(6, f.vb.toNat), (6, f.va.toNat), (6, f.vd.toNat), (7, f.g.toNat), (7, major), (13, f.imm.toNat),
     (8, minor), (3, f.ty.toNat), (2, f.rm.toNat), (6, f.vc.toNat)]

def packVM (major minor : Nat) (f : FVM) : Nat :=
  packFields
    [(2, f.mode.toNat), (5, f.q.toNat), (5, f.a.toNat), (6, f.v.toNat), (7, f.g.toNat), (7, major),
     (24, f.off.toNat), (4, minor), (4, f.cls.toNat)]

/-- The number of an instruction (R82, R83, R85); a step that no word encodes (an engine command, an event) gives 0. -/
def encodeNat : Instr → Nat
  | .nop => packN 0x01
  | .add f => packA 0x02 0 f
  | .sub f => packA 0x02 1 f
  | .and f => packA 0x02 2 f
  | .or f => packA 0x02 3 f
  | .xor f => packA 0x02 4 f
  | .andn f => packA 0x02 5 f
  | .orn f => packA 0x02 6 f
  | .xnor f => packA 0x02 7 f
  | .sll f => packA 0x02 8 f
  | .srl f => packA 0x02 9 f
  | .sra f => packA 0x02 10 f
  | .ror f => packA 0x02 11 f
  | .mul f => packA 0x02 12 f
  | .mulh f => packA 0x02 13 f
  | .mulhu f => packA 0x02 14 f
  | .mulhsu f => packA 0x02 15 f
  | .div f => packA 0x02 16 f
  | .divu f => packA 0x02 17 f
  | .rem f => packA 0x02 18 f
  | .remu f => packA 0x02 19 f
  | .addw f => packA 0x02 20 f
  | .subw f => packA 0x02 21 f
  | .mulw f => packA 0x02 22 f
  | .adds f => packA 0x02 23 f
  | .subs f => packA 0x02 24 f
  | .addus f => packA 0x02 25 f
  | .subus f => packA 0x02 26 f
  | .rol f => packA 0x02 27 f
  | .seq f => packA 0x03 0 f
  | .sne f => packA 0x03 1 f
  | .slt f => packA 0x03 2 f
  | .sltu f => packA 0x03 3 f
  | .sge f => packA 0x03 4 f
  | .sgeu f => packA 0x03 5 f
  | .min f => packA 0x03 6 f
  | .minu f => packA 0x03 7 f
  | .max f => packA 0x03 8 f
  | .maxu f => packA 0x03 9 f
  | .cmovnz f => packA 0x03 10 f
  | .cmovz f => packA 0x03 11 f
  | .tstnz f => packA 0x03 12 f
  | .tstz f => packA 0x03 13 f
  | .selb f => packA 0x03 14 f
  | .cmps f => packA 0x03 15 f
  | .clz f => packA 0x04 0 f
  | .ctz f => packA 0x04 1 f
  | .popc f => packA 0x04 2 f
  | .bswap f => packA 0x04 3 f
  | .bext f => packA 0x04 4 f
  | .bexts f => packA 0x04 5 f
  | .bins f => packA 0x04 6 f
  | .sh1add f => packA 0x04 7 f
  | .sh2add f => packA 0x04 8 f
  | .sh3add f => packA 0x04 9 f
  | .sh4add f => packA 0x04 10 f
  | .sh6add f => packA 0x04 11 f
  | .plw f => packA 0x04 12 f
  | .qaddr f => packA 0x04 13 f
  | .faddr f => packA 0x04 14 f
  | .alignup f => packA 0x04 15 f
  | .fadd f => packF 0x05 0 f
  | .fmul f => packF 0x05 1 f
  | .fma f => packF 0x05 2 f
  | .fmax f => packMinMax 0x05 3 0 f
  | .fmin f => packMinMax 0x05 3 1 f
  | .fcvtF32I64 f => packCvt 0x05 4 0 f
  | .fcvtF32U64 f => packCvt 0x05 4 1 f
  | .fcvtI64F32 f => packCvt 0x05 4 2 f
  | .fcvtI32F32 f => packCvt 0x05 4 3 f
  | .mfs f => packS 0x06 0 f
  | .mts f => packS 0x06 1 f
  | .addi f => packI 0x08 f
  | .andi f => packI 0x09 f
  | .ori f => packI 0x0A f
  | .xori f => packI 0x0B f
  | .slli f => packShift 0x0C 0 f
  | .srli f => packShift 0x0C 1 f
  | .srai f => packShift 0x0C 2 f
  | .rori f => packShift 0x0C 3 f
  | .widf f => packWid 0x0D f
  | .b f => packJ 0x10 f
  | .call f => packJ 0x11 f
  | .bloop f => packJ 0x12 f
  | .br f => packA 0x13 0 f
  | .callr f => packA 0x13 1 f
  | .ret f => packA 0x13 2 f
  | .yield f => packW 0x14 0 f
  | .waitRing f => packW 0x14 1 f
  | .waitFree f => packW 0x14 2 f
  | .waitJoin f => packW 0x14 3 f
  | .waitStep f => packW 0x14 4 f
  | .waitTime f => packW 0x14 5 f
  | .waitClk f => packW 0x14 6 f
  | .halt f => packW 0x14 7 f
  | .ldS f => packM 0x18 f
  | .stS f => packM 0x19 f
  | .ldW f => packM 0x1A f
  | .stW f => packM 0x1B f
  | .ldG f => packM 0x1C f
  | .stG f => packM 0x1D f
  | .ldQ f => packM 0x1E f
  | .stQ f => packM 0x1F f
  | .rclaim f => packQ 0x20 0 f
  | .rcommit f => packQ 0x20 1 f
  | .rrelease f => packQ 0x20 2 f
  | .rstat f => packQ 0x20 3 f
  | .fenceShort f => packFence 0x21 0 f
  | .mark f => packW 0x21 4 f
  | .mwaitS f => packW 0x21 5 f
  | .mwaitG f => packW 0x21 6 f
  | .mwaitQ f => packW 0x21 7 f
  | .push f => packE 0x28 0 f
  | .pushW f => packE 0x28 1 f
  | .kins f => packK 0x29 f
  | .vaddShort f => packV 0x30 0 f
  | .vsubShort f => packV 0x30 1 f
  | .vmulShort f => packV 0x30 2 f
  | .vfmaShort f => packV 0x30 3 f
  | .vmaxShort f => packV 0x30 4 f
  | .vminShort f => packV 0x30 5 f
  | .vexpShort f => packV 0x30 6 f
  | .vsigmShort f => packV 0x30 7 f
  | .viaddShort f => packV 0x31 0 f
  | .visubShort f => packV 0x31 1 f
  | .vimulShort f => packV 0x31 2 f
  | .vandShort f => packV 0x31 3 f
  | .vorShort f => packV 0x31 4 f
  | .vxorShort f => packV 0x31 5 f
  | .vimaxShort f => packV 0x31 6 f
  | .viminShort f => packV 0x31 7 f
  | .vcmpeqF32Short f => packV 0x32 0 f
  | .vcmpltF32Short f => packV 0x32 1 f
  | .vcmpleF32Short f => packV 0x32 2 f
  | .vcmpeqI32Short f => packV 0x32 3 f
  | .vcmpltI32Short f => packV 0x32 4 f
  | .vcmpltuI32Short f => packV 0x32 5 f
  | .pandShort f => packV 0x32 6 f
  | .pnotShort f => packV 0x32 7 f
  | .vmovShort f => packV 0x33 0 f
  | .vpermbShort f => packV 0x33 1 f
  | .vgathrShort f => packV 0x33 2 f
  | .vredrFaddShort f => packV 0x33 3 f
  | .vredrFmaxShort f => packV 0x33 4 f
  | .vbcxShort f => packV 0x33 5 f
  | .vredcFaddShort f => packV 0x33 6 f
  | .viotaShort f => packV 0x33 7 f
  | .bGuarded f => packBC 0x40 0 f
  | .beq f => packBC 0x40 1 f
  | .bne f => packBC 0x40 2 f
  | .blt f => packBC 0x40 3 f
  | .bge f => packBC 0x40 4 f
  | .bltu f => packBC 0x40 5 f
  | .bgeu f => packBC 0x40 6 f
  | .li f => packL 0x41 0 f
  | .lih f => packL 0x41 1 f
  | .addiWide f => packL 0x41 2 f
  | .andiWide f => packL 0x41 3 f
  | .oriWide f => packL 0x41 4 f
  | .xoriWide f => packL 0x41 5 f
  | .lip f => packP 0x42 0 f
  | .lir f => packP 0x42 1 f
  | .liw f => packP 0x42 2 f
  | .kpl f => packP 0x42 3 f
  | .krl f => packP 0x42 4 f
  | .loopset f => packSY 0x43 0 f
  | .callGuarded f => packSY 0x43 1 f
  | .pcmp f => packSY 0x43 2 f
  | .mpx f => packSY 0x43 3 f
  | .mxp f => packSY 0x43 4 f
  | .selp f => packSY 0x43 5 f
  | .muli f => packSY 0x43 6 f
  | .slti f => packSY 0x43 7 f
  | .sltiu f => packSY 0x43 8 f
  | .seqi f => packSY 0x43 9 f
  | .mini f => packSY 0x43 10 f
  | .maxi f => packSY 0x43 11 f
  | .bexti f => packSY 0x43 12 f
  | .bextsi f => packSY 0x43 13 f
  | .binsi f => packSY 0x43 14 f
  | .addhi f => packSY 0x43 15 f
  | .ld f => packML 0x48 0 f
  | .lda f => packML 0x48 1 f
  | .st f => packML 0x49 0 f
  | .stl f => packML 0x49 2 f
  | .amoSwap f => packAT 0x4A 0 f
  | .amoAdd f => packAT 0x4A 1 f
  | .amoAnd f => packAT 0x4A 2 f
  | .amoOr f => packAT 0x4A 3 f
  | .amoXor f => packAT 0x4A 4 f
  | .amoMin f => packAT 0x4A 5 f
  | .amoMax f => packAT 0x4A 6 f
  | .amoMinu f => packAT 0x4A 7 f
  | .amoMaxu f => packAT 0x4A 8 f
  | .amoFadd f => packAT 0x4A 9 f
  | .amoFmax f => packAT 0x4A 10 f
  | .amoFmin f => packAT 0x4A 11 f
  | .amoIncw f => packAT 0x4A 12 f
  | .amoDecw f => packAT 0x4A 13 f
  | .amoAddus f => packAT 0x4A 14 f
  | .amoSubus f => packAT 0x4A 15 f
  | .cas f => packAT 0x4B 0 f
  | .redSwap f => packAT 0x4C 0 f
  | .redAdd f => packAT 0x4C 1 f
  | .redAnd f => packAT 0x4C 2 f
  | .redOr f => packAT 0x4C 3 f
  | .redXor f => packAT 0x4C 4 f
  | .redMin f => packAT 0x4C 5 f
  | .redMax f => packAT 0x4C 6 f
  | .redMinu f => packAT 0x4C 7 f
  | .redMaxu f => packAT 0x4C 8 f
  | .redFadd f => packAT 0x4C 9 f
  | .redFmax f => packAT 0x4C 10 f
  | .redFmin f => packAT 0x4C 11 f
  | .redIncw f => packAT 0x4C 12 f
  | .redDecw f => packAT 0x4C 13 f
  | .redAddus f => packAT 0x4C 14 f
  | .redSubus f => packAT 0x4C 15 f
  | .fence f => packSY 0x4D 0 f
  | .fenceAcq f => packSY 0x4D 1 f
  | .fenceRel f => packSY 0x4D 2 f
  | .mwaittS f => packSY 0x4D 3 f
  | .mwaittG f => packSY 0x4D 4 f
  | .mwaittQ f => packSY 0x4D 5 f
  | .cpref f => packSY 0x4D 6 f
  | .cprefw f => packSY 0x4D 7 f
  | .cclean f => packSY 0x4D 8 f
  | .cflush f => packSY 0x4D 9 f
  | .cinv f => packSY 0x4D 10 f
  | .ccleanr f => packSY 0x4D 11 f
  | .cflushr f => packSY 0x4D 12 f
  | .cinvr f => packSY 0x4D 13 f
  | .ccleana f => packSY 0x4D 14 f
  | .cflusha f => packSY 0x4D 15 f
  | .rcfg f => packSY 0x4E 0 f
  | .rdesc f => packSY 0x4E 1 f
  | .raddr f => packSY 0x4E 2 f
  | .rld f => packSY 0x4E 3 f
  | .rst f => packSY 0x4E 4 f
  | .rclaima f => packSY 0x4E 5 f
  | .rown f => packSY 0x4E 6 f
  | .rbar f => packSY 0x4E 7 f
  | .vadd f => packVL 0x50 0 f
  | .vsub f => packVL 0x50 1 f
  | .vmul f => packVL 0x50 2 f
  | .vfma f => packVL 0x50 3 f
  | .vfms f => packVL 0x50 4 f
  | .vfnma f => packVL 0x50 5 f
  | .vdiv f => packVL 0x50 6 f
  | .vsqrt f => packVL 0x50 7 f
  | .vmax f => packVL 0x50 8 f
  | .vmin f => packVL 0x50 9 f
  | .vabs f => packVL 0x50 10 f
  | .vneg f => packVL 0x50 11 f
  | .vcpsgn f => packVL 0x50 12 f
  | .vrint f => packVL 0x50 13 f
  | .vldexp f => packVL 0x50 14 f
  | .vrcp f => packVL 0x50 15 f
  | .vrsqrt f => packVL 0x50 16 f
  | .vexp f => packVL 0x50 17 f
  | .vexp2 f => packVL 0x50 18 f
  | .vlog2 f => packVL 0x50 19 f
  | .vtanh f => packVL 0x50 20 f
  | .vsigm f => packVL 0x50 21 f
  | .vsilu f => packVL 0x50 22 f
  | .vgelu f => packVL 0x50 23 f
  | .vcvt f => packVL 0x50 24 f
  | .vcvtn f => packVL 0x50 25 f
  | .vcvtw f => packVL 0x50 26 f
  | .vmaxnum f => packVL 0x50 27 f
  | .vminnum f => packVL 0x50 28 f
  | .vdot2 f => packVL 0x50 29 f
  | .vsqd f => packVL 0x50 30 f
  | .vlerp f => packVL 0x50 31 f
  | .viadd f => packVL 0x51 0 f
  | .visub f => packVL 0x51 1 f
  | .vimul f => packVL 0x51 2 f
  | .vimulh f => packVL 0x51 3 f
  | .vimad f => packVL 0x51 4 f
  | .viadds f => packVL 0x51 5 f
  | .visubs f => packVL 0x51 6 f
  | .viaddus f => packVL 0x51 7 f
  | .visubus f => packVL 0x51 8 f
  | .vimin f => packVL 0x51 9 f
  | .vimax f => packVL 0x51 10 f
  | .viminu f => packVL 0x51 11 f
  | .vimaxu f => packVL 0x51 12 f
  | .viabs f => packVL 0x51 13 f
  | .vand f => packVL 0x51 14 f
  | .vor f => packVL 0x51 15 f
  | .vxor f => packVL 0x51 16 f
  | .vandn f => packVL 0x51 17 f
  | .vnot f => packVL 0x51 18 f
  | .vsll f => packVL 0x51 19 f
  | .vsrl f => packVL 0x51 20 f
  | .vsra f => packVL 0x51 21 f
  | .vslli f => packVL 0x51 22 f
  | .vsrli f => packVL 0x51 23 f
  | .vsrai f => packVL 0x51 24 f
  | .vpopc f => packVL 0x51 25 f
  | .vclz f => packVL 0x51 26 f
  | .vdot4 f => packVL 0x51 27 f
  | .vaddi f => packVL 0x51 28 f
  | .vandi f => packVL 0x51 29 f
  | .vsrar f => packVL 0x51 30 f
  | .vclamp f => packVL 0x51 31 f
  | .vcmpeq f => packVL 0x52 0 f
  | .vcmpne f => packVL 0x52 1 f
  | .vcmplt f => packVL 0x52 2 f
  | .vcmple f => packVL 0x52 3 f
  | .vcmpgt f => packVL 0x52 4 f
  | .vcmpge f => packVL 0x52 5 f
  | .vcmpltu f => packVL 0x52 6 f
  | .vcmpgeu f => packVL 0x52 7 f
  | .vcmpun f => packVL 0x52 8 f
  | .vftest f => packVL 0x52 9 f
  | .pand f => packVL 0x52 10 f
  | .por f => packVL 0x52 11 f
  | .pxor f => packVL 0x52 12 f
  | .pandn f => packVL 0x52 13 f
  | .porn f => packVL 0x52 14 f
  | .pnot f => packVL 0x52 15 f
  | .pset f => packVL 0x52 16 f
  | .pclr f => packVL 0x52 17 f
  | .plen f => packVL 0x52 18 f
  | .plenr f => packVL 0x52 19 f
  | .pfirst f => packVL 0x52 20 f
  | .pfirstr f => packVL 0x52 21 f
  | .pcnt f => packVL 0x52 22 f
  | .pcntr f => packVL 0x52 23 f
  | .vsel f => packVL 0x52 24 f
  | .vptov f => packVL 0x52 25 f
  | .vtop f => packVL 0x52 26 f
  | .pany f => packVL 0x52 27 f
  | .pall f => packVL 0x52 28 f
  | .panyr f => packVL 0x52 29 f
  | .protr f => packVL 0x52 30 f
  | .prowb f => packVL 0x52 31 f
  | .vmov f => packVL 0x53 0 f
  | .vli f => packVL 0x53 1 f
  | .vbcx f => packVL 0x53 2 f
  | .vins f => packVL 0x53 3 f
  | .vext f => packVL 0x53 4 f
  | .viota f => packVL 0x53 5 f
  | .vrotr f => packVL 0x53 6 f
  | .vrotc f => packVL 0x53 7 f
  | .vshr f => packVL 0x53 8 f
  | .vshc f => packVL 0x53 9 f
  | .vrev f => packVL 0x53 10 f
  | .vrevc f => packVL 0x53 11 f
  | .vtr16 f => packVL 0x53 12 f
  | .vbcr f => packVL 0x53 13 f
  | .vbcc f => packVL 0x53 14 f
  | .vgathr f => packVL 0x53 15 f
  | .vgathc f => packVL 0x53 16 f
  | .vpermb f => packVL 0x53 17 f
  | .vswaph f => packVL 0x53 18 f
  | .vbswap f => packVL 0x53 19 f
  | .vcompr f => packVL 0x53 20 f
  | .vexpd f => packVL 0x53 21 f
  | .vredr f => packVL 0x53 22 f
  | .vredc f => packVL 0x53 23 f
  | .vreda f => packVL 0x53 24 f
  | .vscanr f => packVL 0x53 25 f
  | .vscanc f => packVL 0x53 26 f
  | .vpscan f => packVL 0x53 27 f
  | .vpscana f => packVL 0x53 28 f
  | .vtopk f => packVL 0x53 29 f
  | .vsamp f => packVL 0x53 30 f
  | .vsumsqr f => packVL 0x53 31 f
  | .vld f => packVM 0x58 0 f
  | .vldT f => packVM 0x58 1 f
  | .vldRowb f => packVM 0x58 2 f
  | .vldColb f => packVM 0x58 3 f
  | .vldN8 f => packVM 0x58 4 f
  | .vldN16 f => packVM 0x58 5 f
  | .vldN8s f => packVM 0x58 6 f
  | .vldN16s f => packVM 0x58 7 f
  | .vst f => packVM 0x59 0 f
  | .vstT f => packVM 0x59 1 f
  | .vstRow0 f => packVM 0x59 2 f
  | .vstCol0 f => packVM 0x59 3 f
  | .vstN8 f => packVM 0x59 4 f
  | .vstN16 f => packVM 0x59 5 f
  | .vstN8s f => packVM 0x59 6 f
  | .vstN16s f => packVM 0x59 7 f
  | .kli f => packL 0x60 0 f
  | .kliw f => packL 0x60 1 f
  | .kmvx f => packL 0x60 2 f
  | .kclr f => packL 0x60 3 f
  | .rsubmit f => packSY 0x61 0 f
  | .rpark f => packSY 0x61 1 f
  | .rresume f => packSY 0x61 2 f
  | .rcancel f => packSY 0x61 3 f
  | .rfree f => packSY 0x61 4 f
  | .remit f => packSY 0x61 5 f
  | .rflt f => packSY 0x61 6 f
  | .rrec f => packSY 0x61 7 f
  | .tnext f => packSY 0x62 0 f
  | .tcfg f => packSY 0x62 1 f
  | .tarm f => packSY 0x62 2 f
  | .tstamp f => packSY 0x62 3 f
  | .launch f => packSY 0x63 0 f
  | .plane f => packSY 0x63 1 f
  | .swapt f => packSY 0x63 2 f
  | .preempt f => packSY 0x63 3 f
  | .resumePartition f => packSY 0x63 4 f
  | .resumeQueue f => packSY 0x63 4 f
  | .commit f => packSY 0x63 5 f
  | .trap f => packSY 0x64 0 f
  | .rtt f => packSY 0x64 1 f
  | .brk f => packSY 0x64 2 f
  | .mfsr f => packSY 0x64 3 f
  | .mtsr f => packSY 0x64 4 f
  | .qres f => packSY 0x64 5 f
  | .qmpc f => packSY 0x64 6 f
  | .rdfr f => packSY 0x64 7 f
  | .alatch _ _ => 0
  | .aswap _ _ => 0
  | .amac _ _ => 0
  | .adist _ _ => 0
  | .azero _ _ => 0
  | .achain _ => 0
  | .abypass _ => 0
  | .vapply _ => 0
  | .edrain _ => 0
  | .eexp _ => 0
  | .esmaxPass _ => 0
  | .esmaxMerge _ => 0
  | .esmaxFinish _ => 0
  | .esmaxReset _ => 0
  | .etopk _ => 0
  | .efold _ => 0
  | .eturn _ => 0
  | .escale _ => 0
  | .cpy _ _ => 0
  | .kvappend _ => 0
  | .kvpos _ => 0
  | .kvevictWindow _ => 0
  | .kvevictMask _ => 0
  | .kvpin _ => 0
  | .kvfreeList _ => 0
  | .kvfreePage _ => 0
  | .kvpromotePromotion _ => 0
  | .kvpromoteDemotion _ => 0
  | .fxsend _ => 0
  | .fxmcast _ => 0
  | .fxred _ => 0
  | .fxwin _ => 0
  | .landingArrival _ _ => 0
  | .latchFillComplete _ _ _ => 0
  | .latchSwap _ _ => 0
  | .mitigationWindow _ => 0
  | .mitigationWindowEnd _ => 0
  | .loadDataReturn _ _ _ => 0
  | .storePerform _ _ => 0
  | .l1Eviction _ _ => 0
  | .translationRetry _ => 0
  | .translationParkTimeout _ => 0
  | .ringWaitWake _ _ => 0
  | .waitTimeReached _ => 0
  | .waitClkExpiry _ => 0
  | .joinComplete _ _ => 0
  | .barrierWake _ _ => 0
  | .monitorWake _ => 0
  | .mwaittTimeout _ => 0
  | .pushEntryFreed _ _ => 0
  | .watchdogExpiry _ _ => 0
  | .issueSelect _ => 0
  | .engineFaultDelivery _ _ => 0
  | .tick _ => 0
  | .stepOpen _ => 0
  | .holdGraceExpiry _ => 0
  | .stepCommit _ => 0
  | .porchRunStart _ => 0
  | .porchBudgetExpiry _ => 0
  | .hostQueuePublish _ _ => 0
  | .qctlRestart _ => 0
  | .planeSwap _ => 0
  | .operatorRetire _ => 0
  | .preemptDrainComplete _ => 0
  | .preemptT1Expiry _ => 0
  | .preemptSaveComplete _ => 0
  | .preemptT2Expiry _ => 0
  | .coreFence _ => 0
  | .rePlacement _ => 0
  | .stepRerun _ => 0
  | .fatalError _ _ _ => 0
  | .packageReset => 0
  | .imageLoad _ => 0
  | .attestationRequest _ _ => 0
  | .packetRoute _ _ => 0
  | .outputGrant _ => 0
  | .write _ => 0
  | .writeAcknowledgement _ => 0
  | .readRequest _ => 0
  | .readResponse _ => 0
  | .atomicRequest _ => 0
  | .atomicResponse _ => 0
  | .reduction _ => 0
  | .chunkCombine _ _ => 0
  | .time _ => 0
  | .management _ => 0
  | .errorResponse _ => 0
  | .multicastWrite _ => 0
  | .fabricTimeout _ => 0
  | .laneFailure _ _ => 0
  | .edgeModuleFailure _ _ => 0
  | .hostLinkLaneFailure _ => 0
  | .hostAccess _ _ _ => 0
  | .fabricPortControlWrite _ _ => 0
  | .inboundWindowWrite _ _ _ _ _ => 0
  | .ptpSync _ => 0
  | .holdoverTimeout => 0
  | .pstateWrite _ => 0
  | .throttleChange _ _ _ => 0
  | .debugAttach => 0
  | .debugDetach => 0
  | .debugRelease _ _ => 0
  | .reservedEncoding _ _ => 0
  | .portComesUp _ _ _ _ => 0
  | .l2Eviction _ => 0
  | .planeCompletion _ => 0
  | .fenceDrainT1Expiry _ => 0
  | .powerStateReturn => 0
  | .corruptedFlitReplay _ => 0

/-- Whether an instruction has words (an instruction of R85), and how many: 0 for an engine command or an event. -/
def wordCount : Instr → Nat
  | .nop => 1
  | .add _ => 1
  | .sub _ => 1
  | .and _ => 1
  | .or _ => 1
  | .xor _ => 1
  | .andn _ => 1
  | .orn _ => 1
  | .xnor _ => 1
  | .sll _ => 1
  | .srl _ => 1
  | .sra _ => 1
  | .ror _ => 1
  | .mul _ => 1
  | .mulh _ => 1
  | .mulhu _ => 1
  | .mulhsu _ => 1
  | .div _ => 1
  | .divu _ => 1
  | .rem _ => 1
  | .remu _ => 1
  | .addw _ => 1
  | .subw _ => 1
  | .mulw _ => 1
  | .adds _ => 1
  | .subs _ => 1
  | .addus _ => 1
  | .subus _ => 1
  | .rol _ => 1
  | .seq _ => 1
  | .sne _ => 1
  | .slt _ => 1
  | .sltu _ => 1
  | .sge _ => 1
  | .sgeu _ => 1
  | .min _ => 1
  | .minu _ => 1
  | .max _ => 1
  | .maxu _ => 1
  | .cmovnz _ => 1
  | .cmovz _ => 1
  | .tstnz _ => 1
  | .tstz _ => 1
  | .selb _ => 1
  | .cmps _ => 1
  | .clz _ => 1
  | .ctz _ => 1
  | .popc _ => 1
  | .bswap _ => 1
  | .bext _ => 1
  | .bexts _ => 1
  | .bins _ => 1
  | .sh1add _ => 1
  | .sh2add _ => 1
  | .sh3add _ => 1
  | .sh4add _ => 1
  | .sh6add _ => 1
  | .plw _ => 1
  | .qaddr _ => 1
  | .faddr _ => 1
  | .alignup _ => 1
  | .fadd _ => 1
  | .fmul _ => 1
  | .fma _ => 1
  | .fmax _ => 1
  | .fmin _ => 1
  | .fcvtF32I64 _ => 1
  | .fcvtF32U64 _ => 1
  | .fcvtI64F32 _ => 1
  | .fcvtI32F32 _ => 1
  | .mfs _ => 1
  | .mts _ => 1
  | .addi _ => 1
  | .andi _ => 1
  | .ori _ => 1
  | .xori _ => 1
  | .slli _ => 1
  | .srli _ => 1
  | .srai _ => 1
  | .rori _ => 1
  | .widf _ => 1
  | .b _ => 1
  | .call _ => 1
  | .bloop _ => 1
  | .br _ => 1
  | .callr _ => 1
  | .ret _ => 1
  | .yield _ => 1
  | .waitRing _ => 1
  | .waitFree _ => 1
  | .waitJoin _ => 1
  | .waitStep _ => 1
  | .waitTime _ => 1
  | .waitClk _ => 1
  | .halt _ => 1
  | .ldS _ => 1
  | .stS _ => 1
  | .ldW _ => 1
  | .stW _ => 1
  | .ldG _ => 1
  | .stG _ => 1
  | .ldQ _ => 1
  | .stQ _ => 1
  | .rclaim _ => 1
  | .rcommit _ => 1
  | .rrelease _ => 1
  | .rstat _ => 1
  | .fenceShort _ => 1
  | .mark _ => 1
  | .mwaitS _ => 1
  | .mwaitG _ => 1
  | .mwaitQ _ => 1
  | .push _ => 1
  | .pushW _ => 1
  | .kins _ => 1
  | .vaddShort _ => 1
  | .vsubShort _ => 1
  | .vmulShort _ => 1
  | .vfmaShort _ => 1
  | .vmaxShort _ => 1
  | .vminShort _ => 1
  | .vexpShort _ => 1
  | .vsigmShort _ => 1
  | .viaddShort _ => 1
  | .visubShort _ => 1
  | .vimulShort _ => 1
  | .vandShort _ => 1
  | .vorShort _ => 1
  | .vxorShort _ => 1
  | .vimaxShort _ => 1
  | .viminShort _ => 1
  | .vcmpeqF32Short _ => 1
  | .vcmpltF32Short _ => 1
  | .vcmpleF32Short _ => 1
  | .vcmpeqI32Short _ => 1
  | .vcmpltI32Short _ => 1
  | .vcmpltuI32Short _ => 1
  | .pandShort _ => 1
  | .pnotShort _ => 1
  | .vmovShort _ => 1
  | .vpermbShort _ => 1
  | .vgathrShort _ => 1
  | .vredrFaddShort _ => 1
  | .vredrFmaxShort _ => 1
  | .vbcxShort _ => 1
  | .vredcFaddShort _ => 1
  | .viotaShort _ => 1
  | .bGuarded _ => 2
  | .beq _ => 2
  | .bne _ => 2
  | .blt _ => 2
  | .bge _ => 2
  | .bltu _ => 2
  | .bgeu _ => 2
  | .li _ => 2
  | .lih _ => 2
  | .addiWide _ => 2
  | .andiWide _ => 2
  | .oriWide _ => 2
  | .xoriWide _ => 2
  | .lip _ => 2
  | .lir _ => 2
  | .liw _ => 2
  | .kpl _ => 2
  | .krl _ => 2
  | .loopset _ => 2
  | .callGuarded _ => 2
  | .pcmp _ => 2
  | .mpx _ => 2
  | .mxp _ => 2
  | .selp _ => 2
  | .muli _ => 2
  | .slti _ => 2
  | .sltiu _ => 2
  | .seqi _ => 2
  | .mini _ => 2
  | .maxi _ => 2
  | .bexti _ => 2
  | .bextsi _ => 2
  | .binsi _ => 2
  | .addhi _ => 2
  | .ld _ => 2
  | .lda _ => 2
  | .st _ => 2
  | .stl _ => 2
  | .amoSwap _ => 2
  | .amoAdd _ => 2
  | .amoAnd _ => 2
  | .amoOr _ => 2
  | .amoXor _ => 2
  | .amoMin _ => 2
  | .amoMax _ => 2
  | .amoMinu _ => 2
  | .amoMaxu _ => 2
  | .amoFadd _ => 2
  | .amoFmax _ => 2
  | .amoFmin _ => 2
  | .amoIncw _ => 2
  | .amoDecw _ => 2
  | .amoAddus _ => 2
  | .amoSubus _ => 2
  | .cas _ => 2
  | .redSwap _ => 2
  | .redAdd _ => 2
  | .redAnd _ => 2
  | .redOr _ => 2
  | .redXor _ => 2
  | .redMin _ => 2
  | .redMax _ => 2
  | .redMinu _ => 2
  | .redMaxu _ => 2
  | .redFadd _ => 2
  | .redFmax _ => 2
  | .redFmin _ => 2
  | .redIncw _ => 2
  | .redDecw _ => 2
  | .redAddus _ => 2
  | .redSubus _ => 2
  | .fence _ => 2
  | .fenceAcq _ => 2
  | .fenceRel _ => 2
  | .mwaittS _ => 2
  | .mwaittG _ => 2
  | .mwaittQ _ => 2
  | .cpref _ => 2
  | .cprefw _ => 2
  | .cclean _ => 2
  | .cflush _ => 2
  | .cinv _ => 2
  | .ccleanr _ => 2
  | .cflushr _ => 2
  | .cinvr _ => 2
  | .ccleana _ => 2
  | .cflusha _ => 2
  | .rcfg _ => 2
  | .rdesc _ => 2
  | .raddr _ => 2
  | .rld _ => 2
  | .rst _ => 2
  | .rclaima _ => 2
  | .rown _ => 2
  | .rbar _ => 2
  | .vadd _ => 2
  | .vsub _ => 2
  | .vmul _ => 2
  | .vfma _ => 2
  | .vfms _ => 2
  | .vfnma _ => 2
  | .vdiv _ => 2
  | .vsqrt _ => 2
  | .vmax _ => 2
  | .vmin _ => 2
  | .vabs _ => 2
  | .vneg _ => 2
  | .vcpsgn _ => 2
  | .vrint _ => 2
  | .vldexp _ => 2
  | .vrcp _ => 2
  | .vrsqrt _ => 2
  | .vexp _ => 2
  | .vexp2 _ => 2
  | .vlog2 _ => 2
  | .vtanh _ => 2
  | .vsigm _ => 2
  | .vsilu _ => 2
  | .vgelu _ => 2
  | .vcvt _ => 2
  | .vcvtn _ => 2
  | .vcvtw _ => 2
  | .vmaxnum _ => 2
  | .vminnum _ => 2
  | .vdot2 _ => 2
  | .vsqd _ => 2
  | .vlerp _ => 2
  | .viadd _ => 2
  | .visub _ => 2
  | .vimul _ => 2
  | .vimulh _ => 2
  | .vimad _ => 2
  | .viadds _ => 2
  | .visubs _ => 2
  | .viaddus _ => 2
  | .visubus _ => 2
  | .vimin _ => 2
  | .vimax _ => 2
  | .viminu _ => 2
  | .vimaxu _ => 2
  | .viabs _ => 2
  | .vand _ => 2
  | .vor _ => 2
  | .vxor _ => 2
  | .vandn _ => 2
  | .vnot _ => 2
  | .vsll _ => 2
  | .vsrl _ => 2
  | .vsra _ => 2
  | .vslli _ => 2
  | .vsrli _ => 2
  | .vsrai _ => 2
  | .vpopc _ => 2
  | .vclz _ => 2
  | .vdot4 _ => 2
  | .vaddi _ => 2
  | .vandi _ => 2
  | .vsrar _ => 2
  | .vclamp _ => 2
  | .vcmpeq _ => 2
  | .vcmpne _ => 2
  | .vcmplt _ => 2
  | .vcmple _ => 2
  | .vcmpgt _ => 2
  | .vcmpge _ => 2
  | .vcmpltu _ => 2
  | .vcmpgeu _ => 2
  | .vcmpun _ => 2
  | .vftest _ => 2
  | .pand _ => 2
  | .por _ => 2
  | .pxor _ => 2
  | .pandn _ => 2
  | .porn _ => 2
  | .pnot _ => 2
  | .pset _ => 2
  | .pclr _ => 2
  | .plen _ => 2
  | .plenr _ => 2
  | .pfirst _ => 2
  | .pfirstr _ => 2
  | .pcnt _ => 2
  | .pcntr _ => 2
  | .vsel _ => 2
  | .vptov _ => 2
  | .vtop _ => 2
  | .pany _ => 2
  | .pall _ => 2
  | .panyr _ => 2
  | .protr _ => 2
  | .prowb _ => 2
  | .vmov _ => 2
  | .vli _ => 2
  | .vbcx _ => 2
  | .vins _ => 2
  | .vext _ => 2
  | .viota _ => 2
  | .vrotr _ => 2
  | .vrotc _ => 2
  | .vshr _ => 2
  | .vshc _ => 2
  | .vrev _ => 2
  | .vrevc _ => 2
  | .vtr16 _ => 2
  | .vbcr _ => 2
  | .vbcc _ => 2
  | .vgathr _ => 2
  | .vgathc _ => 2
  | .vpermb _ => 2
  | .vswaph _ => 2
  | .vbswap _ => 2
  | .vcompr _ => 2
  | .vexpd _ => 2
  | .vredr _ => 2
  | .vredc _ => 2
  | .vreda _ => 2
  | .vscanr _ => 2
  | .vscanc _ => 2
  | .vpscan _ => 2
  | .vpscana _ => 2
  | .vtopk _ => 2
  | .vsamp _ => 2
  | .vsumsqr _ => 2
  | .vld _ => 2
  | .vldT _ => 2
  | .vldRowb _ => 2
  | .vldColb _ => 2
  | .vldN8 _ => 2
  | .vldN16 _ => 2
  | .vldN8s _ => 2
  | .vldN16s _ => 2
  | .vst _ => 2
  | .vstT _ => 2
  | .vstRow0 _ => 2
  | .vstCol0 _ => 2
  | .vstN8 _ => 2
  | .vstN16 _ => 2
  | .vstN8s _ => 2
  | .vstN16s _ => 2
  | .kli _ => 2
  | .kliw _ => 2
  | .kmvx _ => 2
  | .kclr _ => 2
  | .rsubmit _ => 2
  | .rpark _ => 2
  | .rresume _ => 2
  | .rcancel _ => 2
  | .rfree _ => 2
  | .remit _ => 2
  | .rflt _ => 2
  | .rrec _ => 2
  | .tnext _ => 2
  | .tcfg _ => 2
  | .tarm _ => 2
  | .tstamp _ => 2
  | .launch _ => 2
  | .plane _ => 2
  | .swapt _ => 2
  | .preempt _ => 2
  | .resumePartition _ => 2
  | .resumeQueue _ => 2
  | .commit _ => 2
  | .trap _ => 2
  | .rtt _ => 2
  | .brk _ => 2
  | .mfsr _ => 2
  | .mtsr _ => 2
  | .qres _ => 2
  | .qmpc _ => 2
  | .rdfr _ => 2
  | .alatch _ _ => 0
  | .aswap _ _ => 0
  | .amac _ _ => 0
  | .adist _ _ => 0
  | .azero _ _ => 0
  | .achain _ => 0
  | .abypass _ => 0
  | .vapply _ => 0
  | .edrain _ => 0
  | .eexp _ => 0
  | .esmaxPass _ => 0
  | .esmaxMerge _ => 0
  | .esmaxFinish _ => 0
  | .esmaxReset _ => 0
  | .etopk _ => 0
  | .efold _ => 0
  | .eturn _ => 0
  | .escale _ => 0
  | .cpy _ _ => 0
  | .kvappend _ => 0
  | .kvpos _ => 0
  | .kvevictWindow _ => 0
  | .kvevictMask _ => 0
  | .kvpin _ => 0
  | .kvfreeList _ => 0
  | .kvfreePage _ => 0
  | .kvpromotePromotion _ => 0
  | .kvpromoteDemotion _ => 0
  | .fxsend _ => 0
  | .fxmcast _ => 0
  | .fxred _ => 0
  | .fxwin _ => 0
  | .landingArrival _ _ => 0
  | .latchFillComplete _ _ _ => 0
  | .latchSwap _ _ => 0
  | .mitigationWindow _ => 0
  | .mitigationWindowEnd _ => 0
  | .loadDataReturn _ _ _ => 0
  | .storePerform _ _ => 0
  | .l1Eviction _ _ => 0
  | .translationRetry _ => 0
  | .translationParkTimeout _ => 0
  | .ringWaitWake _ _ => 0
  | .waitTimeReached _ => 0
  | .waitClkExpiry _ => 0
  | .joinComplete _ _ => 0
  | .barrierWake _ _ => 0
  | .monitorWake _ => 0
  | .mwaittTimeout _ => 0
  | .pushEntryFreed _ _ => 0
  | .watchdogExpiry _ _ => 0
  | .issueSelect _ => 0
  | .engineFaultDelivery _ _ => 0
  | .tick _ => 0
  | .stepOpen _ => 0
  | .holdGraceExpiry _ => 0
  | .stepCommit _ => 0
  | .porchRunStart _ => 0
  | .porchBudgetExpiry _ => 0
  | .hostQueuePublish _ _ => 0
  | .qctlRestart _ => 0
  | .planeSwap _ => 0
  | .operatorRetire _ => 0
  | .preemptDrainComplete _ => 0
  | .preemptT1Expiry _ => 0
  | .preemptSaveComplete _ => 0
  | .preemptT2Expiry _ => 0
  | .coreFence _ => 0
  | .rePlacement _ => 0
  | .stepRerun _ => 0
  | .fatalError _ _ _ => 0
  | .packageReset => 0
  | .imageLoad _ => 0
  | .attestationRequest _ _ => 0
  | .packetRoute _ _ => 0
  | .outputGrant _ => 0
  | .write _ => 0
  | .writeAcknowledgement _ => 0
  | .readRequest _ => 0
  | .readResponse _ => 0
  | .atomicRequest _ => 0
  | .atomicResponse _ => 0
  | .reduction _ => 0
  | .chunkCombine _ _ => 0
  | .time _ => 0
  | .management _ => 0
  | .errorResponse _ => 0
  | .multicastWrite _ => 0
  | .fabricTimeout _ => 0
  | .laneFailure _ _ => 0
  | .edgeModuleFailure _ _ => 0
  | .hostLinkLaneFailure _ => 0
  | .hostAccess _ _ _ => 0
  | .fabricPortControlWrite _ _ => 0
  | .inboundWindowWrite _ _ _ _ _ => 0
  | .ptpSync _ => 0
  | .holdoverTimeout => 0
  | .pstateWrite _ => 0
  | .throttleChange _ _ _ => 0
  | .debugAttach => 0
  | .debugDetach => 0
  | .debugRelease _ _ => 0
  | .reservedEncoding _ _ => 0
  | .portComesUp _ _ _ _ => 0
  | .l2Eviction _ => 0
  | .planeCompletion _ => 0
  | .fenceDrainT1Expiry _ => 0
  | .powerStateReturn => 0
  | .corruptedFlitReplay _ => 0

/-- The first and second word of an instruction; the second is zero for a 32-bit one (R74). -/
def encode (i : Instr) : Word × Word :=
  (BitVec.ofNat 32 (encodeNat i), BitVec.ofNat 32 (encodeNat i / 2 ^ 32))

/-- The instruction the decoder reads from bits numbered as the opcode table numbers them. -/
noncomputable def decodeTableWord (_nbits w : Nat) : Option Instr :=
  match decode (BitVec.ofNat 32 w) (BitVec.ofNat 32 (w / 2 ^ 32)) with
  | .ok i => some i
  | .error _ => none

end Sys2Proof
end

