-- ==== Sys2Proof/Machine/Fetch.lean ====
section
/-! DEFINITION. What a step does next: the passing of time, the waking of parked strands, fetching and decoding (R74, R75,
R85, R86), and the choice between them. Also how an instruction is placed where the next step fetches it. -/

namespace Sys2Proof.Machine

/-! ## Time passes (R3, R23, R127, R249, R250, R372) -/

/-- The main clock is gated (R379). -/
def State.gated (s : State) : Bool := s.power.pstate == 2 || s.power.pstate == 3

/-- `n` clks of a strand parked in WAIT.CLK. -/
def Strand.tickDown (n : Nat) (t : Strand) : Strand :=
  match t.run with
  | .parked (.clk left) => { t with run := .parked (.clk (left - n)) }
  | _ => t

/-- `n` clks of a core: its issue slot is held, its clk waits run down. -/
def Core.clks (n : Nat) (k : Core) : Core :=
  let k := { k with strands := k.strands.map (fun (e : Nat × Strand) => (e.1, e.2.tickDown n)) }
  match k.holder with
  | some h =>
    let t := k.strand h.toNat
    k.setStrand h.toNat { t with wcount := t.wcount + BitVec.ofNat 33 n }
  | none => k

/-- Swap-wait counters of the row sequencers that spend `n` clks in phase 4 (R249). -/
def State.swapWaits (s : State) (n : Nat) : Cells DWord :=
  s.cores.foldl (fun (m : Cells DWord) e =>
    (upto 0 8).foldl (fun (m : Cells DWord) i =>
      if (e.2.queue i).phase = 4 then m.set 0 (8 * e.1 + i) (m.get 0 (8 * e.1 + i) + BitVec.ofNat 64 n) else m) m) s.swait

/-- `n` periods of the main clock pass (R3), and with them true time and the time base; a gated clock does not count
(R379). -/
def State.elapse (s : State) (n : Nat) : State :=
  let up := s.up + n * s.clkUnits
  let w := s.windowClks n
  let s := { w with up := up, acted := if n = 0 then s.acted else [], units := if n = 0 then s.units else [] }.passTime (up / 72 - s.up / 72)
  if s.gated then s
  else
    { s with
      clk := s.clk + n
      swait := s.swapWaits n
      cores := s.cores.map (fun e => if e.2.fenced || s.coreStopped e.1 then e else (e.1, e.2.clks n))
      porch := s.porch.map (fun e => (e.1, { e.2 with strand := e.2.strand.tickDown n })) }

/-- One clk in which the current agent issues nothing. -/
def State.idle (s : State) : State := s.elapse 1

/-! ## Fetching (R73–R75, R85, R86) -/

/-- What a fetch finds. -/
inductive Fetched where
  | instr (i : Instr)
  | fault (r : Raise)

/-- The porch may execute these words at the current place (R329). -/
def State.porchPermits (s : State) (img : Image) (w0 w1 : Word) : Bool :=
  match s.cur with
  | .strand _ _ => bits w0.toNat 25 7 != 0x63
  | .porch q =>
    let chain := match s.streamLine img q.toNat with
      | some l => s.chainFrom img img.nlines l
      | none => []
    porchMajor (bits w0.toNat 25 7) && porchForm w0 w1 && laterTarget chain s.me.line.toNat s.me.slot.toNat w0 w1

/-- The owner field of the lines an agent may execute (R73). -/
def agentOwner : Agent → Nat
  | .strand _ _ => 0
  | .porch _ => 1

/-- The fetch at the current agent's pc, in the order of R86: the line and its owner (R75), a long instruction in slot 15,
the major and minor, what the porch permits, the zero fields and reserved values. -/
noncomputable def State.fetch (s : State) : Fetched :=
  match s.imageOf s.cur with
  | none => .fault (raise 0x06 s.me.pc.toNat)
  | some img =>
    let line := s.me.line.toNat
    let slot := s.me.slot.toNat
    if img.nlines ≤ line then .fault (raise 0x06 s.me.pc.toNat)
    else if linkOwner (s.imageWord img line 0) ≠ agentOwner s.cur then .fault (raise 0x07 s.me.pc.toNat)
    else if slot = 0 then .fault (raise 0x02 s.me.pc.toNat)
    else
      let w0 := s.imageWord img line slot
      let w1 := if slot = 15 then 0 else s.imageWord img line (slot + 1)
      if isLong w0 && slot == 15 then .fault (raise 0x02)
      else if !s.porchPermits img w0 w1 then .fault (raise 0x01)
      else match decode w0 w1 with
        | .ok i => .instr i
        | .error .reserved => .instr (.reservedEncoding w0 w1)
        | .error .field => .fault (raise 0x02)

/-! ## What happens next -/

/-- What a step is to do: run an instruction on a state, be in a state, or nothing any more. -/
inductive Choice where
  | run (i : Instr) (s : State)
  | go (s : State)
  | halt

/-- The event that would end the wait of an agent, if its run state has one (R129, R165–R168, R204, R283). -/
noncomputable def State.wakeEvent (s : State) (a : Agent) : Option Instr :=
  match (s.strandOf a).run, a with
  | .parked (.ring _ _ _), .strand c k => some (.ringWaitWake c k)
  | .parked (.free _ _ _), .strand c k => some (.ringWaitWake c k)
  | .parked (.join _), .strand c k => some (.joinComplete c k)
  | .parked (.barrier _ _ _), .strand c k => some (.barrierWake c k)
  | .parked (.push _ _ _), .strand c k => some (.pushEntryFreed c k)
  | .parked (.time _), _ => some (.waitTimeReached a)
  | .parked (.clk _), _ => some (.waitClkExpiry a)
  | .parked (.monitor m), _ => some (if m.deadline.isSome then .mwaittTimeout a else .monitorWake a)
  | .parked (.ingest _ d _ _), _ => some (if d ≤ s.tai then .translationParkTimeout a else .translationRetry a)
  | .parked (.translation _ _ d), _ => some (if d ≤ s.tai then .translationParkTimeout a else .translationRetry a)
  | .memory need, .strand c k => (need.find? (fun r => (s.strandOf a).inflight.contains r &&
      !(s.strandOf a).far.any (fun f => f.dest == r))).map (fun r => .loadDataReturn c k r)
  | _, _ => none

/-- The place of an event among those of its core that reach the ring unit in one clk (R28): the strand of a ring wait, or the engine
queue that runs. -/
def ringPlace : Instr → Option (Nat × Nat)
  | .ringWaitWake c k => some (c.toNat, k.toNat)
  | .alatch c q | .aswap c q | .amac c q | .adist c q | .azero c q | .latchSwap c q | .cpy c q => some (c.toNat, 8 + q.toNat)
  | .achain c | .abypass c => some (c.toNat, 8)
  | .vapply c => some (c.toNat, 16)
  | .edrain c | .eexp c | .esmaxPass c | .esmaxMerge c | .esmaxFinish c | .esmaxReset c | .etopk c | .efold c | .eturn c
  | .escale c => some (c.toNat, 17)
  | .kvappend c | .kvpos c | .kvevictWindow c | .kvevictMask c | .kvpin c | .kvfreeList c | .kvfreePage c
  | .kvpromotePromotion c | .kvpromoteDemotion c => some (c.toNat, 20)
  | .fxsend c | .fxmcast c | .fxred c | .fxwin c => some (c.toNat, 21)
  | _ => none

/-- Another of core c with a later place has run in the clk that has begun. -/
def State.outOfTurn (s : State) (c place : Nat) : Bool := s.units.any (fun u => u.1 == c && decide (place < u.2))

/-- Who has this place runs: in the clk that has begun, or in a new one when another of its core with a later place has run in that
(R28). -/
def State.inTurn (s : State) (place : Option (Nat × Nat)) : State :=
  match place with
  | none => s
  | some u =>
    let s := if s.outOfTurn u.1 u.2 then s.elapse 1 else s
    { s with units := u :: s.units }

/-- The issue of an instruction begins: `n` clks pass, 1, or 0 where another agent has begun the clk; the holder of the issue
slot counts them (R23), a porch run's budget the instruction (R332). -/
def State.beginIssue (s : State) (n : Nat) : State :=
  let s := s.elapse n
  let s := { s with acted := s.cur :: s.acted }
  match s.cur with
  | .strand c k => { s with units := (c.toNat, k.toNat) :: s.units }
  | .porch q => s.setPorchQueue q.toNat { s.porchQueue q.toNat with issued := (s.porchQueue q.toNat).issued + 1 }

/-- The current agent fetches and runs its next instruction. Where the instruction at the pc has been executed and its chain ends
there, the fault of that is due (R75). -/
noncomputable def State.issue (s : State) (n : Nat) : Choice :=
  if s.me.pass.ended = some s.me.pc then .go (s.beginIssue n).notIssued.passed.endChain
  else match s.fetch with
  | .instr i => .run i (s.beginIssue n)
  | .fault r => .go ((s.beginIssue n).failIssue r)

/-- The watchdog of the current strand has run out (R132). -/
def State.watchdogDue (s : State) : Bool := decide (2 ^ s.me.wlim.toNat ≤ s.me.wcount.toNat)

/-- The turn of an agent whose cores' clock runs, `n` clks long. Its loads that can be performed are first (R134, R143). -/
noncomputable def State.turn (s : State) (n : Nat) : Choice :=
  let s := if s.fencedOff s.cur then s else s.settleLoads
  match s.cur with
  | .strand c k =>
    let co := s.core c.toNat
    if co.fenced || s.coreStopped c.toNat then .go (s.elapse n)
    else if s.me.run = .ready then
      match co.holder with
      | none => .run (.issueSelect c) s
      | some h =>
        if h ≠ k then .go { s with cur := .strand c h }
        else if s.watchdogDue then (if s.me.far.isEmpty then .run (.watchdogExpiry c k) s else .go (s.elapse n))
        else if co.dbg && s.me.breaks then .go s.debugHalt
        else s.issue n
    else match s.wakeEvent s.cur with
      | some i => .run i ((s.elapse n).inTurn (ringPlace i))
      | none => match co.holder with
        | some h => if h ≠ k then .go { s with cur := .strand c h } else .go (s.elapse n)
        | none => if co.select.isSome then .run (.issueSelect c) s else .go (s.elapse n)
  | .porch q =>
    let p := s.porchQueue q.toNat
    if !p.running then .run (.porchRunStart q) (s.elapse n)
    else if p.strand.run = .ready then (if s.overBudget q.toNat then .run (.porchBudgetExpiry q) s else s.issue n)
    else match s.wakeEvent s.cur with
      | some i => .run i (s.elapse n)
      | none => .go (s.elapse n)

/-- Two agents that share an issue slot. -/
def sameUnit : Agent → Agent → Bool
  | .strand c _, .strand d _ => c == d
  | .porch p, .porch q => p == q
  | _, _ => false

/-- A strand that would come too late in the clk that has begun: an engine queue of its core, or a strand with a greater number, has
run in it (R28). -/
def State.tooLate (s : State) : Agent → Bool
  | .strand c k => s.outOfTurn c.toNat k.toNat
  | .porch _ => false

/-- An agent acts in the clk that has begun, unless one that shares its issue slot has acted in it. -/
noncomputable def State.actAlso (s : State) (a : Agent) : Choice :=
  if s.gated || s.acted.any (sameUnit a) || s.tooLate a then .go s else { s with cur := a }.turn 0

/-- Events that the main clock makes: what strands, engines, porch runs, steps, planes and ladders do (R379; DESIGN CHOICE,
log 90). -/
def clocked : Instr → Bool
  | .landingArrival _ _ | .latchFillComplete _ _ _ | .loadDataReturn _ _ _ | .storePerform _ _ | .l1Eviction _ _ | .l2Eviction _
  | .translationRetry _ | .translationParkTimeout _ | .ringWaitWake _ _ | .waitTimeReached _ | .waitClkExpiry _ | .joinComplete _ _
  | .barrierWake _ _ | .monitorWake _ | .mwaittTimeout _ | .pushEntryFreed _ _ | .watchdogExpiry _ _ | .issueSelect _
  | .engineFaultDelivery _ _ | .stepOpen _ | .holdGraceExpiry _ | .stepCommit _ | .stepRerun _ | .porchRunStart _
  | .porchBudgetExpiry _ | .qctlRestart _ | .planeSwap _ | .planeCompletion _ | .operatorRetire _ | .preemptDrainComplete _
  | .preemptT1Expiry _ | .preemptSaveComplete _ | .preemptT2Expiry _ | .fenceDrainT1Expiry _ | .rePlacement _
  | .chunkCombine _ _ => true
  | i => (ringPlace i).isSome

/-- Events that a gated package does not have (R379): those of the main clock, and in P3 what the host does to memory, its link
being for management only (log 90). -/
def State.asleep (s : State) (i : Instr) : Bool :=
  (s.gated && clocked i) || (s.power.pstate == 3 && match i with
    | .hostAccess _ _ _ | .hostQueuePublish _ _ => true
    | _ => false)

/-- The next agendum. An instruction that a strand would fetch is no event. -/
noncomputable def State.nextAgendum (s : State) : Agendum → Choice
  | .clocks n => .go (s.elapse n)
  | .input x => .go (s.input x)
  | .turn a => .go { s with cur := a }
  | .also a => s.actAlso a
  | .event (.reservedEncoding _ _) => .go s
  | .event i => if wordCount i = 0 && !s.asleep i then .run i (s.inTurn (ringPlace i)) else .go s

/-- What a package that boot or a fatal error has stopped still takes (R349, R371, R376): a reset, and what comes by the Mynto
Link, which stays up; after a boot that failed, the link is for management only (log 58). -/
def State.linkTakes (s : State) : Agendum → Bool
  | .event .packageReset | .event (.attestationRequest _ _) | .event .debugAttach | .event .debugDetach
  | .event (.debugRelease _ _) | .event (.hostLinkLaneFailure _) | .input .hostReplay | .input (.debugRead _ _ _ _)
  | .input (.debugWrite _ _ _ _ _) | .input (.debugCore _ _ _ _) => true
  | .event (.hostAccess _ _ _) | .input (.hostRetry _) => s.booted
  | _ => false

/-- What happens next (log 1). -/
noncomputable def State.choose (s : State) : Choice :=
  match s.agenda with
  | a :: rest =>
    let t := { s with agenda := rest }
    if (s.stopped || !s.booted) && !s.linkTakes a then .go t else t.nextAgendum a
  | [] => if s.stopped || !s.booted then .halt else if s.gated then .go s.idle else s.turn 1

/-! ## Placing an instruction (log 5) -/

/-- A plane for an image and nothing else. -/
def Plane.bare (image : Word) (asid : BitVec 12) : Plane where
  mask := 1
  entries := []
  widths := [0, 0, 0, 0, 0, 0]
  roles := []
  widt := 0
  args := []
  presets := []
  wid5 := 0
  group := none
  sbase := 0
  sstride := 0
  part := 0
  asid := asid
  image := image
  record := 0
  rerun := false
  launch := false
  start := []
  fromNorth := 0
  bypass := 0

/-- Where the placed line lies: physical bytes 0x80_0000 + 64 on. -/
def placeBase : Nat := 0x800000

/-- The image of the placed line: line 1, which names itself as the next. -/
def placedImage : Image where
  ident := 1
  base := placeBase
  nlines := 2
  dirLine := 0
  dirCount := 0
  placed := false
  placeId := 0
  dataBase := 0

/-- The link word of the placed line: next 1, bstart (R73). -/
def placedLink : Nat := 1 + 2 ^ 26

/-- Strand 0 of core 0 about to issue slot 1 of line 1, where the words of `w` lie, with the operator that this takes. -/
def State.place (s : State) (w : Nat) : State :=
  let t := { Strand.reset with run := .ready, line := 1, slot := 1 }
  let k := { s.core 0 with
    strands := [(0, t)], holder := some 0, fenced := false
    active := some (Plane.bare 1 (s.part 0).asid) }
  let s := { s with
    cur := .strand 0 0, agenda := [], stopped := false, booted := true
    images := placedImage :: s.images.filter (fun i => i.ident != 1)
    power := { s.power with pstate := 0 } }
  let s := s.setCore 0 k
  let s := s.setPart 0 { s.part 0 with ladder := .none }
  s.setPhys (placeBase + 64) 12 (placedLink + 2 ^ 32 * (w % 2 ^ 64)) (allBytes 12)

end Sys2Proof.Machine
end

