-- ==== Sys2Proof/Machine/Step.lean ====
section
/-! DEFINITION. One step of the package: what `State.choose` finds, run. -/

namespace Sys2Proof.Machine

/-- One step: the next agendum, or the current agent's next instruction (log 1). -/
noncomputable def step (s : State) : Host.Outcome State Fault Refusal :=
  match s.choose with
  | .run i t => exec i t
  | .go t => .next t
  | .halt => .fault .packageStopped

/-- The state with the low `nbits` bits of `w` as the instruction that the next step fetches (log 5). -/
def State.withFetchWord (s : State) (nbits w : Nat) : State := s.place (w % 2 ^ nbits)

end Sys2Proof.Machine
end

