-- ==== Sys2Proof/Safety.lean ====
section
/-! DEFINITION. Safe runs, in the terms the statements use: every outcome of a step, the canonical form of the package's
tables, and what an instruction leaves alone. -/

namespace Sys2Proof.Machine

/-- The step goes on. -/
def Completes (o : Out) : Prop := ∃ t, o = .next t

/-- Memory's canonical form: byte tables with rising addresses and no listed byte 0. -/
def Memory.wf (m : Cells Byte) : Bool := Cells.wf 0 m

/-- The package's memories are in canonical form: placed, pooled, host and record bytes. -/
def State.memoryWf (s : State) : Bool := Memory.wf s.placed && Memory.wf s.pooled && Memory.wf s.host && Memory.wf s.records

/-- A run of `n` steps that never stops ends in `t`. -/
def Reaches : Nat → State → State → Prop
  | 0, s, t => s = t
  | n + 1, s, t => ∃ u, step s = .next u ∧ Reaches n u t

/-! ## Bytes of memory -/

/-- A byte of memory by the place it lies in: a core's scratchpad, placed memory, pooled memory by physical address, host
memory, the record store. -/
inductive MemByte where
  | scratch (core addr : Nat)
  | placed (addr : Nat)
  | pooled (addr : Nat)
  | host (addr : Nat)
  | record (addr : Nat)
  deriving DecidableEq, Repr

/-- The byte there; of pooled memory the coherent one, from L2 when a line is held there (R273, R274). -/
def State.peek (s : State) : MemByte → Byte
  | .scratch c a => (s.core c).scratch.get 0 a
  | .placed a => s.placed.get 0 a
  | .pooled a => s.physByte a
  | .host a => s.host.get 0 a
  | .record a => s.records.get 0 a

/-- The bytes of memory an access of `n` bytes from `addr` of a space reaches for agent `a`; .G by physical address. -/
def MemByte.within (a : Agent) (space addr n : Nat) : MemByte → Bool
  | .scratch c b => space == 0 && c == (coreOf a).getD 0 && decide (addr ≤ b) && decide (b < addr + n)
  | .placed b => space == 1 && decide (addr ≤ b) && decide (b < addr + n)
  | .pooled b => space == 2 && decide (addr ≤ b) && decide (b < addr + n)
  | .host b => space == 3 && decide (addr ≤ b) && decide (b < addr + n)
  | .record b => space == 5 && decide (addr ≤ b) && decide (b < addr + n)

/-- Every byte of every memory reads as before. -/
def SameBytes (s t : State) : Prop := ∀ b, t.peek b = s.peek b

/-! ## What an instruction leaves alone -/

/-- Nothing but the context of the current agent differs: no other strand, register of a core, ring, queue, latch, cache,
record or byte of memory. -/
def OnlyMe (s t : State) : Prop := t = s.setMe t.me ∧ SameBytes s t

/-- Nothing but core `c` differs. -/
def OnlyCore (s t : State) (c : Nat) : Prop := t = s.setCore c (t.core c)

/-- Of a context, only general registers, flags and the pc differ, and a breakpoint at which the debugger released the strand
has been passed (R243): predicates, command registers, loop counters, bases, store queue, markers, trap registers and the
watchdog count, to which the clks are added as they pass (R23), are as before. -/
def OnlyRegs (m n : Strand) : Prop :=
  n = { m with x := n.x, fstat := n.fstat, line := n.line, slot := n.slot, pass := Passing.none }

/-- The precise fault of an instruction that is issued: the exception is taken, once every load of the fabric before it has
completed (R145); until then the instruction issues again. -/
def State.faulted (s : State) (x : Raise) : State := if s.me.far = [] then s.takeFault x else s.notIssued

/-- Sequential flow of an instruction of `len` words (R75). -/
def Sequel (s t : State) (len : Nat) : Prop := s.successor len = some (t.me.line, t.me.slot)

/-- Control has gone to a target. -/
def WentTo (t : State) (line : Line) (slot : Slot) : Prop := t.me.line = line ∧ t.me.slot = slot

/-- x[d] := v, ignored for x0; every other register as before (R12). -/
def Wrote (s t : State) (d : BitVec 5) (v : DWord) : Prop := ∀ r, t.rx r = if r = d ∧ r ≠ 0 then v else s.rx r

/-- No general register differs. -/
def SameX (s t : State) : Prop := ∀ r, t.rx r = s.rx r

/-- An instruction of `len` words is done: x[d] := v, the flags `f` raised, sequential flow, nothing else. -/
def ScalarDone (s t : State) (len : Nat) (d : BitVec 5) (v : DWord) (f : Flags) : Prop :=
  OnlyMe s t ∧ OnlyRegs s.me t.me ∧ Sequel s t len ∧ Wrote s t d v ∧ t.me.fstat = s.me.fstat ||| f

/-- The instruction may execute: its guard bit is 1 and no register it names awaits a load (R143). -/
def Ready (s : State) (guard : Bool) (uses : List (BitVec 5)) : Prop := guard = true ∧ ∀ r ∈ uses, r ∉ s.me.inflight

/-- Only the pc differs: control has gone to a target. -/
def Jumped (s t : State) (line : Line) (slot : Slot) : Prop :=
  OnlyMe s t ∧ OnlyRegs s.me t.me ∧ WentTo t line slot ∧ SameX s t ∧ t.me.fstat = s.me.fstat

/-- Only the pc differs: sequential flow. -/
def Passed (s t : State) (len : Nat) : Prop :=
  OnlyMe s t ∧ OnlyRegs s.me t.me ∧ Sequel s t len ∧ SameX s t ∧ t.me.fstat = s.me.fstat

/-- A waiting instruction of the current agent is over (R77, R128): the context is `m` but ready at slot 1 of the next line
with this watchdog count, without the issue slot; nothing else differs. -/
def WaitOver (s t : State) (m : Strand) (count : BitVec 33) : Prop :=
  ∃ l, s.nextLine = some l ∧ SameBytes s t ∧ t = (s.setMe t.me).giveSlot ∧
    t.me = { m with run := .ready, line := l, slot := 1, wcount := count, pass := Passing.none }

/-- The current agent has parked at its instruction (R128, R130): the pc stays, the issue slot is given up. -/
def WaitParked (s t : State) (w : WaitFor) : Prop :=
  SameBytes s t ∧ t = (s.setMe t.me).giveSlot ∧ t.me = { s.me with run := .parked w }

/-- A waiting instruction may begin: its guard bit is 1, its registers have arrived, no store is queued, and the line after
it exists and begins a block (R77, R128). -/
def WaitReady (s : State) (guard : Bool) (uses : List (BitVec 5)) : Prop :=
  Ready s guard uses ∧ s.me.storeq = [] ∧ s.nextLine.isSome = true ∧ s.blockEnd = none

/-- The instruction executes: its guard bit is 1, no register it names awaits a load (R143), and the chain goes on after
it (R75). -/
def Issues (s : State) (len : Nat) (guard : Bool) (uses : List (BitVec 5)) : Prop :=
  guard = true ∧ (∀ r ∈ uses, r ∉ s.me.inflight) ∧ (s.successor len).isSome = true

end Sys2Proof.Machine
end

