-- ==== Sys2Proof/Certificates/Slice0/Obligations.lean ====
section
/-! DEFINITION. The statements for the provers: what each instruction of the table does, what it leaves alone, which faults
it takes, and what a step, a reset and the decoder do. -/

open Sys2Proof Sys2Proof.Machine

noncomputable section

namespace Sys2Proof.Machine

/-! ## Values of the scalar forms, as the tables of spec/04_scalar_and_control.md give them -/

/-- 1 for true, 0 for false (R110). -/
def bool01 (b : Bool) : DWord := if b then 1 else 0

/-- sat(v, −2^63, 2^63 − 1) and sat(v, 0, 2^64 − 1) (R51, R108). -/
def satSigned (v : Int) : DWord := BitVec.ofInt 64 (max (-2 ^ 63) (min v (2 ^ 63 - 1)))
def satUnsigned (v : Int) : DWord := BitVec.ofInt 64 (max 0 (min v (2 ^ 64 - 1)))

/-- Major 0x02 but for division (R108): the value of a form on x[a] and x[b]. -/
def integerForms : List ((FA → Instr) × (DWord → DWord → DWord)) :=
  [(.add, fun a b => a + b),
   (.sub, fun a b => a - b),
   (.and, fun a b => a &&& b),
   (.or, fun a b => a ||| b),
   (.xor, fun a b => a ^^^ b),
   (.andn, fun a b => a &&& ~~~b),
   (.orn, fun a b => a ||| ~~~b),
   (.xnor, fun a b => ~~~(a ^^^ b)),
   (.sll, fun a b => a <<< (b.toNat % 64)),
   (.srl, fun a b => a >>> (b.toNat % 64)),
   (.sra, fun a b => BitVec.ofInt 64 (a.toInt / 2 ^ (b.toNat % 64))),
   (.ror, fun a b => a.rotateRight (b.toNat % 64)),
   (.rol, fun a b => a.rotateLeft (b.toNat % 64)),
   (.mul, fun a b => BitVec.ofInt 64 (a.toInt * b.toInt)),
   (.mulh, fun a b => BitVec.ofInt 64 (a.toInt * b.toInt / 2 ^ 64)),
   (.mulhu, fun a b => BitVec.ofNat 64 (a.toNat * b.toNat / 2 ^ 64)),
   (.mulhsu, fun a b => BitVec.ofInt 64 (a.toInt * b.toNat / 2 ^ 64)),
   (.addw, fun a b => (BitVec.ofNat 32 (a.toNat + b.toNat)).signExtend 64),
   (.subw, fun a b => (BitVec.ofInt 32 (a.toInt - b.toInt)).signExtend 64),
   (.mulw, fun a b => (BitVec.ofNat 32 (a.toNat * b.toNat)).signExtend 64),
   (.adds, fun a b => satSigned (a.toInt + b.toInt)),
   (.subs, fun a b => satSigned (a.toInt - b.toInt)),
   (.addus, fun a b => satUnsigned (a.toNat + b.toNat)),
   (.subus, fun a b => satUnsigned (a.toNat - b.toNat))]

/-- div, divu, rem and remu of R109. -/
def divisionForms : List ((FA → Instr) × (DWord → DWord → DWord)) :=
  [(.div, fun a b =>
      if b = 0 then BitVec.ofNat 64 (2 ^ 64 - 1)
      else if a.toInt = -2 ^ 63 ∧ b.toInt = -1 then a
      else BitVec.ofInt 64 (a.toInt.tdiv b.toInt)),
   (.divu, fun a b => if b = 0 then BitVec.ofNat 64 (2 ^ 64 - 1) else BitVec.ofNat 64 (a.toNat / b.toNat)),
   (.rem, fun a b =>
      if b = 0 then a
      else if a.toInt = -2 ^ 63 ∧ b.toInt = -1 then 0
      else BitVec.ofInt 64 (a.toInt - b.toInt * a.toInt.tdiv b.toInt)),
   (.remu, fun a b => if b = 0 then a else BitVec.ofNat 64 (a.toNat - b.toNat * (a.toNat / b.toNat)))]

/-- Major 0x03 (R110): the value on x[d], x[a] and x[b]. -/
def compareForms : List ((FA → Instr) × (DWord → DWord → DWord → DWord)) :=
  [(.seq, fun _ a b => bool01 (decide (a = b))),
   (.sne, fun _ a b => bool01 (decide (a ≠ b))),
   (.slt, fun _ a b => bool01 (decide (a.toInt < b.toInt))),
   (.sltu, fun _ a b => bool01 (decide (a.toNat < b.toNat))),
   (.sge, fun _ a b => bool01 (decide (b.toInt ≤ a.toInt))),
   (.sgeu, fun _ a b => bool01 (decide (b.toNat ≤ a.toNat))),
   (.min, fun _ a b => BitVec.ofInt 64 (min a.toInt b.toInt)),
   (.minu, fun _ a b => BitVec.ofNat 64 (min a.toNat b.toNat)),
   (.max, fun _ a b => BitVec.ofInt 64 (max a.toInt b.toInt)),
   (.maxu, fun _ a b => BitVec.ofNat 64 (max a.toNat b.toNat)),
   (.cmovnz, fun d a b => if b ≠ 0 then a else d),
   (.cmovz, fun d a b => if b = 0 then a else d),
   (.tstnz, fun _ a b => bool01 (decide (a &&& b ≠ 0))),
   (.tstz, fun _ a b => bool01 (decide (a &&& b = 0))),
   (.selb, fun d a b => (d &&& a) ||| (~~~d &&& b)),
   (.cmps, fun _ a b => if a.toInt < b.toInt then BitVec.ofInt 64 (-1) else if a.toInt = b.toInt then 0 else 1)]

/-- The bits [pos + wd − 1 : pos] that lie below 64, as a mask (R111). -/
def fieldMask (pos wd : Nat) : DWord := BitVec.ofNat 64 ((2 ^ wd - 1) * 2 ^ pos)
/-- zext(u(v) >> pos, wd) and sext(u(v) >> pos, wd) (R111). -/
def zextField (v : DWord) (pos wd : Nat) : DWord := BitVec.ofNat 64 (v.toNat / 2 ^ pos % 2 ^ wd)
def sextField (v : DWord) (pos wd : Nat) : DWord := (BitVec.ofNat wd (v.toNat / 2 ^ pos)).signExtend 64
/-- `old` with bits [pos + wd − 1 : pos] replaced by the low bits of v (R111). -/
def insertField (old v : DWord) (pos wd : Nat) : DWord := (old &&& ~~~fieldMask pos wd) ||| (v <<< pos &&& fieldMask pos wd)
/-- pos and wd of a register field descriptor (R111). -/
def descPos (b : DWord) : Nat := b.toNat % 64
def descWidth (b : DWord) : Nat := b.toNat / 2 ^ 8 % 64 + 1

/-- Major 0x04 (R111). -/
def bitForms : List ((FA → Instr) × (DWord → DWord → DWord → DWord)) :=
  [(.clz, fun _ a _ => a.clz),
   (.ctz, fun _ a _ => a.ctz),
   (.popc, fun _ a _ => a.cpop),
   (.bswap, fun _ a _ =>
      a.extractLsb' 0 8 ++ a.extractLsb' 8 8 ++ a.extractLsb' 16 8 ++ a.extractLsb' 24 8 ++
        a.extractLsb' 32 8 ++ a.extractLsb' 40 8 ++ a.extractLsb' 48 8 ++ a.extractLsb' 56 8),
   (.bext, fun _ a b => zextField a (descPos b) (descWidth b)),
   (.bexts, fun _ a b => sextField a (descPos b) (descWidth b)),
   (.bins, fun d a b => insertField d a (descPos b) (descWidth b)),
   (.sh1add, fun _ a b => (a <<< 1) + b),
   (.sh2add, fun _ a b => (a <<< 2) + b),
   (.sh3add, fun _ a b => (a <<< 3) + b),
   (.sh4add, fun _ a b => (a <<< 4) + b),
   (.sh6add, fun _ a b => (a <<< 6) + b),
   (.plw, fun _ a b => (a.setWidth 13).setWidth 64 <<< 27 ||| (b.setWidth 27).setWidth 64),
   (.qaddr, fun _ a b => (a.setWidth 12).setWidth 64 <<< 8 ||| (b.setWidth 8).setWidth 64),
   (.faddr, fun _ a b => (a.setWidth 12).setWidth 64 <<< 40 ||| (b.setWidth 40).setWidth 64),
   (.alignup, fun _ a b =>
      (a + BitVec.ofNat 64 (2 ^ (b.toNat % 64) - 1)) &&& ~~~BitVec.ofNat 64 (2 ^ (b.toNat % 64) - 1))]

/-- Majors 0x08 to 0x0B (R113). -/
def shortImmediates : List ((FI → Instr) × (DWord → DWord → DWord)) :=
  [(.addi, fun a i => a + i), (.andi, fun a i => a &&& i), (.ori, fun a i => a ||| i), (.xori, fun a i => a ^^^ i)]

/-- Major 0x0C (R114): the value on x[a] and the amount. -/
def shiftImmediates : List ((FShift → Instr) × (DWord → Nat → DWord)) :=
  [(.slli, fun a n => a <<< n), (.srli, fun a n => a >>> n), (.srai, fun a n => BitVec.ofInt 64 (a.toInt / 2 ^ n)),
   (.rori, fun a n => a.rotateRight n)]

/-- Major 0x41 (R113): the value on x[a] and imm32. -/
def longImmediates : List ((FL → Instr) × (DWord → BitVec 32 → DWord)) :=
  [(.li, fun _ i => i.signExtend 64),
   (.lih, fun a i => i.setWidth 64 <<< 32 ||| (a.setWidth 32).setWidth 64),
   (.addiWide, fun a i => a + i.signExtend 64),
   (.andiWide, fun a i => a &&& i.signExtend 64),
   (.oriWide, fun a i => a ||| i.signExtend 64),
   (.xoriWide, fun a i => a ^^^ i.signExtend 64)]

/-- Major 0x43, fn 6 to 15 (R115): the value on x[d], x[a] and imm24. -/
def systemImmediates : List ((FSY → Instr) × (DWord → DWord → BitVec 24 → DWord)) :=
  [(.muli, fun _ a i => BitVec.ofInt 64 (a.toInt * i.toInt)),
   (.slti, fun _ a i => bool01 (decide (a.toInt < i.toInt))),
   (.sltiu, fun _ a i => bool01 (decide (a.toNat < (i.signExtend 64).toNat))),
   (.seqi, fun _ a i => bool01 (decide (a = i.signExtend 64))),
   (.mini, fun _ a i => BitVec.ofInt 64 (min a.toInt i.toInt)),
   (.maxi, fun _ a i => BitVec.ofInt 64 (max a.toInt i.toInt)),
   (.bexti, fun _ a i => zextField a (i.toNat % 64) (i.toNat / 64 % 64 + 1)),
   (.bextsi, fun _ a i => sextField a (i.toNat % 64) (i.toNat / 64 % 64 + 1)),
   (.binsi, fun d a i => insertField d a (i.toNat % 64) (i.toNat / 64 % 64 + 1)),
   (.addhi, fun _ a i => a + i.signExtend 64 <<< 24)]

end Sys2Proof.Machine

/-- R108: every two-source integer form of major 0x02, with the table's value in x[d] and nothing else changed. -/
def Obligations.IntegerForms : Prop :=
  ∀ e ∈ integerForms, ∀ (f : FA) (s : State), Issues s 1 (s.guard4 f.g) [f.d, f.a, f.b] →
    ∃ t, exec (e.1 f) s = .next t ∧ ScalarDone s t 1 f.d (e.2 (s.rx f.a) (s.rx f.b)) 0

/-- R109: division never traps, by zero and on overflow too, and its results are those of the rule. -/
def Obligations.Division : Prop :=
  ∀ e ∈ divisionForms, ∀ (f : FA) (s : State), Issues s 1 (s.guard4 f.g) [f.d, f.a, f.b] →
    ∃ t, exec (e.1 f) s = .next t ∧ ScalarDone s t 1 f.d (e.2 (s.rx f.a) (s.rx f.b)) 0

/-- R110: the compare, select, minimum and maximum forms; a conditional move reads x[d]. R111, R112: bit counts, bit fields
and address forming. -/
def Obligations.CompareAndBitForms : Prop :=
  (∀ e ∈ compareForms, ∀ (f : FA) (s : State), Issues s 1 (s.guard4 f.g) [f.d, f.a, f.b] →
     ∃ t, exec (e.1 f) s = .next t ∧ ScalarDone s t 1 f.d (e.2 (s.rx f.d) (s.rx f.a) (s.rx f.b)) 0) ∧
  (∀ e ∈ bitForms, ∀ (f : FA) (s : State), Issues s 1 (s.guard4 f.g) [f.d, f.a, f.b] →
     ∃ t, exec (e.1 f) s = .next t ∧ ScalarDone s t 1 f.d (e.2 (s.rx f.d) (s.rx f.a) (s.rx f.b)) 0)

/-- R113–R116: every immediate form and WIDF. -/
def Obligations.ImmediateForms : Prop :=
  (∀ e ∈ shortImmediates, ∀ (f : FI) (s : State), Issues s 1 (s.guard4 f.g) [f.d, f.a] →
    ∃ t, exec (e.1 f) s = .next t ∧ ScalarDone s t 1 f.d (e.2 (s.rx f.a) (f.imm.signExtend 64)) 0) ∧
  (∀ e ∈ shiftImmediates, ∀ (f : FShift) (s : State), Issues s 1 (s.guard4 f.g) [f.d, f.a] →
    ∃ t, exec (e.1 f) s = .next t ∧ ScalarDone s t 1 f.d (e.2 (s.rx f.a) f.amt.toNat) 0) ∧
  (∀ e ∈ longImmediates, ∀ (f : FL) (s : State), Issues s 2 (s.guard7 f.g) [f.d, f.a] →
    ∃ t, exec (e.1 f) s = .next t ∧ ScalarDone s t 2 f.d (e.2 (s.rx f.a) f.imm) 0) ∧
  (∀ e ∈ systemImmediates, ∀ (f : FSY) (s : State), Issues s 2 (s.guard7 f.g) [f.d, f.a] →
    ∃ t, exec (e.1 f) s = .next t ∧ ScalarDone s t 2 f.d (e.2 (s.rx f.d) (s.rx f.a) f.imm) 0) ∧
  (∀ (f : FWid) (s : State), Issues s 1 (s.guard4 f.g) [f.d, f.a] →
    ∃ t, exec (.widf f) s = .next t ∧ ScalarDone s t 1 f.d
      (BitVec.ofNat 64 (s.me.wid.toNat / 2 ^ (s.me.widths.take f.i.toNat).sum % 2 ^ s.me.widths.getD f.i.toNat 0) + s.rx f.a) 0)

/-! ## Scalar FP32, special registers, predicates -/

namespace Sys2Proof.Machine

/-- The FP32 value of x[n]: its low 32 bits (R117). -/
def lowFp (v : DWord) : Fp := fp32 (v.toNat % 2 ^ 32)

/-- The operations of major 0x05 on the values of x[a], x[b] and x[d] (R117). -/
def floatForms : List ((FF → Instr) × (Rm → Fp → Fp → Fp → Res)) :=
  [(.fadd, fun rm a b _ => fpAdd Fmt.fp32 rm a b), (.fmul, fun rm a b _ => fpMul Fmt.fp32 rm a b),
   (.fma, fun rm a b d => fpFma Fmt.fp32 rm a b d)]
def minMaxForms : List ((FMinMax → Instr) × (Fp → Fp → Res)) :=
  [(.fmax, fun a b => fpMax Fmt.fp32 a b), (.fmin, fun a b => fpMin Fmt.fp32 a b)]
/-- FCVT: the value written and the flags (R57, R117). -/
def convertForms : List ((FCvt → Instr) × (Rm → DWord → DWord × Flags)) :=
  [(.fcvtF32I64, fun rm a => let r := fpOfInt Fmt.fp32 rm a.toInt; (BitVec.ofNat 64 r.bits, r.flags)),
   (.fcvtF32U64, fun rm a => let r := fpOfInt Fmt.fp32 rm a.toNat; (BitVec.ofNat 64 r.bits, r.flags)),
   (.fcvtI64F32, fun rm a => let r := intFrom 64 rm (lowFp a); (BitVec.ofInt 64 r.val, r.flags)),
   (.fcvtI32F32, fun rm a => let r := intFrom 32 rm (lowFp a); (BitVec.ofInt 64 r.val, r.flags))]

/-- What MFS returns (R18, R118). -/
def readSpecial (s : State) (n : Nat) : DWord :=
  match n with
  | 0 => s.me.wid
  | 1 => BitVec.ofNat 64 (s.me.line.toNat * 16 + s.me.slot.toNat)
  | 2 => s.me.lc
  | 3 => s.me.ec
  | 4 => BitVec.ofNat 64 s.me.vbase.toNat
  | 5 => BitVec.ofNat 64 s.me.pbase.toNat
  | 6 => BitVec.ofNat 64 s.me.fstat.toNat
  | 7 => s.me.fault
  | 8 => BitVec.ofNat 64 s.tai
  | 9 => match s.myGroup with | some g => BitVec.ofNat 64 (s.group g).stepTick | none => 0
  | 10 => BitVec.ofNat 64 (s.me.wlim.toNat * 2 ^ 33 + (s.me.wcount.toNat - 1))
  | _ => BitVec.ofNat 64 s.me.cls.toNat

/-- What an MTS of v leaves in a special register that held `old` (R17, R118). -/
def writeSpecial (s : State) (n : Nat) (v old : DWord) : DWord :=
  match n with
  | 2 | 3 => v
  | 4 => if s.me.vn = 0 then 0 else BitVec.ofNat 64 (v.toNat % s.me.vn)
  | 5 => if s.me.pn = 0 then 0 else BitVec.ofNat 64 (v.toNat % s.me.pn)
  | 6 => v &&& 0x3F
  | 7 => v &&& ~~~0x3F00#64
  | 11 => v &&& 0xF
  | _ => old

/-- Only predicates of the context and its pc differ. -/
def PredDone (s t : State) (len : Nat) (n : Nat) (v : Pred) : Prop :=
  OnlyMe s t ∧ Sequel s t len ∧
    t.me = { s.me with p := t.me.p, line := t.me.line, slot := t.me.slot, pass := Passing.none } ∧
    ∀ m, t.me.rp m = if s.me.physP m = s.me.physP n ∧ s.me.physP m ≠ 0 then v else s.me.rp m

/-- The comparison PCMP.cc makes (R120). -/
def comparison (cc : Nat) (a b : DWord) : Bool :=
  match cc with
  | 0 => decide (a = b)
  | 1 => decide (a ≠ b)
  | 2 => decide (a.toInt < b.toInt)
  | 3 => decide (b.toInt ≤ a.toInt)
  | 4 => decide (a.toNat < b.toNat)
  | _ => decide (b.toNat ≤ a.toNat)

end Sys2Proof.Machine

/-- R117: the scalar FP32 forms write the zero-extended result (an FCVT to an integer, the integer) and raise its flags.
R49, R52, R57, R72, R117: the worked values of the scalar FP32 forms: an exact tie under RNE and RUP, an FCVT beyond the
range, and the maximum of zeros of both signs. -/
def Obligations.FloatForms : Prop :=
  ((∀ e ∈ floatForms, ∀ (f : FF) (s : State), Issues s 1 (s.guard4 f.g) [f.d, f.a, f.b] →
     let r := e.2 (Rm.ofBits f.rm) (lowFp (s.rx f.a)) (lowFp (s.rx f.b)) (lowFp (s.rx f.d))
     ∃ t, exec (e.1 f) s = .next t ∧ ScalarDone s t 1 f.d (BitVec.ofNat 64 r.bits) r.flags) ∧
   (∀ e ∈ minMaxForms, ∀ (f : FMinMax) (s : State), Issues s 1 (s.guard4 f.g) [f.d, f.a, f.b] →
     let r := e.2 (lowFp (s.rx f.a)) (lowFp (s.rx f.b))
     ∃ t, exec (e.1 f) s = .next t ∧ ScalarDone s t 1 f.d (BitVec.ofNat 64 r.bits) r.flags) ∧
   (∀ e ∈ convertForms, ∀ (f : FCvt) (s : State), Issues s 1 (s.guard4 f.g) [f.d, f.a] →
     let r := e.2 (Rm.ofBits f.rm) (s.rx f.a)
     ∃ t, exec (e.1 f) s = .next t ∧ ScalarDone s t 1 f.d r.1 r.2)) ∧
  (fpAdd Fmt.fp32 (Rm.ofBits 0) (lowFp 0x3F800000) (lowFp 0x33800000) = ⟨0x3F800000, Flags.nx⟩ ∧
   (fpAdd Fmt.fp32 (Rm.ofBits 2) (lowFp 0x3F800000) (lowFp 0x33800000)).bits = 0x3F800001 ∧
   (intFrom 32 (Rm.ofBits 0) (lowFp 0x4F800000)).val = 0x7FFFFFFF ∧
   (intFrom 32 (Rm.ofBits 0) (lowFp 0x4F800000)).flags = Flags.sv ∧
   fpMax Fmt.fp32 (lowFp 0x80000000) (lowFp 0) = ⟨0, 0⟩)

/-! ## Control -/

namespace Sys2Proof.Machine

/-- BC forms with their condition (R122). -/
def branchForms : List ((FBC → Instr) × (DWord → DWord → Bool)) :=
  [(.bGuarded, fun _ _ => true), (.beq, comparison 0), (.bne, comparison 1), (.blt, comparison 2), (.bge, comparison 3),
   (.bltu, comparison 4), (.bgeu, comparison 5)]

/-- A call has gone to its target with the return point in x31 (R123); x31 and the pc apart nothing differs. -/
def Called (s t : State) (len : Nat) (line : Line) (slot : Slot) : Prop :=
  ∃ l k, s.successor len = some (l, k) ∧ OnlyMe s t ∧ OnlyRegs s.me t.me ∧ WentTo t line slot ∧
    Wrote s t 31 (BitVec.ofNat 64 (l.toNat * 16 + k.toNat)) ∧ t.me.fstat = s.me.fstat

/-- A register target in pc layout that a branch may take (R124). -/
def goodTarget (v : DWord) : Prop := v.toNat < 2 ^ 25 ∧ v.toNat % 16 ≠ 0

end Sys2Proof.Machine

/-- R107: NOP has no effect. Its word is 0x0200_0000; a word of major 0x01 with any other bit set is refused as a field
error. -/
def Obligations.NopForm : Prop :=
  (∀ s : State, (s.successor 1).isSome = true → ∃ t, exec .nop s = .next t ∧ Passed s t 1) ∧
  (∀ w1, (match decode 0x02000000 w1 with | .ok .nop => True | _ => False)) ∧
  (∀ (x : BitVec 25) (w1 : Word), x ≠ 0 → decode (0x01#7 ++ x) w1 = .error .field)

/-- R121, R122, R124: the branches to a target that is not slot 0. One taken changes the pc alone; a conditional one not
taken goes on in sequence; RET has the effect of BR. R121, R123, R124: a target with slot 0 is fault 0x02 whether or not the
branch would be taken and whatever its guard; a register target out of range or with slot 0 is fault 0x02; a call of any
form whose return point lies past the end of its chain is fault 0x01 with its pc. R123, R124: the calls write the return
point to x31 and then transfer control; CALLR x31 goes to the old x31. Where the spec leaves a point open, the model’s
choice is stated: log 57, 89. -/
def Obligations.BranchesAndCalls : Prop :=
  ((∀ (f : FJ) (s : State), f.slot ≠ 0 → ∃ t, exec (.b f) s = .next t ∧ Jumped s t f.line f.slot) ∧
   (∀ e ∈ branchForms, ∀ (f : FBC) (s : State), f.slot ≠ 0 → Ready s (s.guard7 f.g) [f.a, f.b] →
     (e.2 (s.rx f.a) (s.rx f.b) = true → ∃ t, exec (e.1 f) s = .next t ∧ Jumped s t f.line f.slot) ∧
     (e.2 (s.rx f.a) (s.rx f.b) = false → (s.successor 2).isSome = true → ∃ t, exec (e.1 f) s = .next t ∧ Passed s t 2)) ∧
   (∀ (f : FA) (s : State), goodTarget (s.rx f.a) → Ready s (s.guard4 f.g) [f.a] →
     (∃ t, exec (.br f) s = .next t ∧ Jumped s t (BitVec.ofNat 21 ((s.rx f.a).toNat / 16)) (BitVec.ofNat 4 (s.rx f.a).toNat)) ∧
     exec (.ret f) s = exec (.br f) s)) ∧
  ((∀ (f : FJ) (s : State), f.slot = 0 →
     exec (.b f) s = .next (s.faulted (raise 0x02)) ∧ exec (.call f) s = .next (s.faulted (raise 0x02)) ∧
     exec (.bloop f) s = .next (s.faulted (raise 0x02))) ∧
   (∀ e ∈ branchForms, ∀ (f : FBC) (s : State), f.slot = 0 → exec (e.1 f) s = .next (s.faulted (raise 0x02))) ∧
   (∀ (f : FSY) (s : State), f.b = 0 → exec (.callGuarded f) s = .next (s.faulted (raise 0x02))) ∧
   (∀ (f : FA) (s : State), ¬ goodTarget (s.rx f.a) →
     (Ready s (s.guard4 f.g) [f.a] → exec (.br f) s = .next (s.faulted (raise 0x02)) ∧
       exec (.ret f) s = .next (s.faulted (raise 0x02))) ∧
     (Ready s (s.guard4 f.g) [f.a, 31] → exec (.callr f) s = .next (s.faulted (raise 0x02)))) ∧
   (∀ (f : FJ) (s : State), f.slot ≠ 0 → Ready s true [31] → s.successor 1 = none →
     exec (.call f) s = .next (s.faulted (raise 0x01 s.me.pc.toNat))) ∧
   (∀ (f : FSY) (s : State), f.b.toNat % 16 ≠ 0 → f.b.toNat < 16 → Ready s (s.guard7 f.g) [31] → s.successor 2 = none →
     exec (.callGuarded f) s = .next (s.faulted (raise 0x01 s.me.pc.toNat))) ∧
   (∀ (f : FA) (s : State), goodTarget (s.rx f.a) → Ready s (s.guard4 f.g) [f.a, 31] → s.successor 1 = none →
     exec (.callr f) s = .next (s.faulted (raise 0x01 s.me.pc.toNat)))) ∧
  ((∀ (f : FJ) (s : State), f.slot ≠ 0 → Issues s 1 true [31] →
     ∃ t, exec (.call f) s = .next t ∧ Called s t 1 f.line f.slot) ∧
   (∀ (f : FSY) (s : State), f.b.toNat % 16 ≠ 0 → f.b.toNat < 16 → Issues s 2 (s.guard7 f.g) [31] →
     ∃ t, exec (.callGuarded f) s = .next t ∧ Called s t 2 (BitVec.ofNat 21 f.imm.toNat) (BitVec.ofNat 4 f.b.toNat)) ∧
   (∀ (f : FA) (s : State), goodTarget (s.rx f.a) → Issues s 1 (s.guard4 f.g) [f.a, 31] →
     ∃ t, exec (.callr f) s = .next t ∧
       Called s t 1 (BitVec.ofNat 21 ((s.rx f.a).toNat / 16)) (BitVec.ofNat 4 (s.rx f.a).toNat)))

/-- R18, R118: MFS writes the special register's value to x[d]; MTS writes x[d] to the register, which keeps its reserved
bits and reduces a base by its region, and to no other; read-only registers ignore it. R120: the predicate moves and SELP.
PCMP and MXP write one predicate, p0 excepted; MPX and SELP one register. R16, R125, R126: LOOPSET sets the loop counters,
the bases and the stage predicates; a taken BLOOP advances the loop and computes every stage predicate; neither writes
another predicate; one that falls through changes nothing. -/
def Obligations.SpecialAndPredicateMoves : Prop :=
  ((∀ (f : FS) (s : State), f.sreg.toNat ≤ 11 → Issues s 1 (s.guard4 f.g) [f.d] →
     ∃ t, exec (.mfs f) s = .next t ∧ ScalarDone s t 1 f.d (readSpecial s f.sreg.toNat) 0) ∧
   (∀ (f : FS) (s : State), f.sreg.toNat ≤ 11 → s.me.vn ≤ 32 → s.me.pn ≤ 64 → Issues s 1 (s.guard4 f.g) [f.d] →
     ∃ t, exec (.mts f) s = .next t ∧ OnlyMe s t ∧ Sequel s t 1 ∧
       t.me = { s.me with
         lc := t.me.lc, ec := t.me.ec, vbase := t.me.vbase, pbase := t.me.pbase, fstat := t.me.fstat, fault := t.me.fault
         cls := t.me.cls, line := t.me.line, slot := t.me.slot, pass := Passing.none } ∧
       ∀ n ≤ 11, n ≠ 1 → n ≠ 10 → readSpecial t n =
         if n = f.sreg.toNat then writeSpecial s n (s.rx f.d) (readSpecial s n) else readSpecial s n)) ∧
  ((∀ (f : FSY) (s : State), f.imm.toNat / 2 ^ 8 % 8 ≤ 5 → Issues s 2 (s.guard7 f.g) [f.a, f.b] →
     ∃ t, exec (.pcmp f) s = .next t ∧ PredDone s t 2 (f.imm.toNat % 128)
       (if comparison (f.imm.toNat / 2 ^ 8 % 8) (s.rx f.a) (s.rx f.b) then BitVec.allOnes 1024 else 0)) ∧
   (∀ (f : FSY) (s : State), Issues s 2 (s.guard7 f.g) [f.d] →
     ∃ t, exec (.mpx f) s = .next t ∧ ScalarDone s t 2 f.d ((s.me.rp (f.imm.toNat % 128)).extractLsb' 0 64) 0) ∧
   (∀ (f : FSY) (s : State), Issues s 2 (s.guard7 f.g) [f.a] →
     ∃ v : Pred, (∀ r < 16, v.extractLsb' (64 * r) 64 = s.rx f.a) ∧
       ∃ t, exec (.mxp f) s = .next t ∧ PredDone s t 2 (f.imm.toNat % 128) v) ∧
   (∀ (f : FSY) (s : State), Issues s 2 (s.guard7 f.g) [f.d, f.a, f.b] →
     ∃ t, exec (.selp f) s = .next t ∧ ScalarDone s t 2 f.d
       (if (s.me.rp (f.imm.toNat % 128)).getLsbD 0 then s.rx f.a else s.rx f.b) 0)) ∧
  ((∀ (f : FSY) (s : State), f.imm.toNat / 2 ^ 16 ≤ 63 → s.me.pn ≤ 64 → Issues s 2 (s.guard7 f.g) [f.a] →
     ∃ t, exec (.loopset f) s = .next t ∧ OnlyMe s t ∧ Sequel s t 2 ∧
       t.me = { s.me with
         p := t.me.p, lc := s.rx f.a + (f.imm.setWidth 16).signExtend 64
         ec := BitVec.ofNat 64 (f.imm.toNat / 2 ^ 16 * 2 ^ 56), vbase := 0, pbase := 0
         line := t.me.line, slot := t.me.slot, pass := Passing.none } ∧
       (∀ k ≤ f.imm.toNat / 2 ^ 16, t.me.rp (64 + k) = if k = 0 ∧ t.me.lc ≠ 0 then BitVec.allOnes 1024 else 0) ∧
       (∀ n, (∀ k ≤ f.imm.toNat / 2 ^ 16, t.me.physP (64 + k) ≠ n) → t.me.p.get 0 n = s.me.p.get 0 n)) ∧
   (∀ (f : FJ) (s : State), f.slot ≠ 0 → s.me.pn ≤ 64 → (s.me.ec >>> 56).toNat ≤ 63 →
     let sd := s.me.ec.toNat / 2 ^ 56
     let j := s.me.ec.toNat % 2 ^ 56 + 1
     let lc := s.me.lc.toNat
     (lc ≠ 0 ∧ j < lc + sd ∧ j < 2 ^ 56 → ∃ t, exec (.bloop f) s = .next t ∧ OnlyMe s t ∧ WentTo t f.line f.slot ∧
       t.me = { s.me with
         p := t.me.p, ec := BitVec.ofNat 64 (sd * 2 ^ 56 + j)
         pbase := if 0 < s.me.pn then BitVec.ofNat 6 ((s.me.pbase.toNat + 1) % s.me.pn) else s.me.pbase
         vbase := if 0 < s.me.vn then BitVec.ofNat 5 ((s.me.vbase.toNat + 1) % s.me.vn) else s.me.vbase
         line := t.me.line, slot := t.me.slot, pass := Passing.none } ∧
       (∀ k ≤ sd, t.me.rp (64 + k) = if k ≤ j ∧ j - k < lc then BitVec.allOnes 1024 else 0) ∧
       (∀ n, (∀ k ≤ sd, t.me.physP (64 + k) ≠ n) → t.me.p.get 0 n = s.me.p.get 0 n)) ∧
     (¬ (lc ≠ 0 ∧ j < lc + sd ∧ j < 2 ^ 56) → (s.successor 1).isSome = true →
       ∃ t, exec (.bloop f) s = .next t ∧ Passed s t 1)))

/-! ## Waiting, waking, the watchdog and the issue slot -/

namespace Sys2Proof.Machine

/-- Fields of a format W argument: ring, slot count, x register (R127, R166). -/
def waitRing (f : FW) : BitVec 5 := BitVec.ofNat 5 (f.arg.toNat / 2 ^ 12)
def waitCount (f : FW) : Nat := f.arg.toNat % 2 ^ 8 + 1
def waitReg (f : FW) : BitVec 5 := BitVec.ofNat 5 f.arg.toNat
/-- WAIT.RING and WAIT.FREE with the slots they count (R127). -/
def ringWaits : List ((FW → Instr) × (Ring → Nat) × (BitVec 5 → Nat → WaitFor)) :=
  [(.waitRing, fun r => (r.tail - r.head).toNat, fun q n => .ring q n .waiting),
   (.waitFree, fun r => r.scount.toNat + 1 - (r.tail - r.head).toNat - (r.claim - r.tail).toNat,
      fun q n => .free q n .waiting)]

/-- Every queue of the mask has no marker, or has completed what the marker counts (R165). -/
def JoinHolds (s : State) (mask : BitVec 14) : Prop :=
  ∀ j < 14, mask.getLsbD j = true → ∀ m, s.me.markers.get none j = some m →
    (((s.core s.myCore).completed j - m).toNat < 2 ^ 31)

/-- The markers with those of the mask cleared. -/
def Cleared (old new : Cells (Option Word)) (mask : BitVec 14) : Prop :=
  ∀ j, new.get none j = if j < 14 ∧ mask.getLsbD j = true then none else old.get none j

/-- The comparison of a monitor wait (R166). -/
def monitorHolds (cond v w : Nat) : Prop :=
  match cond with
  | 0 => v ≠ w
  | 1 => v = w
  | 2 => w ≤ v
  | _ => v < w

/-- Where a ring wait for n slots stands after its ring has become r, of which `count` slots are in question (R129). -/
def lookedAt (r : Ring) (n count : Nat) : RingWatch :=
  if r.en = false ∨ r.scount.toNat + 1 < n then .broken else if n ≤ count then .met else .waiting

/-- The state as agent `a` sees it when it acts. -/
def State.by (s : State) (a : Agent) : State := { s with cur := a }

end Sys2Proof.Machine

/-- R23, R77, R127, R128: a waiting instruction whose condition holds at issue is over at once: slot 1 of the next line, the
issue slot given up, the watchdog count 0. Where the spec leaves a point open, the model’s choice is stated: log 8. -/
def Obligations.WaitsOver : Prop :=
  (∀ (f : FW) (s : State), WaitReady s (s.guard4 f.g) [] → ∃ t, exec (.yield f) s = .next t ∧ WaitOver s t s.me 0) ∧
  (∀ e ∈ ringWaits, ∀ (f : FW) (s : State), WaitReady s (s.guard4 f.g) [] →
    (s.myRing (waitRing f)).en = true → waitCount f ≤ (s.myRing (waitRing f)).scount.toNat + 1 →
    waitCount f ≤ e.2.1 (s.myRing (waitRing f)) → ∃ t, exec (e.1 f) s = .next t ∧ WaitOver s t s.me 0) ∧
  (∀ (f : FW) (s : State), WaitReady s (s.guard4 f.g) [] → JoinHolds s (f.arg.setWidth 14) →
    ∃ t, exec (.waitJoin f) s = .next t ∧ Cleared s.me.markers t.me.markers (f.arg.setWidth 14) ∧
      WaitOver s t { s.me with markers := t.me.markers } 0) ∧
  (∀ (f : FW) (s : State), WaitReady s (s.guard4 f.g) [waitReg f] → (s.rx (waitReg f)).toNat ≤ s.tai →
    ∃ t, exec (.waitTime f) s = .next t ∧ WaitOver s t s.me 0)

/-- R127, R128, R130: a waiting instruction whose condition does not hold parks the strand at its own pc. WAIT.STEP, which
waits for a later step, and WAIT.CLK, which waits for n clk, always park. R77, R128: the faults of the waits, taken whatever
the guard: a ring that is off or has too few slots 0x08, WAIT.STEP outside a batch group 0x07, and after these a next line
that begins no block 0x02. R23, R81, R128: a waiting instruction with guard bit 0 waits for nothing: it continues at slot 1
of the next line and keeps the issue slot and the count. Where the spec leaves a point open, the model’s choice is stated:
log 69. -/
def Obligations.WaitsThatDoNotEnd : Prop :=
  ((∀ e ∈ ringWaits, ∀ (f : FW) (s : State), WaitReady s (s.guard4 f.g) [] →
     (s.myRing (waitRing f)).en = true → waitCount f ≤ (s.myRing (waitRing f)).scount.toNat + 1 →
     e.2.1 (s.myRing (waitRing f)) < waitCount f →
     ∃ t, exec (e.1 f) s = .next t ∧ WaitParked s t (e.2.2 (waitRing f) (waitCount f))) ∧
   (∀ (f : FW) (s : State), WaitReady s (s.guard4 f.g) [] → ¬ JoinHolds s (f.arg.setWidth 14) →
     ∃ t, exec (.waitJoin f) s = .next t ∧ WaitParked s t (.join (f.arg.setWidth 14))) ∧
   (∀ (f : FW) (s : State), WaitReady s (s.guard4 f.g) [waitReg f] → s.tai < (s.rx (waitReg f)).toNat →
     ∃ t, exec (.waitTime f) s = .next t ∧ WaitParked s t (.time (s.rx (waitReg f)))) ∧
   (∀ (f : FW) (s : State), WaitReady s (s.guard4 f.g) [] → s.myGroup.isSome = true →
     ∃ t, exec (.waitStep f) s = .next t ∧ WaitParked s t .step) ∧
   (∀ (f : FW) (s : State), WaitReady s (s.guard4 f.g) [] →
     ∃ t, exec (.waitClk f) s = .next t ∧ WaitParked s t (.clk (f.arg.toNat + 1)))) ∧
  ((∀ e ∈ ringWaits, ∀ (f : FW) (s : State),
     (s.myRing (waitRing f)).en = false ∨ (s.myRing (waitRing f)).scount.toNat + 1 < waitCount f →
     exec (e.1 f) s = .next (s.faulted (raise 0x08))) ∧
   (∀ (f : FW) (s : State), s.myGroup = none → exec (.waitStep f) s = .next (s.faulted (raise 0x07))) ∧
   (∀ i ∈ [Instr.yield, .waitJoin, .waitTime, .waitClk, .mwaitS, .mwaitG, .mwaitQ], ∀ (f : FW) (s : State) (img : Image) (l : Line),
     s.nextLine = some l → s.imageOf s.cur = some img → (s.imageWord img l.toNat 0).getLsbD 26 = false →
     exec (i f) s = .next (s.faulted (raise 0x02)))) ∧
  ((∀ i ∈ [Instr.yield, .waitJoin, .waitTime, .waitClk, .mwaitS, .mwaitG, .mwaitQ], ∀ (f : FW) (s : State) (l : Line),
     s.guard4 f.g = false → s.blockEnd = none → s.nextLine = some l → ∃ t, exec (i f) s = .next t ∧ Jumped s t l 1) ∧
   (∀ i ∈ [Instr.waitRing, .waitFree], ∀ (f : FW) (s : State) (l : Line),
     s.guard4 f.g = false → s.blockEnd = none → s.nextLine = some l →
     (s.myRing (waitRing f)).en = true → waitCount f ≤ (s.myRing (waitRing f)).scount.toNat + 1 →
     ∃ t, exec (i f) s = .next t ∧ Jumped s t l 1) ∧
   (∀ (f : FW) (s : State) (l : Line), s.guard4 f.g = false → s.blockEnd = none → s.nextLine = some l →
     s.myGroup.isSome = true → ∃ t, exec (.waitStep f) s = .next t ∧ Jumped s t l 1) ∧
   (∀ (f : FE) (s : State) (l : Line), s.guard4 f.g = false → s.blockEnd = none → s.nextLine = some l →
     ∃ t, exec (.pushW f) s = .next t ∧ Jumped s t l 1) ∧
   (∀ i ∈ [Instr.mwaittS, .mwaittG, .mwaittQ], ∀ (f : FSY) (s : State) (l : Line),
     s.guard7 f.g = false → s.blockEnd = none → s.nextLine = some l → ∃ t, exec (i f) s = .next t ∧ Jumped s t l 1) ∧
   (∀ (f : FSY) (s : State) (l : Line), s.guard7 f.g = false → s.blockEnd = none → s.nextLine = some l →
     s.barrierCheck (ringOf f) = none → ∃ t, exec (.rbar f) s = .next t ∧ Jumped s t l 1))

/-- R129, R165–R168: a parked ring wait is looked at after every update of its ring, and what it finds then stays; the
events that end a wait whose condition has held: the strand is ready at slot 1 of the next line, its count 0 but after a
monitor wait; a ring made unfit is fault 0x08 at the wait, once the loads before it have completed (R145); the current agent
stays. The strand's core is not fenced. -/
def Obligations.Wakes : Prop :=
  (∀ (k : Core) (i n : Nat) (p q : BitVec 5) (r : Ring) (w : RingWatch), let t := (k.putRing q.toNat r).strand i
    ((k.strand i).run = .parked (.ring p n w) → t.run = .parked (.ring p n
      (if p = q ∧ w = .waiting then lookedAt r n (r.tail - r.head).toNat else w))) ∧
    ((k.strand i).run = .parked (.free p n w) → t.run = .parked (.free p n
      (if p = q ∧ w = .waiting then
        lookedAt r n (r.scount.toNat + 1 - (r.tail - r.head).toNat - (r.claim - r.tail).toNat) else w)))) ∧
  (∀ (c : CoreId) (k : StrandId) (s : State) (q : BitVec 5) (n : Nat), let u := s.by (.strand c k)
    (s.core c.toNat).fenced = false →
    (u.nextLine.isSome = true → u.me.run = .parked (.ring q n .met) ∨ u.me.run = .parked (.free q n .met) →
      ∃ t, exec (.ringWaitWake c k) s = .next t ∧ t.cur = s.cur ∧ WaitOver u (t.by u.cur) u.me 0) ∧
    (u.me.run = .parked (.ring q n .broken) ∨ u.me.run = .parked (.free q n .broken) →
      (u.me.far = [] → exec (.ringWaitWake c k) s = .next ((u.takeFault (raise 0x08)).by s.cur)) ∧
      (u.me.far ≠ [] → exec (.ringWaitWake c k) s = .next s))) ∧
  (∀ (a : Agent) (s : State) (d : DWord), let u := s.by a
    s.fencedOff a = false → u.nextLine.isSome = true → u.me.run = .parked (.time d) → d.toNat ≤ s.tai →
    ∃ t, exec (.waitTimeReached a) s = .next t ∧ t.cur = s.cur ∧ WaitOver u (t.by a) u.me 0) ∧
  (∀ (a : Agent) (s : State), let u := s.by a
    s.fencedOff a = false → u.nextLine.isSome = true → u.me.run = .parked (.clk 0) →
    ∃ t, exec (.waitClkExpiry a) s = .next t ∧ t.cur = s.cur ∧ WaitOver u (t.by a) u.me 0) ∧
  (∀ (c : CoreId) (k : StrandId) (s : State) (mask : BitVec 14), let u := s.by (.strand c k)
    (s.core c.toNat).fenced = false → u.nextLine.isSome = true → u.me.run = .parked (.join mask) → JoinHolds u mask →
    ∃ t, exec (.joinComplete c k) s = .next t ∧ t.cur = s.cur ∧
      Cleared u.me.markers (t.by u.cur).me.markers mask ∧
      WaitOver u (t.by u.cur) { u.me with markers := (t.by u.cur).me.markers } 0) ∧
  (∀ (a : Agent) (s : State) (m : Monitor), let u := s.by a
    s.fencedOff a = false → u.nextLine.isSome = true → u.me.run = .parked (.monitor m) → m.hit = true → m.dest = none →
    ∃ t, exec (.monitorWake a) s = .next t ∧ t.cur = s.cur ∧ WaitOver (u.acquire (m.space != 0)) (t.by a) u.me u.me.wcount) ∧
  (∀ (a : Agent) (s : State) (m : Monitor) (d : BitVec 5) (due : DWord), let u := s.by a
    s.fencedOff a = false → u.nextLine.isSome = true → u.me.run = .parked (.monitor m) → m.dest = some d → m.deadline = some due →
    due.toNat ≤ s.tai →
    ∃ t, exec (.mwaittTimeout a) s = .next t ∧ t.cur = s.cur ∧
      WaitOver (u.acquire (m.space != 0)) (t.by a) (u.me.wx d (if m.hit then 0 else 1)) u.me.wcount)

/-- R166–R168: the monitor waits on the scratchpad and on the record store. With the condition true of the watched bytes
they are over at once, the watchdog count not reset (R132), MWAITT with x[d] = 0; else they park on the bytes, MWAITT with
its time limit. R168, R284: MWAIT.G and MWAITT.G of a strand compare the bytes at the memory controller, reached through
translation, no row of memory in error; with the condition true of them they are over at once, else they park on the
translated bytes, MWAITT with its time limit. Where the spec leaves a point open, the model’s choice is stated: log 8. -/
def Obligations.MonitorWaits : Prop :=
  ((∀ e ∈ [(Instr.mwaitS, 0), (.mwaitQ, 5)], ∀ (f : FW) (s : State),
     let b := BitVec.ofNat 5 (f.arg.toNat / 2 ^ 5)
     let n := 2 ^ (f.arg.toNat / 2 ^ 10 % 4)
     let cond := f.arg.toNat / 2 ^ 12 % 4
     let addr := (s.rx (waitReg f)).toNat
     let v := if e.2 = 0 then bytesAt (s.core s.myCore).scratch addr n else bytesAt s.records addr n
     WaitReady s (s.guard4 f.g) [waitReg f, b] → s.checkAccess s.cur e.2 addr n false s.me.cls = none → s.isPorch = false →
     s.me.loadWaits s.me.cls e.2 addr n = false →
     (monitorHolds cond v ((s.rx b).toNat % 2 ^ (8 * n)) →
       ∃ t, exec (e.1 f) s = .next t ∧ WaitOver (s.acquire (e.2 != 0)) t s.me s.me.wcount) ∧
     (¬ monitorHolds cond v ((s.rx b).toNat % 2 ^ (8 * n)) →
       ∃ t, exec (e.1 f) s = .next t ∧ WaitParked s t (.monitor
         ⟨BitVec.ofNat 3 e.2, addr, BitVec.ofNat 2 (f.arg.toNat / 2 ^ 10), BitVec.ofNat 2 cond, s.rx b, false, none, none⟩))) ∧
   (∀ e ∈ [(Instr.mwaittS, 0), (.mwaittQ, 5)], ∀ (f : FSY) (s : State),
     let n := 2 ^ (f.imm.toNat % 4)
     let cond := f.imm.toNat / 2 ^ 2 % 4
     let limit := f.imm.toNat / 2 ^ 4 % 2 ^ 12
     let addr := (s.rx f.a).toNat
     let v := if e.2 = 0 then bytesAt (s.core s.myCore).scratch addr n else bytesAt s.records addr n
     WaitReady s (s.guard7 f.g) [f.d, f.a, f.b] → s.checkAccess s.cur e.2 addr n false s.me.cls = none → s.isPorch = false →
     s.me.loadWaits s.me.cls e.2 addr n = false →
     (monitorHolds cond v ((s.rx f.b).toNat % 2 ^ (8 * n)) →
       ∃ t, exec (e.1 f) s = .next t ∧ WaitOver (s.acquire (e.2 != 0)) t (s.me.wx f.d 0) s.me.wcount) ∧
     (¬ monitorHolds cond v ((s.rx f.b).toNat % 2 ^ (8 * n)) →
       ∃ t, exec (e.1 f) s = .next t ∧ WaitParked s t (.monitor
         ⟨BitVec.ofNat 3 e.2, addr, BitVec.ofNat 2 f.imm.toNat, BitVec.ofNat 2 cond, s.rx f.b, false, some f.d,
           if limit = 0 then none else some (BitVec.ofNat 64 (s.tai + 1000 * limit))⟩)))) ∧
  ((∀ (f : FW) (s u : State) (pa pol : Nat),
     let b := BitVec.ofNat 5 (f.arg.toNat / 2 ^ 5)
     let n := 2 ^ (f.arg.toNat / 2 ^ 10 % 4)
     let addr := (s.rx (waitReg f)).toNat
     WaitReady s (s.guard4 f.g) [waitReg f, b] → s.isPorch = false → s.bad = [] → s.checkAccess s.cur 2 addr n false s.me.cls = none →
     s.me.loadWaits s.me.cls 2 addr n = false → s.translate (s.asidOf s.cur) addr n false true = (.ok pa pol, u) →
     let cond := f.arg.toNat / 2 ^ 12 % 4
     let v := if pol = 1 then bytesAt u.pooled pa n else u.physNat pa n
     (monitorHolds cond v ((s.rx b).toNat % 2 ^ (8 * n)) → u.nextLine.isSome = true →
       ∃ t, exec (.mwaitG f) s = .next t ∧ WaitOver (u.acquire true) t s.me s.me.wcount) ∧
     (¬ monitorHolds cond v ((s.rx b).toNat % 2 ^ (8 * n)) → ∃ t, exec (.mwaitG f) s = .next t ∧ WaitParked u t (.monitor
       ⟨2, pa, BitVec.ofNat 2 (f.arg.toNat / 2 ^ 10), BitVec.ofNat 2 cond, s.rx b, false, none, none⟩))) ∧
   (∀ (f : FSY) (s u : State) (pa pol : Nat),
     let n := 2 ^ (f.imm.toNat % 4)
     let addr := (s.rx f.a).toNat
     WaitReady s (s.guard7 f.g) [f.d, f.a, f.b] → s.isPorch = false → s.bad = [] → s.checkAccess s.cur 2 addr n false s.me.cls = none →
     s.me.loadWaits s.me.cls 2 addr n = false → s.translate (s.asidOf s.cur) addr n false true = (.ok pa pol, u) →
     let cond := f.imm.toNat / 2 ^ 2 % 4
     let limit := f.imm.toNat / 2 ^ 4 % 2 ^ 12
     let v := if pol = 1 then bytesAt u.pooled pa n else u.physNat pa n
     (monitorHolds cond v ((s.rx f.b).toNat % 2 ^ (8 * n)) → u.nextLine.isSome = true →
       ∃ t, exec (.mwaittG f) s = .next t ∧ WaitOver (u.acquire true) t (s.me.wx f.d 0) s.me.wcount) ∧
     (¬ monitorHolds cond v ((s.rx f.b).toNat % 2 ^ (8 * n)) → ∃ t, exec (.mwaittG f) s = .next t ∧ WaitParked u t (.monitor
       ⟨2, pa, BitVec.ofNat 2 f.imm.toNat, BitVec.ofNat 2 cond, s.rx f.b, false, some f.d,
         if limit = 0 then none else some (BitVec.ofNat 64 (s.tai + 1000 * limit))⟩))))

/-- R131, R328: HALT with no store queued ends the strand, which keeps its registers and gives up the issue slot; on the
porch it ends the run. With its guard bit 0 it does nothing. R132, R145, R336: a ready strand whose count has reached 2^lim,
the loads before it complete, takes fault 0x09 at its pc with the count 0; below the limit nothing happens. A free issue
slot goes to the ready strand of highest stage pressure, among equals the first at or after the round-robin pointer, which
moves past it. -/
def Obligations.HaltWatchdogAndIssueSlot : Prop :=
  ((∀ (f : FW) (s : State) (c : CoreId) (k : StrandId), s.cur = .strand c k → s.guard4 f.g = true → s.me.storeq = [] →
     ∃ t, exec (.halt f) s = .next t ∧ SameBytes s t ∧ t = (s.setMe { s.me with run := .halted, pass := Passing.none }).giveSlot) ∧
   (∀ (f : FW) (s : State) (q : HostQueueId), s.cur = .porch q → s.guard4 f.g = true → s.me.storeq = [] →
     ∃ t, exec (.halt f) s = .next t ∧ SameBytes s t ∧ t = s.setPorchQueue q.toNat { s.porchQueue q.toNat with
       running := false, strand := { (s.porchQueue q.toNat).strand with run := .absent } }) ∧
   (∀ (f : FW) (s : State), s.guard4 f.g = false → (s.successor 1).isSome = true →
     ∃ t, exec (.halt f) s = .next t ∧ Passed s t 1)) ∧
  ((∀ (c : CoreId) (k : StrandId) (s : State), let u := s.by (.strand c k)
     (s.core c.toNat).fenced = false → u.me.run = .ready →
     (2 ^ u.me.wlim.toNat ≤ u.me.wcount.toNat → u.me.far = [] → exec (.watchdogExpiry c k) s =
       .next (((u.setMe { u.me with wcount := 0 }).takeFault (raise 0x09 u.me.pc.toNat)).by s.cur)) ∧
     (u.me.wcount.toNat < 2 ^ u.me.wlim.toNat ∨ u.me.far ≠ [] → exec (.watchdogExpiry c k) s = .next s)) ∧
   (∀ (c : CoreId) (s : State) (i : Nat), let co := s.core c.toNat
     co.holder = none → co.fenced = false → i < 8 → (co.strand i).run = .ready →
     (∀ j < 8, (co.strand j).run = .ready → co.pressure (co.strand j) ≤ co.pressure (co.strand i)) →
     (∀ j < 8, (co.strand j).run = .ready → co.pressure (co.strand j) = co.pressure (co.strand i) →
       (i + 8 - co.rr.toNat) % 8 ≤ (j + 8 - co.rr.toNat) % 8) →
     exec (.issueSelect c) s = .next (s.setCore c.toNat
       { co with holder := some (BitVec.ofNat 3 i), rr := BitVec.ofNat 3 (i + 1) })))

/-! ## Loads, stores, atomics, fences and caches -/

namespace Sys2Proof.Machine

/-- `n` bytes from `addr` on as a little-endian number (R5). -/
def leValue (byte : Nat → Byte) (addr : Nat) : Nat → Nat
  | 0 => 0
  | n + 1 => (byte addr).toNat + 256 * leValue byte (addr + 1) n

/-- Short loads and stores with their space (R138). -/
def shortLoads : List ((FM → Instr) × Nat) := [(.ldS, 0), (.ldW, 1), (.ldG, 2), (.ldQ, 5)]
def shortStores : List ((FM → Instr) × Nat) := [(.stS, 0), (.stW, 1), (.stG, 2), (.stQ, 5)]

/-- x[a] + sext(off4, 4) × 2^sz, and x[a] + sext(off24, 24) (R138, R140). -/
def shortAddr (s : State) (f : FM) : Nat := (s.rx f.a + BitVec.ofInt 64 (f.off.toInt * 2 ^ f.sz.toNat)).toNat
def longAddr (s : State) (f : FML) : Nat := (s.rx f.a + BitVec.ofInt 64 f.off.toInt).toNat
/-- The class of an access: cls with xc = 1, else the strand's cls register (R82). -/
def accessClass (s : State) (xc : BitVec 1) (cls : BitVec 4) : BitVec 4 := if xc = 1 then cls else s.me.cls

/-- A byte of the scratchpad, of placed memory or of the record store. -/
def plainByte (s : State) (space : Nat) (a : Nat) : Byte :=
  match space with
  | 0 => s.peek (.scratch s.myCore a)
  | 1 => s.peek (.placed a)
  | _ => s.peek (.record a)

/-- A load into x[d] is done: the value zero-extended, d awaited by the strand's next use, sequential flow, no other register
and no flag (R138, R143). -/
def Loaded (s t : State) (len : Nat) (d : BitVec 5) (v : Nat) : Prop :=
  Sequel s t len ∧ Wrote s t d (BitVec.ofNat 64 v) ∧
    t.me = { s.me with
      x := t.me.x, inflight := if s.isPorch ∨ d = 0 then s.me.inflight else d :: s.me.inflight
      line := t.me.line, slot := t.me.slot, pass := Passing.none }

/-- A store, RED or cache operation has entered the store queue; nothing is stored yet (R146). -/
def Queued (s t : State) (len : Nat) (e : StoreEntry) : Prop :=
  OnlyMe s t ∧ Sequel s t len ∧
    t.me = { s.me with storeq := s.me.storeq ++ [{ e with order := s.me.nextOrder }], line := t.me.line, slot := t.me.slot, pass := Passing.none }

/-- A load or an atomic is under way and the strand goes on, x[d] awaiting its value; no register is written (R143): from state s,
`id` is its request, which state u has sent, none for one that waits for the accesses before it. -/
def Departed (s u t : State) (len : Nat) (id : Option Nat) (space : BitVec 3) (d : BitVec 5) (addr n : Nat) (cls : BitVec 4)
    (wide acquire : Bool) : Prop :=
  OnlyMe u t ∧ Sequel u t len ∧
    t.me = { s.me with
      far := s.me.far ++ [⟨id, d, s.me.pc, space, addr, n, cls, wide, acquire, s.me.trapIn, none, s.me.nextOrder, [], none⟩]
      inflight := if d = 0 then s.me.inflight else d :: s.me.inflight
      line := t.me.line, slot := t.me.slot, pass := Passing.none }

/-- Load f under way comes before entry e of its strand's store queue (R134, R148): it is older, and of its class, or on its
bytes, or an acquire, or the entry is a release. Requests to one package keep their order once they have left (R360). -/
def LoadFirst (f : FarLoad) (e : StoreEntry) : Prop :=
  f.order < e.order ∧ (e.rel = true ∨ f.acquire = true ∨
    ¬ (e.space = 4 ∧ f.space = 4 ∧ f.id ≠ none ∧ fPkg f.addr = fPkg e.addr) ∧
      (f.cls = e.cls ∨ f.space = e.space ∧ f.addr < e.addr + e.size ∧ e.addr < f.addr + f.size))

/-- No load of agent a comes before entry e of its store queue. -/
def NoneFirst (s : State) (a : Agent) (e : StoreEntry) : Prop := ∀ f ∈ (s.strandOf a).far, ¬ LoadFirst f e

/-- The queue entry of a store of the low `n` bytes of v. -/
def storeOf (space : BitVec 3) (addr n : Nat) (v : DWord) (cls : BitVec 4) (scope : BitVec 2) : StoreEntry :=
  ⟨.store, space, addr, n, v.toNat % 2 ^ (8 * n), 2 ^ n - 1, cls, scope, none, none, none, false, false, 0⟩

/-- The scope of a long access: .H and .F are always .sys (R135). -/
def longScope (space : BitVec 3) (scope : BitVec 2) : BitVec 2 := if space = 3 ∨ space = 4 then 3 else scope

/-- The functions of R153 on `w`-bit patterns: old value, operand. -/
def atomicForms : List ((FAT → Instr) × (FAT → Instr) × (Nat → Nat → Nat → Nat)) :=
  [(.amoSwap, .redSwap, fun _ _ b => b),
   (.amoAdd, .redAdd, fun w o b => (o + b) % 2 ^ w),
   (.amoAnd, .redAnd, fun _ o b => o &&& b),
   (.amoOr, .redOr, fun _ o b => o ||| b),
   (.amoXor, .redXor, fun _ o b => o ^^^ b),
   (.amoMin, .redMin, fun w o b => if (BitVec.ofNat w b).toInt < (BitVec.ofNat w o).toInt then b else o),
   (.amoMax, .redMax, fun w o b => if (BitVec.ofNat w o).toInt < (BitVec.ofNat w b).toInt then b else o),
   (.amoMinu, .redMinu, fun _ o b => min o b),
   (.amoMaxu, .redMaxu, fun _ o b => max o b),
   (.amoFadd, .redFadd, fun _ o b => (fpAdd Fmt.fp32 .rne (fp32 o) (fp32 b)).bits),
   (.amoFmax, .redFmax, fun _ o b => (fpMax Fmt.fp32 (fp32 o) (fp32 b)).bits),
   (.amoFmin, .redFmin, fun _ o b => (fpMin Fmt.fp32 (fp32 o) (fp32 b)).bits),
   (.amoIncw, .redIncw, fun _ o b => if b ≤ o then 0 else o + 1),
   (.amoDecw, .redDecw, fun _ o b => if o = 0 ∨ b < o then b else o - 1),
   (.amoAddus, .redAddus, fun w o b => min (o + b) (2 ^ w - 1)),
   (.amoSubus, .redSubus, fun _ o b => o - b)]

/-- Byte x of a space: pooled memory by physical address (the coherent copy), host memory, else as `plainByte` (R5, R274). -/
def byteOf (t : State) (a : Agent) (space x : Nat) : Byte :=
  match space with
  | 0 => t.peek (.scratch ((coreOf a).getD 0) x)
  | 1 => t.peek (.placed x)
  | 2 => t.peek (.pooled x)
  | 3 => t.peek (.host x)
  | _ => t.peek (.record x)

/-- Bytes [addr, addr + n) of a space hold v, every other byte of every memory is as before. -/
def StoredBytes (s t : State) (a : Agent) (space addr n v : Nat) : Prop :=
  (∀ b, b.within a space addr n = false → t.peek b = s.peek b) ∧ leValue (byteOf t a space) addr n = v

/-- Where a parked monitor stands after a store to bytes [addr, addr + n) of the space, with the bytes as they are after it:
its success is latched when it watches one of them and its condition holds (R168). -/
def latched (byte : Nat → Byte) (space addr n : Nat) (r : Run) : Run :=
  match r with
  | .parked (.monitor m) =>
    if m.space.toNat = space ∧ m.addr < addr + n ∧ addr < m.addr + 2 ^ m.sz.toNat ∧
        monitorCond m.cond (leValue byte m.addr (2 ^ m.sz.toNat)) (m.operand.toNat % 2 ^ (8 * 2 ^ m.sz.toNat)) = true then
      .parked (.monitor { m with hit := true })
    else r
  | _ => r

/-- The agents whose monitors a store by `a` reaches: those of the core for the scratchpad, every agent for pooled memory and
the record store, none for placed and host memory (R166). -/
def reaches (a b : Agent) (space : Nat) : Bool :=
  match space with
  | 0 => coreOf a == coreOf b
  | 2 => true
  | 5 => true
  | _ => false

/-- The run state of agent b after the store. -/
def runAfter (t : State) (a b : Agent) (space addr n : Nat) (r : Run) : Run :=
  if reaches a b space then latched (byteOf t a space) space addr n r else r

/-- No context but that of `a` differs, except in the success of a monitor that watches the bytes stored. -/
def OthersLatched (s t : State) (a : Agent) (space addr n : Nat) : Prop :=
  ∀ b, b ≠ a → t.strandOf b = { s.strandOf b with run := runAfter t a b space addr n (s.strandOf b).run }

/-- The first entry of the queue of `a` has left it; of the contexts nothing else differs but monitors (R146, R168). -/
def Performed (s t : State) (a : Agent) (rest : List StoreEntry) (space addr n : Nat) : Prop :=
  t.cur = s.cur ∧ OthersLatched s t a space addr n ∧
    t.strandOf a =
      { s.strandOf a with storeq := rest, run := runAfter t a a space addr n (s.strandOf a).run }

/-- Outside memory and contexts nothing differs: of core c, if any, the L1 may. -/
def OnlyMemory (s t : State) (c : Option Nat) : Prop :=
  t = { s with
    cores := t.cores, porch := t.porch, placed := t.placed, pooled := t.pooled, host := t.host, records := t.records
    l2 := t.l2 } ∧
  (∀ d, t.core d = { s.core d with
    strands := (t.core d).strands, scratch := (t.core d).scratch, l1 := if c = some d then (t.core d).l1 else (s.core d).l1 }) ∧
  ∀ q, t.porchQueue q = { s.porchQueue q with strand := (t.porchQueue q).strand }

/-- No walker has read an entry of these physical lines, so that a store to them removes no mapping (R284). -/
def NotWalked (s : State) (pline : Nat) : Prop := ∀ w ∈ s.walked, w.1 ≠ pline

/-- Byte i of a load of n bytes at pooled address pa by core c (R276): the L1's when it is dirty there, or at .core, under the
canonical address, when the copy has every byte; else the coherent copy's. -/
def loadByte (v : State) (c : Nat) (asid : BitVec 12) (va pa n : Nat) (wide : Bool) (i : Nat) : Byte :=
  match (v.core c).l1Find asid (va / 64) with
  | none => v.peek (.pooled (pa + i))
  | some l =>
    if l.dirty.getLsbD (va % 64 + i) = true ∨ (wide = false ∧ v.canonical (c / 8) asid (va / 64) (pa / 64) = true ∧
        ∀ m < n, l.valid.getLsbD (va % 64 + m) = true) then lineByte l.data (va % 64 + i)
    else v.peek (.pooled (pa + i))

/-- The value of `n` bytes of a cacheable page as agent `a` reads them: a core through its L1, the porch the coherent ones
(R276, R279). -/
def oldPooled (v : State) (a : Agent) (va pa n : Nat) (wide : Bool) : Nat :=
  match coreOf a with
  | some c => leValue (fun i => loadByte v c (BitVec.ofNat 12 (v.asidOf a)) va pa n wide i) 0 n
  | none => leValue (fun x => v.peek (.pooled x)) pa n

/-- The state in which an entry of the queue of `a` is performed: for a RED with .rel, after the release (R155, R277). -/
def ReleasedFor (s : State) (a : Agent) (e : StoreEntry) : State :=
  if e.rel then s.releaseOf a (e.scope != 0) 0xFFFF else s

/-- A .G load of the current strand from a cacheable page, under the state v that its translation leaves (R144, R276). -/
def PooledLoad (s v t : State) (len : Nat) (d : BitVec 5) (va pa n : Nat) (wide : Bool) : Prop :=
  SameBytes v t ∧ OnlyMemory v t (some s.myCore) ∧ (∀ b, b ≠ s.cur → t.strandOf b = v.strandOf b) ∧
    Loaded v t len d (leValue (fun i => loadByte v s.myCore (BitVec.ofNat 12 (s.asidOf s.cur)) va pa n wide i) 0 n)

/-- The translation of an access of the current strand, in an address space in which no device register lies at it. -/
def Maps (s v : State) (va n : Nat) (store : Bool) (pa pol : Nat) : Prop :=
  (s.asidOf s.cur ≠ 0 ∨ s.registerBytes va n = none) ∧ s.isPorch = false ∧
    s.translate (s.asidOf s.cur) va n store true = (.ok pa pol, v)

/-- The bytes of an L1 line that leave it for the coherent copy; every other byte is as before (R276, R277). -/
def WrittenBack (s t : State) (gone : List L1Line) : Prop :=
  (∀ l ∈ gone, ∀ i < 64, l.dirty.getLsbD i = true → t.peek (.pooled (l.pline * 64 + i)) = lineByte l.data i) ∧
    ∀ b, (∀ l ∈ gone, ∀ i < 64, l.dirty.getLsbD i = true → b ≠ .pooled (l.pline * 64 + i)) → t.peek b = s.peek b

end Sys2Proof.Machine

/-- R5, R134, R138, R141, R143, R147, R370: the loads of the scratchpad, of placed memory, of the record store and of host
memory, with no store queued and no unreadable row: x[d] gets the bytes at the address, zero-extended, and nothing else
differs; from the bytes of a store held in the queue it gets the held value. A .F load leaves as a read request and the
strand goes on, x[d] awaiting the answer (R360); that the request’s payload is as many zero bytes as the load has is the
model’s choice (log 12). No load of the fabric that the access must follow is under way. Where the spec leaves a point open,
the model’s choice is stated: log 9, 12, 64, 74, 75. -/
def Obligations.PlainLoads : Prop :=
  (∀ e ∈ shortLoads, e.2 ≠ 2 → ∀ (f : FM) (s : State), Issues s 1 (s.guard4 f.g) [f.d, f.a] → s.me.storeq = [] →
    s.bad = [] → s.checkAccess s.cur e.2 (shortAddr s f) (2 ^ f.sz.toNat) false (accessClass s f.xc f.cls) = none →
    s.me.loadWaits (accessClass s f.xc f.cls) e.2 (shortAddr s f) (2 ^ f.sz.toNat) = false →
    ∃ t, exec (e.1 f) s = .next t ∧ OnlyMe s t ∧
      Loaded s t 1 f.d (leValue (plainByte s e.2) (shortAddr s f) (2 ^ f.sz.toNat))) ∧
  (∀ e ∈ shortLoads, e.2 ≠ 2 → ∀ (f : FM) (s : State) (h : StoreEntry), Issues s 1 (s.guard4 f.g) [f.d, f.a] →
    s.me.storeq = [h] → h.kind = .store → h.space.toNat = e.2 → h.addr = shortAddr s f → h.size = 2 ^ f.sz.toNat →
    h.keep = 2 ^ h.size - 1 → h.data < 2 ^ (8 * h.size) → h.fault ≠ none → s.bad = [] →
    s.checkAccess s.cur e.2 (shortAddr s f) (2 ^ f.sz.toNat) false (accessClass s f.xc f.cls) = none →
    s.me.loadWaits (accessClass s f.xc f.cls) e.2 (shortAddr s f) (2 ^ f.sz.toNat) = false →
    ∃ t, exec (e.1 f) s = .next t ∧ OnlyMe s t ∧ Loaded s t 1 f.d h.data) ∧
  (∀ (f : FML) (s : State), f.space = 0 ∨ f.space = 1 ∨ f.space = 5 → Issues s 2 (s.guard7 f.g) [f.d, f.a] →
    s.me.storeq = [] → s.bad = [] →
    s.checkAccess s.cur f.space.toNat (longAddr s f) (2 ^ f.sz.toNat) false (accessClass s f.xc f.cls) = none →
    s.me.loadWaits (accessClass s f.xc f.cls) f.space.toNat (longAddr s f) (2 ^ f.sz.toNat) = false →
    (∃ t, exec (.ld f) s = .next t ∧ OnlyMe s t ∧
      Loaded s t 2 f.d (leValue (plainByte s f.space.toNat) (longAddr s f) (2 ^ f.sz.toNat))) ∧
    (∃ t, exec (.lda f) s = .next t ∧ OnlyMe (s.acquire (f.scope != 0)) t ∧
      Loaded s t 2 f.d (leValue (plainByte s f.space.toNat) (longAddr s f) (2 ^ f.sz.toNat)))) ∧
  (∀ (f : FML) (s : State) (w : HostOut), f.space = 3 → Issues s 2 (s.guard7 f.g) [f.d, f.a] → s.me.storeq = [] →
    s.checkAccess s.cur 3 (longAddr s f) (2 ^ f.sz.toNat) false (accessClass s f.xc f.cls) = none →
    s.hostWindow (longAddr s f) (2 ^ f.sz.toNat) = some w →
    s.me.loadWaits (accessClass s f.xc f.cls) 3 (longAddr s f) (2 ^ f.sz.toNat) = false →
    let v := leValue (fun x => s.peek (.host x)) (w.target + (longAddr s f - w.hbase)) (2 ^ f.sz.toNat)
    (∃ t, exec (.ld f) s = .next t ∧ OnlyMe s t ∧ Loaded s t 2 f.d v) ∧
    (∃ t, exec (.lda f) s = .next t ∧ OnlyMe (s.acquire true) t ∧ Loaded s t 2 f.d v)) ∧
  (∀ (f : FML) (s : State), f.space = 4 → Issues s 2 (s.guard7 f.g) [f.d, f.a] → s.me.storeq = [] →
    s.checkAccess s.cur 4 (longAddr s f) (2 ^ f.sz.toNat) false (accessClass s f.xc f.cls) = none → s.canInject 1 = true →
    s.me.loadWaits (accessClass s f.xc f.cls) 4 (longAddr s f) (2 ^ f.sz.toNat) = false →
    ∀ e ∈ [(Instr.ld, false), (.lda, true)],
    let u := s.request (fPkg (longAddr s f)) 1 2 0 (accessClass s f.xc f.cls).toNat (fWin (longAddr s f)) (fOff (longAddr s f))
      (List.replicate (2 ^ f.sz.toNat) 0) (.load s.cur) (longAddr s f)
    ∃ t, exec (e.1 f) s = .next t ∧
      Departed s u t 2 (some s.fabric.nextId) 4 f.d (longAddr s f) (2 ^ f.sz.toNat) (accessClass s f.xc f.cls) true e.2) ∧
  (∀ e ∈ shortLoads, ∀ (f : FM) (s : State), Issues s 1 (s.guard4 f.g) [f.d, f.a] → s.drain s.cur = s →
    s.checkAccess s.cur e.2 (shortAddr s f) (2 ^ f.sz.toNat) false (accessClass s f.xc f.cls) = none →
    s.me.loadWaits (accessClass s f.xc f.cls) e.2 (shortAddr s f) (2 ^ f.sz.toNat) = true →
    ∃ t, exec (e.1 f) s = .next t ∧ Departed s s t 1 none (BitVec.ofNat 3 e.2) f.d (shortAddr s f) (2 ^ f.sz.toNat)
      (accessClass s f.xc f.cls) false false) ∧
  (∀ (f : FML) (s : State), Issues s 2 (s.guard7 f.g) [f.d, f.a] → s.drain s.cur = s →
    s.checkAccess s.cur f.space.toNat (longAddr s f) (2 ^ f.sz.toNat) false (accessClass s f.xc f.cls) = none →
    s.me.loadWaits (accessClass s f.xc f.cls) f.space.toNat (longAddr s f) (2 ^ f.sz.toNat) = true ∨
      (f.space = 4 ∧ s.canInject 1 = false) →
    ∀ e ∈ [(Instr.ld, false), (.lda, true)], ∃ t, exec (e.1 f) s = .next t ∧
      Departed s s t 2 none f.space f.d (longAddr s f) (2 ^ f.sz.toNat) (accessClass s f.xc f.cls)
        (longScope f.space f.scope != 0) e.2) ∧
  (∀ (m : Strand) (cls : BitVec 4) (space addr n : Nat), m.loadWaits cls space addr n = true ↔
    (∃ g ∈ m.far, g.acquire = true ∨ ¬ (space = 4 ∧ g.space = 4 ∧ g.id ≠ none ∧ fPkg g.addr = fPkg addr) ∧
      (g.cls = cls ∨ g.space.toNat = space ∧ g.addr < addr + n ∧ addr < g.addr + g.size)) ∨
    ∃ i e, m.storeq[i]? = some e ∧ (e.cls = cls ∨ e.space.toNat = space ∧ e.addr < addr + n ∧ addr < e.addr + e.size) ∧
      m.stuck i = false) ∧
  (∀ (m : Strand) (i : Nat) (e : StoreEntry), m.storeq[i]? = some e → (m.stuck i = true ↔
    e.fault ≠ none ∨ ∃ j < i, ∃ g, m.storeq[j]? = some g ∧ m.stuck j = true ∧
      (e.rel = true ∨ g.cls = e.cls ∨ g.space = e.space ∧ g.addr < e.addr + e.size ∧ e.addr < g.addr + g.size)))

/-- R144, R276, R286: LD.G, LD and LDA of pooled memory by a strand, with no store queued and no unreadable row: x[d] gets
the bytes of the L1 that are dirty, or at .core those of a valid copy, else the coherent ones at the translated address; of
an uncached page it gets those of memory. No byte of memory differs from what translation left. A .core load that finds no
copy leaves one in the L1, wholly valid and clean; LDA then drops the clean bytes (R277). Where the spec leaves a point
open, the model’s choice is stated: log 9, 64. -/
def Obligations.PooledLoads : Prop :=
  (∀ (f : FM) (s v : State) (pa pol : Nat), Issues s 1 (s.guard4 f.g) [f.d, f.a] → s.me.storeq = [] → s.bad = [] →
    s.checkAccess s.cur 2 (shortAddr s f) (2 ^ f.sz.toNat) false (accessClass s f.xc f.cls) = none →
    s.me.loadWaits (accessClass s f.xc f.cls) 2 (shortAddr s f) (2 ^ f.sz.toNat) = false →
    Maps s v (shortAddr s f) (2 ^ f.sz.toNat) false pa pol → (v.successor 1).isSome = true →
    ∃ t, exec (.ldG f) s = .next t ∧
      (pol = 0 → shortAddr s f % 64 = pa % 64 →
        PooledLoad s v t 1 f.d (shortAddr s f) pa (2 ^ f.sz.toNat) false ∧
        ((v.core s.myCore).l1Find (BitVec.ofNat 12 (s.asidOf s.cur)) (shortAddr s f / 64) = none →
          v.canonical (s.myCore / 8) (BitVec.ofNat 12 (s.asidOf s.cur)) (shortAddr s f / 64) (pa / 64) = true →
          ∃ l, (t.core s.myCore).l1Find (BitVec.ofNat 12 (s.asidOf s.cur)) (shortAddr s f / 64) = some l ∧
            l.pline = pa / 64 ∧ l.valid = BitVec.allOnes 64 ∧ l.dirty = 0 ∧
            ∀ i < 64, lineByte l.data i = v.peek (.pooled (pa / 64 * 64 + i)))) ∧
      (pol = 1 → SameBytes v t ∧ OnlyMemory v t (some s.myCore) ∧ Loaded v t 1 f.d (bytesAt v.pooled pa (2 ^ f.sz.toNat)))) ∧
  (∀ (f : FML) (s v : State) (pa pol : Nat), f.space = 2 → Issues s 2 (s.guard7 f.g) [f.d, f.a] → s.me.storeq = [] →
    s.bad = [] → s.checkAccess s.cur 2 (longAddr s f) (2 ^ f.sz.toNat) false (accessClass s f.xc f.cls) = none →
    s.me.loadWaits (accessClass s f.xc f.cls) 2 (longAddr s f) (2 ^ f.sz.toNat) = false →
    Maps s v (longAddr s f) (2 ^ f.sz.toNat) false pa pol → (v.successor 2).isSome = true →
    ∀ e ∈ [(Instr.ld, false), (.lda, true)], ∃ t, exec (e.1 f) s = .next t ∧
      (pol = 0 → longAddr s f % 64 = pa % 64 →
        PooledLoad s v t 2 f.d (longAddr s f) pa (2 ^ f.sz.toNat) (f.scope != 0)) ∧
      (pol = 1 → SameBytes v t ∧ OnlyMemory v t (some s.myCore) ∧ Loaded v t 2 f.d (bytesAt v.pooled pa (2 ^ f.sz.toNat))) ∧
      (e.2 = true → f.scope ≠ 0 → ∀ l ∈ (t.core s.myCore).l1, l.valid = l.dirty))

/-- R141, R146: every store with room in the store queue enters it with its address, its low bytes, its class and scope;
memory and registers stay as they are. STL performs its release first, with no load under way. R134, R144, R146, R154, R168,
R274, R276, R345, R360, R370: the first entry of an agent's store queue is performed. A store or a RED to the scratchpad, to
placed memory, to host memory or to the user area of the record store: its bytes take the data, or the operation's value on
the old one; the entry leaves the queue; of the contexts only the monitors that watch the bytes can differ, and no other
byte. To pooled memory at .die or wider, or by the porch: the coherent bytes take it, and an L1 copy is updated. At .core
under the canonical address: the L1 takes it, dirty, and no coherent byte differs. A fabric store leaves as a write, a
fabric RED as an atomic request. A host write without a writable window keeps the entry with its fault; an unreadable placed
row too. A RED with .rel first writes the dirty bytes of the L1 back, at .die or wider. An entry behind one of its class or
of its bytes, or behind a load under way that comes before it, a RED with .rel behind any, and any entry of a fenced core,
stays. Where the spec leaves a point open, the model’s choice is stated: log 64, 66. -/
def Obligations.Stores : Prop :=
  ((∀ e ∈ shortStores, ∀ (f : FM) (s : State), Issues s 1 (s.guard4 f.g) [f.d, f.a] → s.me.storeq.length < 32 →
     s.checkAccess s.cur e.2 (shortAddr s f) (2 ^ f.sz.toNat) true (accessClass s f.xc f.cls) = none →
     ∃ t, exec (e.1 f) s = .next t ∧ Queued s t 1
       (storeOf (BitVec.ofNat 3 e.2) (shortAddr s f) (2 ^ f.sz.toNat) (s.rx f.d) (accessClass s f.xc f.cls) 0)) ∧
   (∀ (f : FML) (s : State), Issues s 2 (s.guard7 f.g) [f.d, f.a] → s.me.storeq.length < 32 →
     s.checkAccess s.cur f.space.toNat (longAddr s f) (2 ^ f.sz.toNat) true (accessClass s f.xc f.cls) = none →
     ∃ t, exec (.st f) s = .next t ∧ Queued s t 2
       (storeOf f.space (longAddr s f) (2 ^ f.sz.toNat) (s.rx f.d) (accessClass s f.xc f.cls) (longScope f.space f.scope))) ∧
   (∀ (f : FML) (s : State), Ready s (s.guard7 f.g) [f.d, f.a] → s.me.storeq = [] → s.me.far = [] →
     ((s.releaseL1 (longScope f.space f.scope != 0) 0xFFFF).successor 2).isSome = true →
     s.checkAccess s.cur f.space.toNat (longAddr s f) (2 ^ f.sz.toNat) true (accessClass s f.xc f.cls) = none →
     ∃ t, exec (.stl f) s = .next t ∧ Queued (s.releaseL1 (longScope f.space f.scope != 0) 0xFFFF) t 2
       (storeOf f.space (longAddr s f) (2 ^ f.sz.toNat) (s.rx f.d) (accessClass s f.xc f.cls) (longScope f.space f.scope)))) ∧
  ((∀ (a : Agent) (s₀ : State) (e : StoreEntry) (rest : List StoreEntry),
     let s := ReleasedFor s₀ a e
     (s₀.strandOf a).storeq = e :: rest → e.keep = 2 ^ e.size - 1 → e.data < 2 ^ (8 * e.size) → e.fault = none → e.sent = none →
     s₀.fencedOff a = false → NoneFirst s₀ a e → e.size ≤ 8 → s₀.bad = [] →
     ∀ new, (e.kind = .store ∧ new = e.data ∨
       ∃ op < 16, ∃ g, atomicForms[op]? = some g ∧ e.kind = .atomic (BitVec.ofNat 4 op) ∧ e.space ≠ 5 ∧ e.space ≠ 3 ∧
         new = g.2.2 (8 * e.size) (leValue (byteOf s a e.space.toNat) e.addr e.size) e.data % 2 ^ (8 * e.size)) →
     (e.space = 0 ∧ (coreOf a).isSome = true ∨ e.space = 1 ∨
         e.space = 5 ∧ 0xE0 ≤ e.addr % 256 ∧ e.addr % 256 + e.size ≤ 256 →
       ∃ t, exec (.storePerform a 0) s₀ = .next t ∧ StoredBytes s t a e.space.toNat e.addr e.size new ∧
         Performed s t a rest e.space.toNat e.addr e.size ∧ OnlyMemory s t none) ∧
     (∀ w, e.space = 3 → s.hostWindow e.addr e.size = some w → w.writable = true →
       ∃ t, exec (.storePerform a 0) s₀ = .next t ∧
         StoredBytes s t a 3 (w.target + (e.addr - w.hbase)) e.size new ∧
         Performed s t a rest 3 e.addr e.size ∧ OnlyMemory s t none)) ∧
   (∀ (a : Agent) (s₀ u v : State) (e : StoreEntry) (rest : List StoreEntry) (pa new : Nat),
     let s := ReleasedFor s₀ a e
     (s₀.strandOf a).storeq = e :: rest → e.space = 2 → e.keep = 2 ^ e.size - 1 → e.data < 2 ^ (8 * e.size) →
     e.fault = none → e.sent = none → s₀.fencedOff a = false → NoneFirst s₀ a e → e.size ≤ 8 → s₀.bad = [] →
     (∀ z ∈ [s, u], z.asidOf a ≠ 0 ∨ z.registerBytes e.addr e.size = none) →
     (e.kind = .store ∧ u = s ∧ new = e.data ∨
       ∃ op < 16, ∃ g r, atomicForms[op]? = some g ∧ e.kind = .atomic (BitVec.ofNat 4 op) ∧
         s.translate (s.asidOf a) e.addr e.size false (coreOf a).isSome = (.ok pa 0, r) ∧
         u = (s.readSpace a 2 e.addr e.size (e.scope != 0)).2 ∧
         new = g.2.2 (8 * e.size) (oldPooled r a e.addr pa e.size (e.scope != 0)) e.data % 2 ^ (8 * e.size)) →
     u.translate (u.asidOf a) e.addr e.size true (coreOf a).isSome = (.ok pa 0, v) → NotWalked v (pa / 64) →
     v.roKeep pa e.size = 2 ^ e.size - 1 → v.qstatValue pa e.size new = new → v.blockValue pa new e.size = new →
     e.addr % 64 = pa % 64 → e.addr % 64 + e.size ≤ 64 →
     let c := (coreOf a).getD 0
     let asid := BitVec.ofNat 12 (s.asidOf a)
     let canon := v.canonical (c / 8) asid (e.addr / 64) (pa / 64)
     let inside (i : Nat) : Bool := decide (e.addr % 64 ≤ i) && decide (i < e.addr % 64 + e.size)
     (e.scope ≠ 0 ∨ coreOf a = none ∨ canon = false →
       ∃ t, exec (.storePerform a 0) s₀ = .next t ∧ StoredBytes v t a 2 pa e.size new ∧ Performed v t a rest 2 pa e.size ∧
         OnlyMemory v t (coreOf a) ∧
         ((coreOf a).isSome = true → ∀ l, (v.core c).l1Find asid (e.addr / 64) = some l → l.valid ≠ 0 →
           ∃ l', (t.core c).l1Find asid (e.addr / 64) = some l' ∧ ∀ i < 64,
             l'.dirty.getLsbD i = (l.dirty.getLsbD i && !inside i) ∧
             lineByte l'.data i = if inside i then t.peek (.pooled (pa / 64 * 64 + i)) else lineByte l.data i)) ∧
     (e.scope = 0 → (coreOf a).isSome = true → canon = true →
       ∃ t l', exec (.storePerform a 0) s₀ = .next t ∧ SameBytes v t ∧ OnlyMemory v t (coreOf a) ∧ t.cur = s.cur ∧
         (∀ b, b ≠ a → t.strandOf b = v.strandOf b) ∧ t.strandOf a = { v.strandOf a with storeq := rest } ∧
         (t.core c).l1Find asid (e.addr / 64) = some l' ∧ l'.classes.getLsbD e.cls.toNat = true ∧
         (∀ i < e.size, lineByte l'.data (e.addr % 64 + i) = BitVec.ofNat 8 (new / 2 ^ (8 * i))) ∧
         ∀ i < 64, inside i = true → l'.dirty.getLsbD i = true ∧ l'.valid.getLsbD i = true)) ∧
   (∀ (a : Agent) (s₀ : State) (e : StoreEntry) (rest : List StoreEntry),
     let s := ReleasedFor s₀ a e
     (s₀.strandOf a).storeq = e :: rest → e.space = 4 → e.fault = none → e.sent = none → s₀.fencedOff a = false →
     NoneFirst s₀ a e → s₀.canInject 1 = true →
     ∀ k aux, (e.kind = .store ∧ k = 0 ∧ aux = 0 ∨ ∃ op : BitVec 4, e.kind = .atomic op ∧ k = 4 ∧ aux = op.toNat) →
     let u := s.request (fPkg e.addr) 1 k aux e.cls.toNat (fWin e.addr) (fOff e.addr) (toBytes e.size e.data) (.store a) e.addr
     exec (.storePerform a 0) s₀ = .next (u.setStoreq a ({ e with sent := some s.fabric.nextId } :: rest))) ∧
   (∀ (a : Agent) (s₀ : State) (e : StoreEntry) (rest : List StoreEntry),
     let s := ReleasedFor s₀ a e
     (s₀.strandOf a).storeq = e :: rest → (e.kind = .store ∨ ∃ op, e.kind = .atomic op) →
     e.fault = none → e.sent = none → s₀.fencedOff a = false → NoneFirst s₀ a e →
     (e.space = 3 → s.hostWindow e.addr e.size = none →
       exec (.storePerform a 0) s₀ = .next (s.setStoreq a ({ e with fault := some 0x06 } :: rest))) ∧
     (∀ w, e.space = 3 → s.hostWindow e.addr e.size = some w → w.writable = false →
       exec (.storePerform a 0) s₀ = .next (s.setStoreq a ({ e with fault := some 0x07 } :: rest))) ∧
     (e.space = 1 → s.badPlaced (e.addr / 2 ^ 27) (e.addr % 2 ^ 27) e.size = true →
       exec (.storePerform a 0) s₀ = .next ((s.poison e.addr e.size).setStoreq a ({ e with fault := some 0x0D } :: rest)))) ∧
   (∀ (a : Agent) (n : BitVec 5) (s : State) (e : StoreEntry), (s.strandOf a).storeq[n.toNat]? = some e →
     (e.fault ≠ none ∨ e.sent ≠ none ∨ s.fencedOff a = true ∨ (∃ f ∈ (s.strandOf a).far, LoadFirst f e) ∨ ∃ i < n.toNat, ∃ f, (s.strandOf a).storeq[i]? = some f ∧
       (e.rel = true ∨ f.cls = e.cls ∨ f.space = e.space ∧ f.addr < e.addr + e.size ∧ e.addr < f.addr + f.size)) →
     exec (.storePerform a n) s = .next s))

/-- R134, R153–R156: an AMO or CAS with no store queued. On the scratchpad, placed memory and pooled memory it returns the
old value zero-extended in x[d] and stores the operation's value; CAS stores x[b] only when the old value is x[c]. Of the
other contexts only the monitors that watch the bytes can differ, and no other byte. Pooled memory at .die or wider: the
coherent bytes; at .core under the canonical address: those of the L1, which hold the new value dirty. .rel first writes the
L1's dirty bytes back, .acq at last drops its clean ones. On .F it leaves as an atomic request and the strand goes on. No
load of the fabric that it must follow is under way. R146, R154, R155: a RED enters the store queue with its function and
operand, and its .rel with it; the element number of the function is its place in the table of R153. It holds the strand no
longer. Where the spec leaves a point open, the model’s choice is stated: log 12, 74, 93. -/
def Obligations.AtomicsAndReductions : Prop :=
  ((∀ (i : FAT → Instr) (f : FAT) (s : State) (new : Nat → Option Nat) (op : Nat) (operand : List Byte),
     let n := 2 ^ f.sz.toNat
     let b := (s.rx f.b).toNat % 2 ^ (8 * n)
     let x := (s.rx f.c).toNat % 2 ^ (8 * n)
     ((∃ e, atomicForms[op]? = some e ∧ i = e.1 ∧ new = (fun old => some (e.2.2 (8 * n) old b % 2 ^ (8 * n))) ∧
         operand = toBytes n b ∧ Ready s (s.guard7 f.g) [f.d, f.a, f.b]) ∨
       i = .cas ∧ op = 16 ∧ new = (fun old => if old = x then some b else none) ∧ operand = toBytes n x ++ toBytes n b ∧
         Ready s (s.guard7 f.g) [f.d, f.a, f.b, f.c]) →
     s.me.storeq = [] → s.me.run = .ready → s.bad = [] →
     s.checkAccess s.cur f.space.toNat (s.rx f.a).toNat n true (accessClass s f.xc f.cls) = none →
     s.farWaits (accessClass s f.xc f.cls) f.space.toNat (s.rx f.a).toNat n = false → (f.ord = 2 → s.me.far = []) →
     let wide := longScope f.space f.scope != 0
     let u := if f.ord = 2 then s.releaseL1 wide 0xFFFF else s
     let ended (v : State) : State := if f.ord = 1 then v.acquire wide else v
     let addr := (s.rx f.a).toNat
     (f.space = 0 ∧ s.isPorch = false ∨ f.space = 1 → (u.successor 2).isSome = true →
       let old := leValue (byteOf s s.cur f.space.toNat) addr n
       ∃ t, exec (i f) s = .next t ∧ Loaded u t 2 f.d old ∧ StoredBytes u t s.cur f.space.toNat addr n ((new old).getD old) ∧
         OnlyMemory (ended u) t none ∧ ((new old).isSome = true → OthersLatched u t s.cur f.space.toNat addr n) ∧
         (new old = none → OnlyMe (ended u) t)) ∧
     (∀ v pa, f.space = 2 → Maps u v addr n true pa 0 → NotWalked v (pa / 64) → v.roKeep pa n = 2 ^ n - 1 →
       (∀ y, v.blockValue pa y n = y % 2 ^ (8 * n)) → (∀ y, v.qstatValue pa n y = y % 2 ^ (8 * n)) → addr % 64 = pa % 64 → (v.successor 2).isSome = true →
       (v.core s.myCore).l1Find (BitVec.ofNat 12 (s.asidOf s.cur)) (addr / 64) = none →
       let old := leValue (fun a => v.peek (.pooled a)) pa n
       (wide = true → ∃ t, exec (i f) s = .next t ∧ Loaded v t 2 f.d old ∧
         StoredBytes v t s.cur 2 pa n ((new old).getD old) ∧ OnlyMemory v t (some s.myCore) ∧
         (f.ord ≠ 1 → (t.core s.myCore).l1 = (v.core s.myCore).l1) ∧
         ((new old).isSome = true → OthersLatched v t s.cur 2 pa n) ∧
         (new old = none → ∀ b, b ≠ s.cur → t.strandOf b = v.strandOf b)) ∧
       (wide = false → v.canonical (s.myCore / 8) (BitVec.ofNat 12 (s.asidOf s.cur)) (addr / 64) (pa / 64) = true →
         ∃ t l, exec (i f) s = .next t ∧ Loaded v t 2 f.d old ∧ SameBytes v t ∧ OnlyMemory v t (some s.myCore) ∧
           (∀ b, b ≠ s.cur → t.strandOf b = v.strandOf b) ∧
           (t.core s.myCore).l1Find (BitVec.ofNat 12 (s.asidOf s.cur)) (addr / 64) = some l ∧
           leValue (lineByte l.data) (addr % 64) n = (new old).getD old ∧
           ∀ j < n, l.dirty.getLsbD (addr % 64 + j) = (new old).isSome)) ∧
     (f.space = 4 → u.canInject 1 = true → (u.successor 2).isSome = true →
       let w := u.request (fPkg addr) 1 4 op (accessClass s f.xc f.cls).toNat (fWin addr) (fOff addr) operand
         (.load s.cur) addr
       ∃ t, exec (i f) s = .next t ∧
         Departed u w t 2 (some u.fabric.nextId) 4 f.d addr n (accessClass s f.xc f.cls) true (f.ord == 1)))) ∧
  (∀ op < 16, ∀ e, atomicForms[op]? = some e → ∀ (f : FAT) (s : State),
     Issues s 2 (s.guard7 f.g) [f.a, f.b] → s.me.storeq.length < 32 →
     s.checkAccess s.cur f.space.toNat (s.rx f.a).toNat (2 ^ f.sz.toNat) true (accessClass s f.xc f.cls) = none →
     ∃ t, exec (e.2.1 f) s = .next t ∧ Queued s t 2
       ⟨.atomic (BitVec.ofNat 4 op), f.space, (s.rx f.a).toNat, 2 ^ f.sz.toNat, (s.rx f.b).toNat % 2 ^ (8 * 2 ^ f.sz.toNat),
         2 ^ 2 ^ f.sz.toNat - 1, accessClass s f.xc f.cls, longScope f.space f.scope, none, none, none, false, f.ord == 2, 0⟩)

/-- R142, R145: the checks of an access, in their order, are precise faults with the address: a misaligned address 0x05, one
beyond the space 0x06; a scratchpad store to the reserved top 0x07, an absent place 0x0F; an unreadable row 0x0D. R169–R171:
the cache operations enter the store queue with their number, in the class of the cls register; the prefetches of an address
that .G does not have do nothing; a line form of a misaligned address is fault 0x05, a range above 2^30 fault 0x02.
Performed on a dirty line, CCLEAN.core writes its dirty bytes to the coherent copy and keeps it clean, CFLUSH.core removes
it too, CINV.core discards it; at .die or wider the same with the L2's line and memory, which takes the L1's dirty bytes
also where no L2 held the line. A dirty line that may not be written keeps the operation with its fault, as does a page of a
CINV that is not there or may not be written; a clean or flush without a dirty line there is done without a translation.
Where the spec leaves a point open, the model’s choice is stated: log 11, 66. -/
def Obligations.AccessFaultsAndCaches : Prop :=
  ((∀ e ∈ shortLoads, ∀ (f : FM) (s : State), Issues s 1 (s.guard4 f.g) [f.d, f.a] →
     shortAddr s f % 2 ^ f.sz.toNat ≠ 0 →
     exec (e.1 f) s = .next (s.faulted (raiseAt 0x05 (shortAddr s f) (accessClass s f.xc f.cls)))) ∧
   (∀ e ∈ shortStores, ∀ (f : FM) (s : State), Issues s 1 (s.guard4 f.g) [f.d, f.a] →
     shortAddr s f % 2 ^ f.sz.toNat ≠ 0 →
     exec (e.1 f) s = .next (s.faulted (raiseAt 0x05 (shortAddr s f) (accessClass s f.xc f.cls)))) ∧
   (∀ (f : FM) (s : State), Issues s 1 (s.guard4 f.g) [f.d, f.a] → shortAddr s f % 2 ^ f.sz.toNat = 0 →
     (0x300000 ≤ shortAddr s f →
       exec (.ldS f) s = .next (s.faulted (raiseAt 0x06 (shortAddr s f) (accessClass s f.xc f.cls)))) ∧
     (0x2FE000 ≤ shortAddr s f → shortAddr s f < 0x300000 →
       exec (.stS f) s = .next (s.faulted (raiseAt 0x07 (shortAddr s f) (accessClass s f.xc f.cls)))) ∧
     (2 ^ 52 ≤ shortAddr s f →
       exec (.ldG f) s = .next (s.faulted (raiseAt 0x06 (shortAddr s f) (accessClass s f.xc f.cls)))) ∧
     (2 ^ 20 ≤ shortAddr s f →
       exec (.ldQ f) s = .next (s.faulted (raiseAt 0x06 (shortAddr s f) (accessClass s f.xc f.cls)))) ∧
     (shortAddr s f < 2 ^ 40 → shortAddr s f % 2 ^ 27 < s.placedBytes → s.present (shortAddr s f / 2 ^ 27) = false →
       exec (.ldW f) s = .next (s.faulted (raiseAt 0x0F (shortAddr s f) (accessClass s f.xc f.cls)))) ∧
     (s.me.storeq = [] → s.me.loadWaits (accessClass s f.xc f.cls) 1 (shortAddr s f) (2 ^ f.sz.toNat) = false →
       s.checkAccess s.cur 1 (shortAddr s f) (2 ^ f.sz.toNat) false (accessClass s f.xc f.cls) = none →
       s.badPlaced (shortAddr s f / 2 ^ 27) (shortAddr s f % 2 ^ 27) (2 ^ f.sz.toNat) = true →
       exec (.ldW f) s = .next ((s.poison (shortAddr s f) (2 ^ f.sz.toNat)).faulted
         (raiseAt 0x0D (shortAddr s f) (accessClass s f.xc f.cls)))))) ∧
  ((∀ e ∈ [(Instr.cpref, 6), (.cprefw, 7)], ∀ (f : FSY) (s : State), Issues s 2 (s.guard7 f.g) [f.a] → s.isPorch = false →
     (2 ^ 52 ≤ (s.rx f.a).toNat → ∃ t, exec (e.1 f) s = .next t ∧ Passed s t 2) ∧
     ((s.rx f.a).toNat < 2 ^ 52 → s.me.storeq.length < 32 →
       ∃ t, exec (e.1 f) s = .next t ∧ Queued s t 2
       ⟨.cache (BitVec.ofNat 4 e.2) 1, 2, (s.rx f.a).toNat, 1, 0, 0, s.me.cls, f.imm.setWidth 2, none, none, none, false, false, 0⟩)) ∧
   (∀ e ∈ [(Instr.cclean, 8), (.cflush, 9), (.cinv, 10)], ∀ (f : FSY) (s : State), Issues s 2 (s.guard7 f.g) [f.a] →
     s.isPorch = false →
     ((s.rx f.a).toNat % 64 ≠ 0 → exec (e.1 f) s = .next (s.faulted (raiseAt 0x05 (s.rx f.a).toNat s.me.cls))) ∧
     ((s.rx f.a).toNat % 64 = 0 → (s.rx f.a).toNat < 2 ^ 52 → s.me.storeq.length < 32 →
       ∃ t, exec (e.1 f) s = .next t ∧ Queued s t 2
         ⟨.cache (BitVec.ofNat 4 e.2) 64, 2, (s.rx f.a).toNat, 64, 0, 0, s.me.cls, f.imm.setWidth 2, none, none, none, false, false, 0⟩)) ∧
   (∀ e ∈ [(Instr.ccleanr, 11), (.cflushr, 12), (.cinvr, 13)], ∀ (f : FSY) (s : State),
     Issues s 2 (s.guard7 f.g) [f.a, f.b] → s.isPorch = false →
     (2 ^ 30 < (s.rx f.b).toNat → exec (e.1 f) s = .next (s.faulted (raise 0x02))) ∧
     ((s.rx f.b).toNat ≤ 2 ^ 30 → (s.rx f.a).toNat + (s.rx f.b).toNat ≤ 2 ^ 52 → s.me.storeq.length < 32 →
       ∃ t, exec (e.1 f) s = .next t ∧ Queued s t 2 ⟨.cache (BitVec.ofNat 4 e.2) (s.rx f.b).toNat, 2, (s.rx f.a).toNat,
         (s.rx f.b).toNat, 0, 0, s.me.cls, f.imm.setWidth 2, none, none, none, false, false, 0⟩)) ∧
   (∀ e ∈ [(Instr.ccleana, 14), (.cflusha, 15)], ∀ (f : FSY) (s : State), Issues s 2 (s.guard7 f.g) [] →
     s.me.storeq.length < 32 → ∃ t, exec (e.1 f) s = .next t ∧ Queued s t 2
       ⟨.cache (BitVec.ofNat 4 e.2) 0, 2, 0, 0, 0, 0, s.me.cls, f.imm.setWidth 2, none, none, none, false, false, 0⟩) ∧
   (∀ (c : CoreId) (k : StrandId) (s u : State) (e : StoreEntry) (rest : List StoreEntry) (fn : Nat) (l : L1Line),
     let a := Agent.strand c k
     let asid := BitVec.ofNat 12 (s.asidOf a)
     (s.strandOf a).storeq = e :: rest → fn = 8 ∨ fn = 9 ∨ fn = 10 → e.kind = .cache (BitVec.ofNat 4 fn) 64 → e.space = 2 →
     e.addr % 64 = 0 → e.fault = none → e.sent = none → e.rel = false → e.scope = 0 → s.fencedOff a = false → NoneFirst s a e →
     (s.core c.toNat).l1Find asid (e.addr / 64) = some l → l.dirty ≠ 0 →
     (∀ m ∈ (s.core c.toNat).l1, m.asid = asid → m.vline = e.addr / 64 → m = l) →
     (∃ pa pol, s.walk asid.toNat (if fn = 10 then e.addr / 65536 * 65536 else e.addr) false = (.ok pa pol true, u) ∧
       u.pooledOk pa = true) →
     NotWalked u l.pline → (u.core c.toNat).l1 = (s.core c.toNat).l1 →
     ∃ t, exec (.storePerform a 0) s = .next t ∧ WrittenBack u t (if fn = 10 then [] else [l]) ∧
       OnlyMemory u t (some c.toNat) ∧ (t.strandOf a).storeq = rest ∧
       (∀ b vl, (b ≠ asid ∨ vl ≠ e.addr / 64) → (t.core c.toNat).l1Find b vl = (u.core c.toNat).l1Find b vl) ∧
       (t.core c.toNat).l1Find asid (e.addr / 64) =
         if fn = 8 ∧ l.valid ≠ 0 then some { l with dirty := 0, classes := 0, readBy := 0 } else none) ∧
   (∀ (c : CoreId) (k : StrandId) (s u : State) (e : StoreEntry) (rest : List StoreEntry) (fn ppa pol : Nat) (l : L2Line)
       (h : Holder),
     let a := Agent.strand c k
     let asid := BitVec.ofNat 12 (s.asidOf a)
     let base := e.addr / 65536 * 65536
     (s.strandOf a).storeq = e :: rest → fn = 8 ∨ fn = 9 ∨ fn = 10 → e.kind = .cache (BitVec.ofNat 4 fn) 64 → e.space = 2 →
     e.addr % 64 = 0 → e.fault = none → e.sent = none → e.rel = false → e.scope ≠ 0 → s.fencedOff a = false → NoneFirst s a e →
     (s.core c.toNat).l1 = [] → s.l2 = [l] → l.dirty = true → l.holders = [h] → h.die = c.toNat / 8 → h.asid = asid →
     h.vline = e.addr / 64 →
     (∃ pa q, s.walk asid.toNat (if fn = 10 then base else e.addr) false = (.ok pa q true, u) ∧ u.pooledOk pa = true) → u.l2 = s.l2 →
     (u.translate asid.toNat base 1 false false).1 = .ok ppa pol → l.pline = ppa / 64 + e.addr % 65536 / 64 → ppa % 64 = 0 →
     (u.core c.toNat).l1 = [] →
     ∃ t, exec (.storePerform a 0) s = .next t ∧ OnlyMemory u t none ∧ (t.strandOf a).storeq = rest ∧
       (∀ b, (∀ i < 64, b ≠ .pooled (l.pline * 64 + i)) → t.peek b = u.peek b) ∧
       (∀ i < 64, t.pooled.get 0 (l.pline * 64 + i) = if fn = 10 then u.pooled.get 0 (l.pline * 64 + i) else lineByte l.data i) ∧
       t.l2 = if fn = 8 then [{ l with dirty := false }] else []) ∧
   (∀ (c : CoreId) (k : StrandId) (s u : State) (e : StoreEntry) (rest : List StoreEntry) (fn ppa pol : Nat) (l : L1Line),
     let a := Agent.strand c k
     let asid := BitVec.ofNat 12 (s.asidOf a)
     let base := e.addr / 65536 * 65536
     (s.strandOf a).storeq = e :: rest → fn = 8 ∨ fn = 9 → e.kind = .cache (BitVec.ofNat 4 fn) 64 → e.space = 2 →
     e.addr % 64 = 0 → e.fault = none → e.sent = none → e.rel = false → e.scope ≠ 0 → s.fencedOff a = false → NoneFirst s a e →
     (s.core c.toNat).l1 = [l] → l.asid = asid → l.vline = e.addr / 64 → l.dirty ≠ 0 →
     (∃ pa q, s.walk asid.toNat e.addr false = (.ok pa q true, u) ∧ u.pooledOk pa = true) → (u.core c.toNat).l1 = [l] → u.l2 = [] →
     NotWalked u l.pline → ((u.maintainL1 c.toNat l (fn - 8)).translate asid.toNat base 1 false false).1 = .ok ppa pol →
     l.pline = ppa / 64 + e.addr % 65536 / 64 → ppa % 64 = 0 →
     ∃ t, exec (.storePerform a 0) s = .next t ∧ OnlyMemory u t (some c.toNat) ∧ (t.strandOf a).storeq = rest ∧
       (∀ i < 64, t.pooled.get 0 (l.pline * 64 + i) = if l.dirty.getLsbD i then lineByte l.data i else u.peek (.pooled (l.pline * 64 + i))) ∧
       (fn = 9 → t.l2 = [] ∧ (t.core c.toNat).l1 = [])) ∧
   (∀ (c : CoreId) (k : StrandId) (s : State) (e : StoreEntry) (rest : List StoreEntry) (fn : Nat) (l : L1Line),
     let a := Agent.strand c k
     let asid := BitVec.ofNat 12 (s.asidOf a)
     (s.strandOf a).storeq = e :: rest → fn = 8 ∨ fn = 9 → e.kind = .cache (BitVec.ofNat 4 fn) 64 → e.space = 2 →
     e.addr % 64 = 0 → e.fault = none → e.sent = none → e.rel = false → e.scope = 0 → s.fencedOff a = false → NoneFirst s a e →
     let failed (x : BitVec 8) (u : State) : Prop :=
       exec (.storePerform a 0) s = .next (u.setStoreq a ({ e with fault := some x } :: rest))
     ((s.core c.toNat).l1 = [l] → l.asid = asid → l.vline = e.addr / 64 → l.dirty ≠ 0 →
       (∀ ea u, s.walk asid.toNat e.addr false = (.notPresent ea, u) → u.parkMode asid.toNat = false → failed 0x06 u) ∧
       (∀ pa pol u, s.walk asid.toNat e.addr false = (.ok pa pol false, u) → failed 0x07 u)) ∧
     ((s.core c.toNat).l1 = [] → exec (.storePerform a 0) s = .next (s.setStoreq a rest))) ∧
   (∀ (c : CoreId) (k : StrandId) (s : State) (e : StoreEntry) (rest : List StoreEntry),
     let a := Agent.strand c k
     let asid := BitVec.ofNat 12 (s.asidOf a)
     let page := e.addr / 65536 * 65536
     (s.strandOf a).storeq = e :: rest → e.kind = .cache 10 64 → e.space = 2 → e.addr % 64 = 0 → e.fault = none →
     e.sent = none → e.rel = false → s.fencedOff a = false → NoneFirst s a e →
     (∀ ea u, s.walk asid.toNat page false = (.notPresent ea, u) → u.parkMode asid.toNat = false →
       exec (.storePerform a 0) s = .next (u.setStoreq a ({ e with fault := some 0x06 } :: rest))) ∧
     (∀ pa pol u, s.walk asid.toNat page false = (.ok pa pol false, u) →
       exec (.storePerform a 0) s = .next (u.setStoreq a ({ e with fault := some 0x07 } :: rest)))))

/-- R136, R148–R152, R164, R277: the fences with no store queued. FENCE and FENCE.REL at .die or wider write back the dirty
bytes of every L1 line stored in a class of the mask, or whose dirty bytes a load of such a class has returned: the coherent
copy takes them, the line stays, clean, and no other byte differs. FENCE and FENCE.ACQ at .die or wider drop the clean bytes
of the L1 and keep the dirty ones. At .core neither moves anything. A fence with mask 0 is only a report point. Of a
strand's own context the pc alone differs. MARK sets the named markers to the counts of macros accepted. R143, R276, R283,
R284, R286, R343, R345: events of the memory system. A load's value arrives, and a switched strand that has all it needs is
ready, that of a fabric load with its answer, that of a load that waited once nothing it must follow is left; a line leaves
the L1, its dirty bytes going to the coherent copy and every other byte as it was, but not from a fenced core; a line leaves
L2 with every byte as it was; a parked access whose page is there again becomes ready, and one not there after its time
takes fault 0x06, once the loads before it have completed (R145). Where the spec leaves a point open, the model’s choice is
stated: log 10, 70. -/
def Obligations.FencesMarksAndMemoryEvents : Prop :=
  ((∀ (f : FFence) (s : State),
     let u := if f.arg.setWidth 16 = 0#16 then s
       else (s.releaseL1 (f.scope != 0) (f.arg.setWidth 16)).acquire (f.scope != 0)
     Ready s (s.guard4 f.g) [] → s.me.storeq = [] → (∀ x ∈ s.me.far, f.arg.getLsbD x.cls.toNat = false) → s.me.slot.toNat ≤ 14 ∨ (u.successor 1).isSome = true →
     ∃ t, exec (.fenceShort f) s = .next t ∧ Passed u t 1) ∧
   (∀ (f : FSY) (s : State),
     let wide := f.imm.toNat / 2 ^ 16 % 4 != 0
     let none : Bool := f.imm.setWidth 16 == 0#16
     let u := if none then s else s.releaseL1 wide (f.imm.setWidth 16)
     Ready s (s.guard7 f.g) [] → s.me.storeq = [] → (∀ x ∈ s.me.far, f.imm.getLsbD x.cls.toNat = false) →
     (s.me.slot.toNat ≤ 13 ∨ (u.successor 2).isSome = true →
       (∃ t, exec (.fence f) s = .next t ∧ Passed (if none then s else u.acquire wide) t 2) ∧
       ∃ t, exec (.fenceRel f) s = .next t ∧ Passed u t 2) ∧
     (s.me.slot.toNat ≤ 13 ∨ (s.successor 2).isSome = true →
       ∃ t, exec (.fenceAcq f) s = .next t ∧ Passed (if none then s else s.acquire wide) t 2)) ∧
   (∀ (s : State) (wide : Bool) (mask : BitVec 16), s.isPorch = false →
     let out (l : L1Line) : Bool := l.dirty != 0 && (mask == 0xFFFF || ((l.classes ||| l.readBy) &&& mask) != 0)
     let lines := (s.core s.myCore).l1
     (wide = false → s.releaseL1 wide mask = s ∧ s.acquire wide = s) ∧
     (wide = true → (∀ l ∈ lines, out l = true → NotWalked s l.pline) →
       (lines.filter out).Pairwise (fun l m => l.pline ≠ m.pline) →
       let t := s.releaseL1 wide mask
       WrittenBack s t (lines.filter out) ∧ OnlyMemory s t (some s.myCore) ∧
         (t.core s.myCore).l1 =
           lines.map (fun l => if out l then { l with dirty := 0, classes := 0, readBy := 0 } else l) ∧
         ∀ a, ∃ r, t.strandOf a = { s.strandOf a with run := r } ∧ (r = (s.strandOf a).run ∨
           ∃ m : Monitor, (s.strandOf a).run = .parked (.monitor m) ∧ r = .parked (.monitor { m with hit := true }) ∧
             m.space = 2 ∧ ∃ l ∈ lines, out l = true ∧ m.addr < l.pline * 64 + 64 ∧ l.pline * 64 < m.addr + 2 ^ m.sz.toNat)) ∧
     (wide = true →
       let t := s.acquire wide
       SameBytes s t ∧ t = s.setCore s.myCore { s.core s.myCore with l1 := (t.core s.myCore).l1 } ∧
         (t.core s.myCore).l1 = (lines.filter (fun l => l.dirty != 0)).map (fun l => { l with valid := l.dirty }))) ∧
   (∀ (f : FW) (s : State), Issues s 1 (s.guard4 f.g) [] →
     ∃ t, exec (.mark f) s = .next t ∧ OnlyMe s t ∧ Sequel s t 1 ∧
       t.me = { s.me with
         markers := t.me.markers, line := t.me.line, slot := t.me.slot, pass := Passing.none } ∧
       ∀ j, t.me.markers.get none j =
         if j < 14 ∧ f.arg.getLsbD j = true then some ((s.core s.myCore).queue j).mseq else s.me.markers.get none j)) ∧
  ((∀ (c : CoreId) (k : StrandId) (d : BitVec 5) (s : State), let u := s.by (.strand c k)
     ((s.core c.toNat).fenced = true → exec (.loadDataReturn c k d) s = .next s) ∧
     ((s.core c.toNat).fenced = false → (∀ f ∈ u.me.far, f.id ≠ none ∧ f.failed = none) → (∃ f ∈ u.me.far, f.dest = d) →
       ∃ t, exec (.loadDataReturn c k d) s = .next t ∧ t.cur = s.cur ∧ OnlyMe u (t.by u.cur) ∧ (t.by u.cur).me = u.me) ∧
     ((s.core c.toNat).fenced = false → (∀ f ∈ u.me.far, f.id ≠ none ∧ f.failed = none) → (∀ f ∈ u.me.far, f.dest ≠ d) →
     ∃ t, exec (.loadDataReturn c k d) s = .next t ∧ t.cur = s.cur ∧ OnlyMe u (t.by u.cur) ∧
       (∀ r, r ∈ (t.by u.cur).me.inflight ↔ r ∈ u.me.inflight ∧ r ≠ d) ∧
       (t.by u.cur).me = { u.me with inflight := (t.by u.cur).me.inflight, run := (t.by u.cur).me.run } ∧
       (∀ need, u.me.run = .memory need →
         (t.by u.cur).me.run = if ∀ r ∈ need, r ∈ u.me.inflight → r = d then .ready else u.me.run) ∧
       ((∀ need, u.me.run ≠ .memory need) → (t.by u.cur).me.run = u.me.run)) ∧
     (∀ f, (s.core c.toNat).fenced = false → u.me.far = [f] → f.id = none → f.failed = none → f.dest = d → f.size ≤ 8 →
       u.me.storeq = [] → f.space = 0 ∨ f.space = 1 ∨ f.space = 5 → u.bad = [] →
       u.checkAccess u.cur f.space.toNat f.addr f.size false f.cls = none →
       let w := if f.acquire then u.acquire f.wide else u
       ∃ t, exec (.loadDataReturn c k d) s = .next t ∧ t.cur = s.cur ∧ OnlyMe w (t.by u.cur) ∧
         (∀ r, (t.by u.cur).rx r =
           if r = d ∧ r ≠ 0 then BitVec.ofNat 64 (leValue (plainByte u f.space.toNat) f.addr f.size) else u.rx r) ∧
         (t.by u.cur).me = { u.me with
           x := (t.by u.cur).me.x, far := [], inflight := u.me.inflight.filter (fun r => r != d)
           run := (t.by u.cur).me.run } ∧
         (∀ need, u.me.run = .memory need →
           (t.by u.cur).me.run = if ∀ r ∈ need, r ∈ u.me.inflight → r = d then .ready else u.me.run) ∧
         ((∀ need, u.me.run ≠ .memory need) → (t.by u.cur).me.run = u.me.run)) ∧
     (∀ f g, (s.core c.toNat).fenced = false → u.me.far = [f, g] → f.id ≠ none → f.failed = none → g.id = none →
       g.failed = none → u.me.storeq = [] → g.dest = d → f.acquire = true ∨ f.cls = g.cls ∧ g.space ≠ 4 → f.order < g.order →
       ∃ t, exec (.loadDataReturn c k d) s = .next t ∧ t.cur = s.cur ∧ OnlyMe u (t.by u.cur) ∧ (t.by u.cur).me = u.me)) ∧
   (∀ (c : CoreId) (n : BitVec 10) (s : State), (s.core c.toNat).fenced = true ∨ (s.core c.toNat).l1.length ≤ n.toNat →
     exec (.l1Eviction c n) s = .next s) ∧
   (∀ (c : CoreId) (n : BitVec 10) (s : State) (l : L1Line), (s.core c.toNat).l1[n.toNat]? = some l →
     (s.core c.toNat).fenced = false → l.dirty = 0 ∨ NotWalked s l.pline →
     ∃ t, exec (.l1Eviction c n) s = .next t ∧ WrittenBack s t [l] ∧ OnlyMemory s t (some c.toNat) ∧ t.cur = s.cur ∧
       (t.core c.toNat).l1 = (s.core c.toNat).l1.filter (fun m => !(m.asid == l.asid && m.vline == l.vline)) ∧
       (l.dirty = 0 → t.l2 = s.l2 ∧ t.pooled = s.pooled) ∧
       ∀ a, t.strandOf a = { s.strandOf a with
         run := if l.dirty = 0 then (s.strandOf a).run else runAfter t a a 2 (l.pline * 64) 64 (s.strandOf a).run }) ∧
   (∀ (n : BitVec 32) (s : State) (l : L2Line), s.l2[n.toNat]? = some l →
     (∀ m ∈ s.l2, m.pline = l.pline → m = l) → (l.dirty = false → ∀ i < 64, lineByte l.data i = s.pooled.get 0 (l.pline * 64 + i)) →
     ∃ t, exec (.l2Eviction n) s = .next t ∧ SameBytes s t ∧ t = { s with l2 := t.l2, pooled := t.pooled } ∧
       (t.l2 = s.l2.filter (fun m => m.pline != l.pline)) ∧
       ∀ i < 64, t.pooled.get 0 (l.pline * 64 + i) = lineByte l.data i) ∧
   (∀ (n : BitVec 32) (s : State), s.l2.length ≤ n.toNat → exec (.l2Eviction n) s = .next s) ∧
   (∀ (a : Agent) (s u : State) (va : Nat) (cls : BitVec 4) (due : Nat),
     (s.by a).me.run = .parked (.translation va cls due) → s.fencedOff a = false →
     (∀ pa pol wr, (s.by a).walk ((s.by a).asidOf a) va false = (.ok pa pol wr, u) →
       exec (.translationRetry a) s = .next ((u.setMe { u.me with run := .ready }).by s.cur)) ∧
     (∀ ea, (s.by a).walk ((s.by a).asidOf a) va false = (.notPresent ea, u) →
       exec (.translationRetry a) s = .next (u.by s.cur)) ∧
     ((s.by a).walk ((s.by a).asidOf a) va false = (.beyond, u) → u.me.far = [] →
       exec (.translationRetry a) s = .next ((u.takeFault (raiseAt 0x06 va cls)).by s.cur))) ∧
   (∀ (a : Agent) (s : State) (va : Nat) (cls : BitVec 4) (due : Nat),
     (s.by a).me.run = .parked (.translation va cls due) →
     (due ≤ s.tai → s.fencedOff a = false → (s.by a).me.far = [] →
       exec (.translationParkTimeout a) s = .next (((s.by a).takeFault (raiseAt 0x06 va cls)).by s.cur)) ∧
     (s.tai < due ∨ (s.by a).me.far ≠ [] → exec (.translationParkTimeout a) s = .next s) ∧
     (s.fencedOff a = true →
       exec (.translationRetry a) s = .next s ∧ exec (.translationParkTimeout a) s = .next s)) ∧
   (∀ (a : Agent) (s u : State) (e : StoreEntry) (rest : List StoreEntry), (s.strandOf a).storeq = e :: rest →
     e.space = 2 → e.kind = .store → e.fault = none → e.sent = none → e.rel = false → s.fencedOff a = false → NoneFirst s a e →
     (s.asidOf a ≠ 0 ∨ s.registerBytes e.addr e.size = none) →
     s.translate (s.asidOf a) e.addr e.size true (coreOf a).isSome = (.miss, u) →
     ((∀ r, e.retry = some r → r.1 / 65536 ≠ e.addr / 65536) → ∃ t, exec (.storePerform a 0) s = .next t ∧ SameBytes u t ∧
       t.strandOf a = { u.strandOf a with storeq := { e with retry := some (e.addr, s.tai + 1000000) } :: rest } ∧
       (t.part (s.partOf a)).events.length = (u.part (s.partOf a)).events.length + 1 ∧
       ∃ x, (t.part (s.partOf a)).events.getLast? = some x ∧ x.reason = 2 ∧ x.record.code = 0x06 ∧
         x.record.addr = BitVec.ofNat 64 e.addr ∧ x.record.prec = 1) ∧
     (∀ va due, e.retry = some (va, due) → va / 65536 = e.addr / 65536 → s.tai < due →
       exec (.storePerform a 0) s = .next (u.setStoreq a (e :: rest))) ∧
     (∀ va due, e.retry = some (va, due) → va / 65536 = e.addr / 65536 → due ≤ s.tai →
       exec (.storePerform a 0) s = .next (u.setStoreq a ({ e with fault := some 0x06 } :: rest)))))

/-! ## The vector unit -/

namespace Sys2Proof.Machine

/-- A strand of a core, whose vector file it is, with the vector names inside its window and the chain going on (R14, R75,
R174). -/
def VectorReady (s : State) (len : Nat) (names : List (BitVec 6)) (uses : List (BitVec 5)) : Prop :=
  s.isPorch = false ∧ (∀ n ∈ names, n.toNat < s.me.wv) ∧ (∀ r ∈ uses, r ∉ s.me.inflight) ∧ (s.successor len).isSome = true

/-- Element (r, c) is active (R13, R173). -/
def Active (mask : Pred) (r c : Nat) : Prop := mask.getLsbD (64 * r + c) = true

/-- A vector instruction is done (R173, R176): each register of `outs` has its values in the elements of the mask and keeps
the others, the flags `raised` are raised; no other vector register, nothing else of the context but the pc,
no byte of memory and nothing else of the package differs. -/
def VectorDone (s t : State) (len : Nat) (outs : List (Nat × (Nat → Nat → Word))) (mask : Pred) (raised : Nat → Prop) :
    Prop :=
  SameBytes s t ∧ Sequel s t len ∧
    t = (s.modCore s.myCore (fun k => { k with vfile := (t.core s.myCore).vfile })).setMe t.me ∧
    t.me = { s.me with fstat := t.me.fstat, line := t.me.line, slot := t.me.slot, pass := Passing.none } ∧
    (∀ b < 6, t.me.fstat.getLsbD b = true ↔ s.me.fstat.getLsbD b = true ∨ raised b) ∧
    (∀ p, (∀ o ∈ outs, p ≠ s.vphys o.1) → (t.core s.myCore).vreg p = (s.core s.myCore).vreg p) ∧
    ∀ o ∈ outs, ∀ r < 16, ∀ c < 64, ((t.core s.myCore).vreg (s.vphys o.1)).at r c =
      if mask.getLsbD (64 * r + c) then o.2 r c else (s.rv o.1).at r c

/-- Lane j of width w of an element, and an element from its lanes (R172). -/
def laneValue (w j : Nat) (e : Word) : Nat := e.toNat / 2 ^ (w * j) % 2 ^ w
def joinLanes (w : Nat) (g : Nat → Nat) : Word :=
  BitVec.ofNat 32 ((List.range (32 / w)).map (fun j => g j % 2 ^ w * 2 ^ (w * j))).sum
/-- The two's complement value of a lane. -/
def laneInt (n v : Nat) : Int := (BitVec.ofNat n v).toInt

/-- The names an elementwise form reads and writes. -/
def vectorNames (srcs : Nat) (vd va vb vc : BitVec 6) : List (BitVec 6) := [vd, va, vb, vc].take (srcs + 1)

/-- An elementwise operation on lanes of width w is done: the result of each lane of each active element, and the flags that
any of them raises (R173, R176). -/
def LanesDone (s t : State) (len w : Nat) (vd va vb vc : BitVec 6) (mask : Pred) (f : Nat → Nat → Nat → Res) : Prop :=
  let r (i c j : Nat) : Res := f (laneValue w j ((s.rv va.toNat).at i c)) (laneValue w j ((s.rv vb.toNat).at i c))
    (laneValue w j ((s.rv vc.toNat).at i c))
  VectorDone s t len [(vd.toNat, fun i c => joinLanes w (fun j => (r i c j).bits))] mask
    (fun b => ∃ i < 16, ∃ c < 64, Active mask i c ∧ ∃ j < 32 / w, (r i c j).flags.getLsbD b = true)

/-- Major 0x50 on lanes of FP32, BF16 and FP16 (R180–R183): sources, whether the rm field rounds, and the value of a lane. -/
def floatLanes : List ((FVL → Instr) × Nat × Bool × (Fmt → Rm → Fp → Fp → Fp → Res)) :=
  [(.vadd, 2, true, fun f rm a b _ => fpAdd f rm a b),
   (.vsub, 2, true, fun f rm a b _ => fpAdd f rm a b true),
   (.vmul, 2, true, fun f rm a b _ => fpMul f rm a b),
   (.vfma, 3, true, fun f rm a b c => fpFma f rm a b c),
   (.vfms, 3, true, fun f rm a b c => fpFma f rm a b c false true),
   (.vfnma, 3, true, fun f rm a b c => fpFma f rm a b c true false),
   (.vdiv, 2, true, fun f rm a b _ => fpDiv f rm a b),
   (.vsqrt, 1, true, fun f rm a _ _ => fpSqrt f rm a),
   (.vmax, 2, false, fun f _ a b _ => fpMax f a b),
   (.vmin, 2, false, fun f _ a b _ => fpMin f a b),
   (.vabs, 1, false, fun f _ a _ _ => ⟨a.bits % f.signBit, 0⟩),
   (.vneg, 1, false, fun f _ a _ _ => ⟨if a.bits < f.signBit then a.bits + f.signBit else a.bits - f.signBit, 0⟩),
   (.vcpsgn, 2, false, fun f _ a b _ => ⟨a.bits % f.signBit + (if b.bits < f.signBit then 0 else f.signBit), 0⟩),
   (.vrint, 1, true, fun f rm a _ _ => fpRint f rm a),
   (.vrcp, 1, true, fun f rm a _ _ => fpDiv f rm (fpOne f) a),
   (.vrsqrt, 1, true, fun f rm a _ _ => fpRsqrt f rm a),
   (.vexp, 1, false, fun f _ a _ _ => fpExp f a),
   (.vexp2, 1, false, fun f _ a _ _ => fpExp2 f a),
   (.vlog2, 1, false, fun f _ a _ _ => fpLog2 f a),
   (.vtanh, 1, false, fun f _ a _ _ => fpTanh f a),
   (.vsigm, 1, false, fun f _ a _ _ => fpSigm f a),
   (.vsilu, 1, false, fun f _ a _ _ => fpSilu f a),
   (.vgelu, 1, false, fun f _ a _ _ => fpGelu f a),
   (.vmaxnum, 2, false, fun f _ a b _ => fpMaxNum f a b),
   (.vminnum, 2, false, fun f _ a b _ => fpMinNum f a b),
   (.vsqd, 3, true, fun f rm a b c => fpSqd f rm a b c),
   (.vlerp, 3, true, fun f rm a b c => fpLerp f rm a b c)]
/-- Their short forms, FP32 and RNE, with the name c reads (R195). -/
def shortFloatLanes : List ((FV → Instr) × Nat × (Fp → Fp → Fp → Res)) :=
  [(.vaddShort, 2, fun a b _ => fpAdd Fmt.fp32 .rne a b), (.vsubShort, 2, fun a b _ => fpAdd Fmt.fp32 .rne a b true),
   (.vmulShort, 2, fun a b _ => fpMul Fmt.fp32 .rne a b), (.vfmaShort, 3, fun a b c => fpFma Fmt.fp32 .rne a b c),
   (.vmaxShort, 2, fun a b _ => fpMax Fmt.fp32 a b), (.vminShort, 2, fun a b _ => fpMin Fmt.fp32 a b),
   (.vexpShort, 1, fun a _ _ => fpExp Fmt.fp32 a), (.vsigmShort, 1, fun a _ _ => fpSigm Fmt.fp32 a)]

/-- Format, lane width and lane value of the floating types (R172). -/
def floatType (ty : BitVec 3) : Fmt × Nat := if ty = 0 then (Fmt.fp32, 32) else if ty = 1 then (Fmt.bf16, 16) else (Fmt.fp16, 16)

/-- Major 0x51 on lanes of n bits, .i32 and .i8 (R187): sources, the immediates it takes, and the value of a lane modulo 2^n
from n, imm13 and the lanes of a, b and c. -/
def integerLanes : List ((FVL → Instr) × Nat × (Nat → Bool) × (Nat → BitVec 13 → Nat → Nat → Nat → Int)) :=
  let none : Nat → Bool := fun i => i == 0
  let amount : Nat → Bool := fun i => decide (i < 32)
  [(.viadd, 2, none, fun _ _ a b _ => a + b),
   (.visub, 2, none, fun _ _ a b _ => a - b),
   (.vimul, 2, none, fun _ _ a b _ => a * b),
   (.vimulh, 2, none, fun n _ a b _ => laneInt n a * laneInt n b / 2 ^ n),
   (.vimad, 3, none, fun _ _ a b c => a * b + c),
   (.viadds, 2, none, fun n _ a b _ => max (-2 ^ (n - 1)) (min (laneInt n a + laneInt n b) (2 ^ (n - 1) - 1))),
   (.visubs, 2, none, fun n _ a b _ => max (-2 ^ (n - 1)) (min (laneInt n a - laneInt n b) (2 ^ (n - 1) - 1))),
   (.viaddus, 2, none, fun n _ a b _ => min (a + b : Int) (2 ^ n - 1)),
   (.visubus, 2, none, fun _ _ a b _ => max (a - b : Int) 0),
   (.vimin, 2, none, fun n _ a b _ => min (laneInt n a) (laneInt n b)),
   (.vimax, 2, none, fun n _ a b _ => max (laneInt n a) (laneInt n b)),
   (.viminu, 2, none, fun _ _ a b _ => min a b),
   (.vimaxu, 2, none, fun _ _ a b _ => max a b),
   (.viabs, 1, none, fun n _ a _ _ => (laneInt n a).natAbs),
   (.vand, 2, none, fun _ _ a b _ => (a &&& b : Nat)),
   (.vor, 2, none, fun _ _ a b _ => (a ||| b : Nat)),
   (.vxor, 2, none, fun _ _ a b _ => (a ^^^ b : Nat)),
   (.vandn, 2, none, fun n _ a b _ => (a &&& (2 ^ n - 1 - b) : Nat)),
   (.vnot, 1, none, fun _ _ a _ _ => -1 - a),
   (.vsll, 2, none, fun n _ a b _ => if b < n then a * 2 ^ b else 0),
   (.vsrl, 2, none, fun _ _ a b _ => (a / 2 ^ b : Nat)),
   (.vsra, 2, none, fun n _ a b _ => laneInt n a / 2 ^ min b n),
   (.vslli, 1, amount, fun _ i a _ _ => a * 2 ^ i.toNat),
   (.vsrli, 1, amount, fun _ i a _ _ => (a / 2 ^ i.toNat : Nat)),
   (.vsrai, 1, amount, fun n i a _ _ => laneInt n a / 2 ^ i.toNat),
   (.vpopc, 1, none, fun n _ a _ _ => ((List.range n).filter (fun i => a.testBit i)).length),
   (.vclz, 1, none, fun n _ a _ _ => if a = 0 then n else (n - 1 - Nat.log2 a : Nat)),
   (.vaddi, 1, fun _ => true, fun _ i a _ _ => a + i.toInt),
   (.vandi, 1, fun _ => true, fun n i a _ _ => (a &&& (i.signExtend n).toNat : Nat)),
   (.vsrar, 1, amount, fun n i a _ _ => if n ≤ i.toNat then 0 else roundInt .rne ⟨laneInt n a, 2 ^ i.toNat⟩),
   (.vclamp, 3, none, fun n _ a b c => min (max (laneInt n a) (laneInt n b)) (laneInt n c))]
/-- Their short forms, .i32 (R195). -/
def shortIntegerLanes : List ((FV → Instr) × (Nat → Nat → Int)) :=
  [(.viaddShort, fun a b => a + b), (.visubShort, fun a b => a - b), (.vimulShort, fun a b => a * b),
   (.vandShort, fun a b => (a &&& b : Nat)), (.vorShort, fun a b => (a ||| b : Nat)), (.vxorShort, fun a b => (a ^^^ b : Nat)),
   (.vimaxShort, fun a b => max (laneInt 32 a) (laneInt 32 b)), (.viminShort, fun a b => min (laneInt 32 a) (laneInt 32 b))]

/-- A lane of an integer operation: its value modulo 2^n and no flag. -/
def wrapLane (n : Nat) (v : Int) : Res := ⟨(v % 2 ^ n).toNat, 0⟩

/-- The lane conversions of VCVT: destination type, source type, value (R184). -/
def laneConversions : List (BitVec 3 × Nat × Nat × (Rm → Nat → Res)) :=
  [(3, 0, 32, fun rm a => (intFrom 32 rm (fp32 a)).lane 32),
   (0, 3, 32, fun rm a => fpOfInt Fmt.fp32 rm (laneInt 32 a)),
   (1, 2, 16, fun rm a => fpConvert Fmt.bf16 rm ⟨Fmt.fp16, a⟩),
   (2, 1, 16, fun rm a => fpConvert Fmt.fp16 rm ⟨Fmt.bf16, a⟩),
   (5, 4, 8, fun _ a => mk8OfFrac (Frac.ofInt (laneInt 8 a))),
   (4, 5, 8, fun rm a => (intOfMk8 (-128) 127 rm a).lane 8)]

/-- The narrowing conversions of VCVTN: destination type, source type, lane width, value (R185). -/
def narrowings : List (BitVec 3 × Nat × Nat × (Rm → Nat → Res)) :=
  [(1, 0, 16, fun rm a => fpConvert Fmt.bf16 rm (fp32 a)), (2, 0, 16, fun rm a => fpConvert Fmt.fp16 rm (fp32 a)),
   (5, 0, 8, fun _ a => mk8From (fp32 a)), (4, 0, 8, fun rm a => (intFrom 8 rm (fp32 a)).lane 8),
   (4, 3, 8, fun rm a => (intOfFrac (-128) 127 rm (Frac.ofInt (laneInt 32 a))).lane 8),
   (6, 0, 4, fun rm a => (intFrom 4 rm (fp32 a)).lane 4),
   (6, 3, 4, fun rm a => (intOfFrac (-8) 7 rm (Frac.ofInt (laneInt 32 a))).lane 4)]
/-- The widening conversions of VCVTW (R186). -/
def widenings : List (BitVec 3 × Nat × Nat × (Rm → Nat → Res)) :=
  [(0, 1, 16, fun rm a => fpConvert Fmt.fp32 rm ⟨Fmt.bf16, a⟩), (0, 2, 16, fun rm a => fpConvert Fmt.fp32 rm ⟨Fmt.fp16, a⟩),
   (0, 4, 8, fun rm a => fpOfInt Fmt.fp32 rm (laneInt 8 a)), (0, 5, 8, fun rm a => fpOfMk8 Fmt.fp32 rm a),
   (0, 6, 4, fun rm a => fpOfInt Fmt.fp32 rm (laneInt 4 a)),
   (3, 1, 16, fun rm a => (intFrom 32 rm ⟨Fmt.bf16, a⟩).lane 32), (3, 2, 16, fun rm a => (intFrom 32 rm ⟨Fmt.fp16, a⟩).lane 32),
   (3, 4, 8, fun _ a => wrapLane 32 (laneInt 8 a)), (3, 5, 8, fun rm a => (intOfMk8 (-2 ^ 31) (2 ^ 31 - 1) rm a).lane 32),
   (3, 6, 4, fun _ a => wrapLane 32 (laneInt 4 a))]

end Sys2Proof.Machine

/-- R172–R176, R180–R183, R195: the elementwise floating forms of major 0x50 and their short forms, lane by lane, with the
flags of every lane of every active element; VLDEXP by the two's complement value of b, VDOT2 from pairs of lanes. -/
def Obligations.VectorFloats : Prop :=
  (∀ e ∈ floatLanes, ∀ (f : FVL) (s : State), f.ty.toNat < 3 → e.2.2.1 = true ∨ f.rm = 0 → f.imm = 0 →
    VectorReady s 2 (vectorNames e.2.1 f.vd f.va f.vb f.vc) [] →
    let y := floatType f.ty
    ∃ t, exec (e.1 f) s = .next t ∧ LanesDone s t 2 y.2 f.vd f.va f.vb f.vc (s.me.mask7 f.g)
      (fun a b c => e.2.2.2 y.1 (Rm.ofBits f.rm) ⟨y.1, a⟩ ⟨y.1, b⟩ ⟨y.1, c⟩)) ∧
  (∀ (f : FVL) (s : State), f.ty = 0 → f.imm = 0 → VectorReady s 2 [f.vd, f.va, f.vb] [] →
    ∃ t, exec (.vldexp f) s = .next t ∧ LanesDone s t 2 32 f.vd f.va f.vb f.vc (s.me.mask7 f.g)
      (fun a b _ => fpLdexp Fmt.fp32 (Rm.ofBits f.rm) (fp32 a) (laneInt 32 b))) ∧
  (∀ (f : FVL) (s : State), f.ty = 1 ∨ f.ty = 2 → f.imm = 0 → VectorReady s 2 [f.vd, f.va, f.vb, f.vc] [] →
    let fmt := (floatType f.ty).1
    ∃ t, exec (.vdot2 f) s = .next t ∧ LanesDone s t 2 32 f.vd f.va f.vb f.vc (s.me.mask7 f.g)
      (fun a b c => fpDot2 (Rm.ofBits f.rm) ⟨fmt, a % 2 ^ 16⟩ ⟨fmt, b % 2 ^ 16⟩ ⟨fmt, a / 2 ^ 16⟩ ⟨fmt, b / 2 ^ 16⟩ (fp32 c))) ∧
  (∀ e ∈ shortFloatLanes, ∀ (f : FV) (s : State), VectorReady s 1 (vectorNames (min e.2.1 2) f.vd f.va f.vb f.vd) [] →
    ∃ t, exec (e.1 f) s = .next t ∧ LanesDone s t 1 32 f.vd f.va f.vb f.vd (s.me.mask4 f.g)
      (fun a b c => e.2.2 (fp32 a) (fp32 b) (fp32 c)))

/-- R172, R173, R187, R195: the elementwise integer forms of major 0x51 on .i32 and .i8 lanes, their short forms, and VDOT4,
which adds four signed byte products to c. No flag is raised. R175, R184–R186: the conversions. VCVT keeps the lane width;
VCVTN packs a group of 32 / w registers into one, VCVTW unpacks one into such a group; neither group may contain the other
operand. Where the spec leaves a point open, the model’s choice is stated: log 91. -/
def Obligations.VectorIntegersAndConversions : Prop :=
  ((∀ e ∈ integerLanes, ∀ (f : FVL) (s : State), f.ty = 3 ∨ f.ty = 4 → f.rm = 0 → e.2.2.1 f.imm.toNat = true →
     VectorReady s 2 (vectorNames e.2.1 f.vd f.va f.vb f.vc) [] →
     let n := if f.ty = 3 then 32 else 8
     ∃ t, exec (e.1 f) s = .next t ∧ LanesDone s t 2 n f.vd f.va f.vb f.vc (s.me.mask7 f.g)
       (fun a b c => wrapLane n (e.2.2.2 n f.imm a b c))) ∧
   (∀ (f : FVL) (s : State), f.ty = 4 → f.rm = 0 → f.imm = 0 → VectorReady s 2 [f.vd, f.va, f.vb, f.vc] [] →
     ∃ t, exec (.vdot4 f) s = .next t ∧ LanesDone s t 2 32 f.vd f.va f.vb f.vc (s.me.mask7 f.g)
       (fun a b c => wrapLane 32 (c + ((List.range 4).map (fun j =>
         laneInt 8 (a / 2 ^ (8 * j)) * laneInt 8 (b / 2 ^ (8 * j)))).sum))) ∧
   (∀ e ∈ shortIntegerLanes, ∀ (f : FV) (s : State), VectorReady s 1 [f.vd, f.va, f.vb] [] →
     ∃ t, exec (e.1 f) s = .next t ∧ LanesDone s t 1 32 f.vd f.va f.vb f.vd (s.me.mask4 f.g)
       (fun a b _ => wrapLane 32 (e.2 a b)))) ∧
  ((∀ e ∈ laneConversions, ∀ (f : FVL) (s : State), f.ty = e.1 → f.imm.toNat = e.2.1 → VectorReady s 2 [f.vd, f.va] [] →
     ∃ t, exec (.vcvt f) s = .next t ∧ LanesDone s t 2 e.2.2.1 f.vd f.va f.vb f.vc (s.me.mask7 f.g)
       (fun a _ _ => e.2.2.2 (Rm.ofBits f.rm) a)) ∧
   (∀ e ∈ narrowings, ∀ (f : FVL) (s : State), f.ty = e.1 → f.imm.toNat = e.2.1 → VectorReady s 2 [f.vd] [] →
     let w := e.2.2.1
     f.va.toNat + 32 / w ≤ s.me.wv → f.va.toNat + 32 / w ≤ 64 →
     (∀ j < 32 / w, s.vphys (f.va.toNat + j) ≠ s.vphys f.vd.toNat) →
     let r (i c j : Nat) : Res := e.2.2.2 (Rm.ofBits f.rm) ((s.rv (f.va.toNat + j)).at i c).toNat
     ∃ t, exec (.vcvtn f) s = .next t ∧
       VectorDone s t 2 [(f.vd.toNat, fun i c => joinLanes w (fun j => (r i c j).bits))] (s.me.mask7 f.g)
         (fun b => ∃ i < 16, ∃ c < 64, Active (s.me.mask7 f.g) i c ∧ ∃ j < 32 / w, (r i c j).flags.getLsbD b = true)) ∧
   (∀ e ∈ widenings, ∀ (f : FVL) (s : State), f.ty = e.1 → f.imm.toNat = e.2.1 → VectorReady s 2 [f.va] [] →
     let w := e.2.2.1
     f.vd.toNat + 32 / w ≤ s.me.wv → f.vd.toNat + 32 / w ≤ 64 →
     (∀ j < 32 / w, s.vphys (f.vd.toNat + j) ≠ s.vphys f.va.toNat) →
     let r (i c j : Nat) : Res := e.2.2.2 (Rm.ofBits f.rm) (laneValue w j ((s.rv f.va.toNat).at i c))
     ∃ t, exec (.vcvtw f) s = .next t ∧
       VectorDone s t 2 ((List.range (32 / w)).map (fun j => (f.vd.toNat + j, fun i c => BitVec.ofNat 32 (r i c j).bits)))
         (s.me.mask7 f.g)
         (fun b => ∃ i < 16, ∃ c < 64, Active (s.me.mask7 f.g) i c ∧ ∃ j < 32 / w, (r i c j).flags.getLsbD b = true)))

/-! ## Vector predicates, moves, reductions and memory -/

namespace Sys2Proof.Machine

/-- A predicate instruction is done (R188): under the mask, bit (r, c) of predicate pd is `v r c`; p0 and every other predicate
and bit keep theirs, the flags `raised` are raised, nothing else differs but the pc. -/
def PredicateDone (s t : State) (len pd : Nat) (mask : Pred) (v : Nat → Nat → Prop) (raised : Nat → Prop) : Prop :=
  OnlyMe s t ∧ Sequel s t len ∧
    t.me = { s.me with p := t.me.p, fstat := t.me.fstat, line := t.me.line, slot := t.me.slot, pass := Passing.none } ∧
    (∀ b < 6, t.me.fstat.getLsbD b = true ↔ s.me.fstat.getLsbD b = true ∨ raised b) ∧
    ∀ n, ∀ r < 16, ∀ c < 64,
      let mine := s.me.physP n = s.me.physP pd ∧ s.me.physP n ≠ 0 ∧ Active mask r c
      Active (t.me.rp n) r c ↔ (mine ∧ v r c) ∨ (¬ mine ∧ Active (s.me.rp n) r c)

/-- Predicate numbers from a 6-bit field and an extension bit of imm13 (R188). -/
def predNumber (v : BitVec 6) (imm : BitVec 13) (k : Nat) : Nat := v.toNat + 64 * (imm.toNat / 2 ^ k % 2)

/-- A comparison of FP32 elements: the result for a NaN, `quiet` when only a signalling NaN raises NV (R189). -/
def fpCompare (quiet nan : Bool) (p : Fp → Fp → Bool) (a b : Word) : Bool × Flags :=
  let x := fp32 a.toNat
  let y := fp32 b.toNat
  if x.isNan || y.isNan then (nan, if quiet && !x.isSnan && !y.isSnan then 0 else Flags.nv) else (p x y, 0)

/-- The compares (R188): on .f32 whether quiet, the result for a NaN and the relation, on .i32 the relation. -/
def vectorCompares : List ((FVL → Instr) × (Bool × Bool × (Fp → Fp → Bool)) × (Int → Int → Bool)) :=
  [(.vcmpeq, (true, false, fpEq), fun a b => decide (a = b)),
   (.vcmpne, (true, true, fun a b => !fpEq a b), fun a b => decide (a ≠ b)),
   (.vcmplt, (false, false, fpLt), fun a b => decide (a < b)),
   (.vcmple, (false, false, fun a b => fpLt a b || fpEq a b), fun a b => decide (a ≤ b)),
   (.vcmpgt, (false, false, fun a b => fpLt b a), fun a b => decide (b < a)),
   (.vcmpge, (false, false, fun a b => fpLt b a || fpEq b a), fun a b => decide (b ≤ a))]

/-- The short compares with the value of an element (R195). -/
def shortCompares : List ((FV → Instr) × (Word → Word → Bool × Flags)) :=
  [(.vcmpeqF32Short, fpCompare true false fpEq), (.vcmpltF32Short, fpCompare false false fpLt),
   (.vcmpleF32Short, fpCompare false false (fun a b => fpLt a b || fpEq a b)),
   (.vcmpeqI32Short, fun a b => (decide (a = b), 0)), (.vcmpltI32Short, fun a b => (decide (a.toInt < b.toInt), 0)),
   (.vcmpltuI32Short, fun a b => (decide (a.toNat < b.toNat), 0))]

/-- A compare of va and vb is done. -/
def CompareDone (s t : State) (len pd : Nat) (va vb : BitVec 6) (mask : Pred) (f : Word → Word → Bool × Flags) : Prop :=
  let r (i c : Nat) : Bool × Flags := f ((s.rv va.toNat).at i c) ((s.rv vb.toNat).at i c)
  PredicateDone s t len pd mask (fun i c => (r i c).1 = true)
    (fun b => ∃ i < 16, ∃ c < 64, Active mask i c ∧ (r i c).2.getLsbD b = true)

/-- The class of an FP32 value (R189). -/
def fpClass (x : Fp) : Nat :=
  if x.isNan then (if x.isSnan then 8 else 9)
  else if x.isInf then (if x.sign then 0 else 7)
  else if x.isZero then (if x.sign then 3 else 4)
  else if x.isSubnormal then (if x.sign then 2 else 5)
  else if x.sign then 1 else 6

/-- Predicates formed from pa and pb (R188), k the low 6 bits of imm13. -/
def predicateForms : List ((FVL → Instr) × (Pred → Pred → Nat → Nat → Nat → Prop)) :=
  [(.pand, fun a b _ r c => Active a r c ∧ Active b r c),
   (.por, fun a b _ r c => Active a r c ∨ Active b r c),
   (.pxor, fun a b _ r c => ¬ (Active a r c ↔ Active b r c)),
   (.pandn, fun a b _ r c => Active a r c ∧ ¬ Active b r c),
   (.porn, fun a b _ r c => Active a r c ∨ ¬ Active b r c),
   (.pnot, fun a _ _ r c => ¬ Active a r c),
   (.pset, fun _ _ _ _ _ => True),
   (.pclr, fun _ _ _ _ _ => False),
   (.pfirst, fun a _ _ r c => Active a r c ∧ ∀ i < 64 * r + c, a.getLsbD i = false),
   (.pfirstr, fun a _ _ r c => Active a r c ∧ ∀ i < c, ¬ Active a r i),
   (.pany, fun a _ _ _ _ => a ≠ 0),
   (.pall, fun a _ _ _ _ => ~~~a = 0),
   (.panyr, fun a _ _ r _ => ∃ i < 64, Active a r i),
   (.protr, fun a _ k r c => Active a r ((c + 64 - k) % 64)),
   (.prowb, fun a _ _ _ c => Active a 0 c)]

/-- Vectors formed from pa (R188). -/
def countForms : List ((FVL → Instr) × (Pred → Nat → Nat → Nat)) :=
  [(.pcnt, fun a _ _ => ((List.range 1024).filter (fun i => a.getLsbD i)).length),
   (.pcntr, fun a r _ => ((List.range 64).filter (fun i => a.getLsbD (64 * r + i))).length),
   (.vptov, fun a r c => (a.getLsbD (64 * r + c)).toNat)]

/-- Moves of va (R190): the immediates taken and the element of the result from imm13 and the elements of va. -/
def moveForms : List ((FVL → Instr) × Nat × (Nat → (Nat → Nat → Word) → Nat → Nat → Word)) :=
  [(.vmov, 2 ^ 13, fun _ v r c => v r c),
   (.vrotr, 2 ^ 13, fun k v r c => v r ((c + 64 - k % 64) % 64)),
   (.vrotc, 2 ^ 13, fun k v r c => v ((r + 16 - k % 16) % 16) c),
   (.vshr, 65, fun k v r c => if k ≤ c then v r (c - k) else 0),
   (.vshc, 17, fun k v r c => if k ≤ r then v (r - k) c else 0),
   (.vrev, 2 ^ 13, fun _ v r c => v r (63 - c)),
   (.vrevc, 2 ^ 13, fun _ v r c => v (15 - r) c),
   (.vtr16, 2 ^ 13, fun _ v r c => v (c % 16) (c / 16 * 16 + r)),
   (.vbcr, 2 ^ 13, fun k v _ c => v (k % 16) c),
   (.vbcc, 2 ^ 13, fun k v r _ => v r (k % 64)),
   (.vswaph, 2 ^ 13, fun _ v r c => (v r c).extractLsb' 0 16 ++ (v r c).extractLsb' 16 16),
   (.vbswap, 2 ^ 13, fun _ v r c =>
     (v r c).extractLsb' 0 8 ++ (v r c).extractLsb' 8 8 ++ (v r c).extractLsb' 16 8 ++ (v r c).extractLsb' 24 8)]

/-- Byte j of the result of VPERMB: a byte of the 16-byte group of row r that element (r, c) lies in (R190). -/
def permByte (a b : Nat → Nat → Word) (r c j : Nat) : Nat :=
  let i := laneValue 8 j (b r c)
  if 128 ≤ i then 0 else laneValue 8 (i % 4) (a r (c / 4 * 4 + i % 16 / 4))
/-- Moves of va by the indices in vb (R190), with the short forms (R195). -/
def gatherForms : List ((FVL → Instr) × ((Nat → Nat → Word) → (Nat → Nat → Word) → Nat → Nat → Word)) :=
  [(.vgathr, fun a b r c => a r ((b r c).toNat % 64)), (.vgathc, fun a b r c => a ((b r c).toNat % 16) c),
   (.vpermb, fun a b r c => joinLanes 8 (permByte a b r c))]
def shortGathers : List ((FV → Instr) × ((Nat → Nat → Word) → (Nat → Nat → Word) → Nat → Nat → Word)) :=
  [(.vgathrShort, fun a b r c => a r ((b r c).toNat % 64)), (.vpermbShort, fun a b r c => joinLanes 8 (permByte a b r c)),
   (.vmovShort, fun a _ r c => a r c)]

/-- Results that read no vector register (R190). -/
def fillForms : List ((FVL → Instr) × (State → FVL → Nat → Nat → Word)) :=
  [(.vli, fun _ f _ _ => f.imm.signExtend 32),
   (.viota, fun _ f r c => BitVec.ofNat 32 (64 * r + c) + f.imm.signExtend 32),
   (.vpscan, fun s f r c =>
     BitVec.ofNat 32 ((List.range c).filter (fun i => (s.me.rp (f.imm.toNat % 128)).getLsbD (64 * r + i))).length),
   (.vpscana, fun s f r c =>
     BitVec.ofNat 32 ((List.range (64 * r + c)).filter (fun i => (s.me.rp (f.imm.toNat % 128)).getLsbD i)).length)]

/-- No flag. -/
def noFlag (_ : Nat) : Prop := False

/-- The tree of 2^n values (R191): neighbours first. -/
def treeOf (f : Flagged → Flagged → Flagged) : Nat → (Nat → Flagged) → Flagged
  | 0, g => g 0
  | n + 1, g => f (treeOf f n g) (treeOf f n (fun i => g (2 ^ n + i)))

/-- The elements of a reduction: the active ones, the identity for the others (R191). -/
def reduced (op : Nat) (mask : Pred) (v : VReg) (r c : Nat) : Flagged :=
  (if mask.getLsbD (64 * r + c) then v.at r c else identity op, 0)
/-- The reductions over rows, columns and the whole register: the value at (r, c) before the identity +0 joins an FADD. -/
def rowTree (f : Flagged → Flagged → Flagged) (t : Nat → Nat → Flagged) (r _ : Nat) : Flagged := treeOf f 6 (t r)
def colTree (f : Flagged → Flagged → Flagged) (t : Nat → Nat → Flagged) (_ c : Nat) : Flagged := treeOf f 4 (fun r => t r c)
def allTree (f : Flagged → Flagged → Flagged) (t : Nat → Nat → Flagged) (_ _ : Nat) : Flagged :=
  treeOf f 4 (fun r => treeOf f 6 (t r))
/-- With FADD the identity +0 takes part. -/
def closed (op : Nat) (rm : Rm) (x : Flagged) : Flagged := if op = 0 then combine 0 rm (0, 0) x else x

/-- A reduction is done: the value at every active element, the flags of every line. -/
def ReduceDone (s t : State) (len : Nat) (vd : BitVec 6) (mask : Pred) (v : Nat → Nat → Flagged) : Prop :=
  VectorDone s t len [(vd.toNat, fun r c => (v r c).1)] mask (fun b => ∃ r < 16, ∃ c < 64, (v r c).2.getLsbD b = true)

/-- Operations of R191 with the types and rounding they take. -/
def reducible (op : Nat) (ty : BitVec 3) (rm : BitVec 2) : Prop :=
  op < 8 ∧ (op < 3 → ty = 0) ∧ (3 ≤ op → ty = 3) ∧ (rm = 0 ∨ op = 0)

/-- An inclusive scan after n elements (R191). -/
def scanned (f : Flagged → Flagged → Flagged) (start : Word) (on : Nat → Bool) (v : Nat → Word) : Nat → Word
  | 0 => start
  | n + 1 => if on n then (f (scanned f start on v n, 0) (v n, 0)).1 else scanned f start on v n

end Sys2Proof.Machine

/-- R188, R189, R195: the vector compares, VFTEST and the short compares, under the mask. R188, R195: the predicate
instructions: logic, first and any bits, rotations, counts, lengths, selection. -/
def Obligations.VectorComparesAndPredicates : Prop :=
  ((∀ e ∈ vectorCompares, ∀ (f : FVL) (s : State), f.rm = 0 → VectorReady s 2 [f.va, f.vb] [] →
     let pd := predNumber f.vd f.imm 12
     (f.ty = 0 → ∃ t, exec (e.1 f) s = .next t ∧ CompareDone s t 2 pd f.va f.vb (s.me.mask7 f.g)
       (fpCompare e.2.1.1 e.2.1.2.1 e.2.1.2.2)) ∧
     (f.ty = 3 → ∃ t, exec (e.1 f) s = .next t ∧ CompareDone s t 2 pd f.va f.vb (s.me.mask7 f.g)
       (fun a b => (e.2.2 a.toInt b.toInt, 0)))) ∧
   (∀ (f : FVL) (s : State), f.rm = 0 → VectorReady s 2 [f.va, f.vb] [] →
     let pd := predNumber f.vd f.imm 12
     (f.ty = 3 → ∃ t, exec (.vcmpltu f) s = .next t ∧ CompareDone s t 2 pd f.va f.vb (s.me.mask7 f.g)
       (fun a b => (decide (a.toNat < b.toNat), 0))) ∧
     (f.ty = 3 → ∃ t, exec (.vcmpgeu f) s = .next t ∧ CompareDone s t 2 pd f.va f.vb (s.me.mask7 f.g)
       (fun a b => (decide (b.toNat ≤ a.toNat), 0))) ∧
     (f.ty = 0 → ∃ t, exec (.vcmpun f) s = .next t ∧ CompareDone s t 2 pd f.va f.vb (s.me.mask7 f.g)
       (fpCompare true true (fun _ _ => false)))) ∧
   (∀ (f : FVL) (s : State), f.ty = 0 → f.rm = 0 → VectorReady s 2 [f.va] [] →
     ∃ t, exec (.vftest f) s = .next t ∧ PredicateDone s t 2 (predNumber f.vd f.imm 12) (s.me.mask7 f.g)
       (fun r c => f.imm.getLsbD (fpClass (fp32 ((s.rv f.va.toNat).at r c).toNat)) = true) noFlag) ∧
   (∀ e ∈ shortCompares, ∀ (f : FV) (s : State), VectorReady s 1 [f.va, f.vb] [] →
     ∃ t, exec (e.1 f) s = .next t ∧ CompareDone s t 1 f.vd.toNat f.va f.vb (s.me.mask4 f.g) e.2)) ∧
  ((∀ e ∈ predicateForms, ∀ (f : FVL) (s : State), f.ty = 0 → f.rm = 0 → VectorReady s 2 [] [] →
     ∃ t, exec (e.1 f) s = .next t ∧ PredicateDone s t 2 (predNumber f.vd f.imm 12) (s.me.mask7 f.g)
       (e.2 (s.me.rp (predNumber f.va f.imm 11)) (s.me.rp (predNumber f.vb f.imm 10)) (f.imm.toNat % 64)) noFlag) ∧
   (∀ (f : FV) (s : State), VectorReady s 1 [] [] →
     (∃ t, exec (.pandShort f) s = .next t ∧ PredicateDone s t 1 f.vd.toNat (s.me.mask4 f.g)
       (fun r c => Active (s.me.rp f.va.toNat) r c ∧ Active (s.me.rp f.vb.toNat) r c) noFlag) ∧
     (∃ t, exec (.pnotShort f) s = .next t ∧ PredicateDone s t 1 f.vd.toNat (s.me.mask4 f.g)
       (fun r c => ¬ Active (s.me.rp f.va.toNat) r c) noFlag)) ∧
   (∀ (f : FVL) (s : State), f.ty = 0 → f.rm = 0 → VectorReady s 2 [f.va] [] →
     let v := s.rv f.va.toNat
     let pd := predNumber f.vd f.imm 12
     let m := s.me.mask7 f.g
     (∃ t, exec (.plen f) s = .next t ∧ PredicateDone s t 2 pd m (fun r c => c < (v.at r c).toNat) noFlag) ∧
     (∃ t, exec (.plenr f) s = .next t ∧ PredicateDone s t 2 pd m (fun r c => r < (v.at r c).toNat) noFlag) ∧
     (∃ t, exec (.vtop f) s = .next t ∧ PredicateDone s t 2 pd m (fun r c => v.at r c ≠ 0) noFlag)) ∧
   (∀ e ∈ countForms, ∀ (f : FVL) (s : State), f.ty = 0 → f.rm = 0 → VectorReady s 2 [f.vd] [] →
     ∃ t, exec (e.1 f) s = .next t ∧ VectorDone s t 2
       [(f.vd.toNat, fun r c => BitVec.ofNat 32 (e.2 (s.me.rp (predNumber f.va f.imm 11)) r c))] (s.me.mask7 f.g) noFlag) ∧
   (∀ (f : FVL) (s : State), f.ty = 0 → f.rm = 0 → VectorReady s 2 [f.vd, f.va, f.vb] [] →
     ∃ t, exec (.vsel f) s = .next t ∧ VectorDone s t 2 [(f.vd.toNat, fun r c =>
       if (s.me.rp (f.imm.toNat % 128)).getLsbD (64 * r + c) then (s.rv f.va.toNat).at r c else (s.rv f.vb.toNat).at r c)]
       (s.me.mask7 f.g) noFlag))

/-- R190, R191, R195: reductions by the tree of R191 over rows, columns or the whole register, VSUMSQR, and inclusive scans.
Where the spec leaves a point open, the model’s choice is stated: log 62, 85. -/
def Obligations.VectorReductions : Prop :=
  (∀ e ∈ [(Instr.vredr, rowTree), (.vredc, colTree), (.vreda, allTree)], ∀ (f : FVL) (s : State),
    reducible f.imm.toNat f.ty f.rm → VectorReady s 2 [f.vd, f.va] [] →
    let rm := Rm.ofBits f.rm
    ∃ t, exec (e.1 f) s = .next t ∧ ReduceDone s t 2 f.vd (s.me.mask7 f.g) (fun r c =>
      closed f.imm.toNat rm (e.2 (combine f.imm.toNat rm) (reduced f.imm.toNat (s.me.mask7 f.g) (s.rv f.va.toNat)) r c))) ∧
  (∀ e ∈ [(Instr.vredrFaddShort, 0, rowTree), (.vredrFmaxShort, 1, rowTree), (.vredcFaddShort, 0, colTree)],
    ∀ (f : FV) (s : State), VectorReady s 1 [f.vd, f.va] [] →
    ∃ t, exec (e.1 f) s = .next t ∧ ReduceDone s t 1 f.vd (s.me.mask4 f.g) (fun r c =>
      closed e.2.1 .rne (e.2.2 (combine e.2.1 .rne) (reduced e.2.1 (s.me.mask4 f.g) (s.rv f.va.toNat)) r c))) ∧
  (∀ (f : FVL) (s : State), f.ty = 0 → VectorReady s 2 [f.vd, f.va] [] →
    let rm := Rm.ofBits f.rm
    let square (r c : Nat) : Flagged :=
      let x := fp32 ((s.rv f.va.toNat).at r c).toNat
      let p := fpMul Fmt.fp32 rm x x
      if (s.me.mask7 f.g).getLsbD (64 * r + c) then (BitVec.ofNat 32 p.bits, p.flags) else (0, 0)
    ∃ t, exec (.vsumsqr f) s = .next t ∧
      ReduceDone s t 2 f.vd (s.me.mask7 f.g) (fun r c => closed 0 rm (rowTree (combine 0 rm) square r c))) ∧
  (∀ (f : FVL) (s : State), reducible f.imm.toNat f.ty f.rm → VectorReady s 2 [f.vd, f.va] [] →
    let g := combine f.imm.toNat (Rm.ofBits f.rm)
    let m := s.me.mask7 f.g
    let v := (s.rv f.va.toNat).at
    let along (r n : Nat) : Word := scanned g (identity f.imm.toNat) (fun c => m.getLsbD (64 * r + c)) (v r) n
    let down (c n : Nat) : Word := scanned g (identity f.imm.toNat) (fun r => m.getLsbD (64 * r + c)) (fun r => v r c) n
    (∃ t, exec (.vscanr f) s = .next t ∧ VectorDone s t 2 [(f.vd.toNat, fun r c => along r (c + 1))] m
      (fun b => ∃ r < 16, ∃ c < 64, Active m r c ∧ (g (along r c, 0) (v r c, 0)).2.getLsbD b = true)) ∧
    (∃ t, exec (.vscanc f) s = .next t ∧ VectorDone s t 2 [(f.vd.toNat, fun r c => down c (r + 1))] m
      (fun b => ∃ r < 16, ∃ c < 64, Active m r c ∧ (g (down c r, 0) (v r c, 0)).2.getLsbD b = true)))

/-- R190, R192, R195: the data movement instructions. VINS writes one element, VEXT reads one; VCOMPR writes every element
of vd whatever the mask. R71, R193, R194: VTOPK writes the k best active elements of each row in rank order and their
columns, filling up with NaN or the least integer and all ones; with no active element it writes nothing. VSAMP gives each
row the first active column above the threshold in column 0 of vb, or 64. Where the spec leaves a point open, the model’s
choice is stated: log 63. -/
def Obligations.VectorMovesAndRanks : Prop :=
  ((∀ e ∈ moveForms, ∀ (f : FVL) (s : State), f.ty = 0 → f.rm = 0 → f.imm.toNat < e.2.1 → VectorReady s 2 [f.vd, f.va] [] →
     ∃ t, exec (e.1 f) s = .next t ∧ VectorDone s t 2
       [(f.vd.toNat, e.2.2 f.imm.toNat (s.rv f.va.toNat).at)] (s.me.mask7 f.g) noFlag) ∧
   (∀ e ∈ gatherForms, ∀ (f : FVL) (s : State), f.ty = 0 → f.rm = 0 → VectorReady s 2 [f.vd, f.va, f.vb] [] →
     ∃ t, exec (e.1 f) s = .next t ∧ VectorDone s t 2
       [(f.vd.toNat, e.2 (s.rv f.va.toNat).at (s.rv f.vb.toNat).at)] (s.me.mask7 f.g) noFlag) ∧
   (∀ e ∈ shortGathers, ∀ (f : FV) (s : State), VectorReady s 1 [f.vd, f.va, f.vb] [] →
     ∃ t, exec (e.1 f) s = .next t ∧ VectorDone s t 1
       [(f.vd.toNat, e.2 (s.rv f.va.toNat).at (s.rv f.vb.toNat).at)] (s.me.mask4 f.g) noFlag) ∧
   (∀ e ∈ fillForms, ∀ (f : FVL) (s : State), f.ty = 0 → f.rm = 0 → VectorReady s 2 [f.vd] [] →
     ∃ t, exec (e.1 f) s = .next t ∧ VectorDone s t 2 [(f.vd.toNat, e.2 s f)] (s.me.mask7 f.g) noFlag) ∧
   (∀ (f : FVL) (s : State), f.ty = 0 → f.rm = 0 → VectorReady s 2 [f.vd] [BitVec.ofNat 5 f.vb.toNat] →
     let x := BitVec.ofNat 32 (s.rx (BitVec.ofNat 5 f.vb.toNat)).toNat
     (∃ t, exec (.vbcx f) s = .next t ∧ VectorDone s t 2 [(f.vd.toNat, fun _ _ => x)] (s.me.mask7 f.g) noFlag) ∧
     (∃ t, exec (.vins f) s = .next t ∧ VectorDone s t 2 [(f.vd.toNat, fun r c =>
       if r = f.imm.toNat % 16 ∧ c = f.imm.toNat / 16 % 64 then x else (s.rv f.vd.toNat).at r c)] (s.me.mask7 f.g) noFlag)) ∧
   (∀ (f : FV) (s : State), VectorReady s 1 [f.vd] [BitVec.ofNat 5 f.vb.toNat] →
     (∃ t, exec (.vbcxShort f) s = .next t ∧ VectorDone s t 1
       [(f.vd.toNat, fun _ _ => BitVec.ofNat 32 (s.rx (BitVec.ofNat 5 f.vb.toNat)).toNat)] (s.me.mask4 f.g) noFlag) ∧
     (∃ t, exec (.viotaShort f) s = .next t ∧ VectorDone s t 1
       [(f.vd.toNat, fun r c => BitVec.ofNat 32 (64 * r + c))] (s.me.mask4 f.g) noFlag)) ∧
   (∀ (f : FVL) (s : State), f.ty = 0 → f.rm = 0 → VectorReady s 2 [f.va] [BitVec.ofNat 5 f.vd.toNat] →
     let d := BitVec.ofNat 5 f.vd.toNat
     let r := f.imm.toNat % 16
     let c := f.imm.toNat / 16 % 64
     ∃ t, exec (.vext f) s = .next t ∧ ScalarDone s t 2 d
       (if (s.me.mask7 f.g).getLsbD (64 * r + c) then BitVec.ofNat 64 ((s.rv f.va.toNat).at r c).toNat else s.rx d) 0) ∧
   (∀ (f : FVL) (s : State), f.ty = 0 → f.rm = 0 → VectorReady s 2 [f.vd, f.va] [] →
     let m := s.me.mask7 f.g
     let v := s.rv f.va.toNat
     let on (r n : Nat) : List Nat := (List.range n).filter (fun c => m.getLsbD (64 * r + c))
     (∃ t, exec (.vcompr f) s = .next t ∧ VectorDone s t 2
       [(f.vd.toNat, fun r c => ((on r 64).map (v.at r)).getD c 0)] (BitVec.allOnes 1024) noFlag) ∧
     (∃ t, exec (.vexpd f) s = .next t ∧ VectorDone s t 2
       [(f.vd.toNat, fun r c => v.at r (on r c).length)] m noFlag))) ∧
  ((∀ (f : FVL) (s : State), f.ty = 0 ∨ f.ty = 3 → f.rm = 0 → 1 ≤ f.imm.toNat → f.imm.toNat ≤ 64 →
     VectorReady s 2 [f.vd, f.va] [] → f.vd.toNat + 1 < s.me.wv → f.vd.toNat + 1 < 64 →
     s.vphys f.vd.toNat ≠ s.vphys f.va.toNat → s.vphys (f.vd.toNat + 1) ≠ s.vphys f.va.toNat →
     let m := s.me.mask7 f.g
     let row (r : Nat) : List (Word × Nat) := rankRow f.ty.toNat m (s.rv f.va.toNat) r
     let fill : Word × Nat := (if f.ty = 0 then 0x7FC00000 else 0x80000000, 2 ^ 32 - 1)
     ∃ t, exec (.vtopk f) s = .next t ∧
       VectorDone s t 2 [(f.vd.toNat, fun r i => ((row r).getD i fill).1),
           (f.vd.toNat + 1, fun r i => BitVec.ofNat 32 ((row r).getD i fill).2)]
         (if m = 0 then 0 else genPred (fun _ i => decide (i < f.imm.toNat))) noFlag) ∧
   (∀ (f : FVL) (s : State), f.ty = 0 → f.rm = 0 → VectorReady s 2 [f.vd, f.va, f.vb] [] →
     let m := s.me.mask7 f.g
     let above (r c : Nat) : Bool :=
       let x := fp32 ((s.rv f.va.toNat).at r c).toNat
       let y := fp32 ((s.rv f.vb.toNat).at r 0).toNat
       m.getLsbD (64 * r + c) && !x.isNan && !y.isNan && fpLt y x
     ∃ t, exec (.vsamp f) s = .next t ∧ VectorDone s t 2
       [(f.vd.toNat, fun r _ => BitVec.ofNat 32 (((List.range 64).find? (above r)).getD 64))] m noFlag))

namespace Sys2Proof.Machine

/-- A layout of vector memory (R196): loads, stores, image bytes, element bytes, whether signed or saturated, the offset of
element (r, c), the elements a store writes. -/
def vectorLayouts : List ((FVM → Instr) × (FVM → Instr) × Nat × Nat × Bool × (Nat → Nat → Nat) × (Nat → Nat → Bool)) :=
  [(.vld, .vst, 4096, 4, false, fun r c => 256 * r + 4 * c, fun _ _ => true),
   (.vldT, .vstT, 4096, 4, false, fun r c => 64 * c + 4 * r, fun _ _ => true),
   (.vldRowb, .vstRow0, 256, 4, false, fun _ c => 4 * c, fun r _ => r == 0),
   (.vldColb, .vstCol0, 64, 4, false, fun r _ => 4 * r, fun _ c => c == 0),
   (.vldN8, .vstN8, 1024, 1, false, fun r c => 64 * r + c, fun _ _ => true),
   (.vldN16, .vstN16, 2048, 2, false, fun r c => 128 * r + 2 * c, fun _ _ => true),
   (.vldN8s, .vstN8s, 1024, 1, true, fun r c => 64 * r + c, fun _ _ => true),
   (.vldN16s, .vstN16s, 2048, 2, true, fun r c => 128 * r + 2 * c, fun _ _ => true)]

/-- A ring may be named by a ring-relative access of images of n bytes (R198). -/
def ringServes (r : Ring) (off n : Nat) : Prop := r.en = true ∧ r.mode ≠ 1 ∧ off + n ≤ r.ssize.toNat * 64

/-- The image of n bytes lies at A, and every check of the access passes (R197, R198). -/
def ImageAt (s : State) (f : FVM) (store : Bool) (n A : Nat) : Prop :=
  let i := (s.rx f.a).toNat
  A % 64 = 0 ∧
  ((f.mode = 0 ∧ (A : Int) = i + f.off.toInt ∧ A < 2 ^ 22 ∧ A + n ≤ if store then 0x2FE000 else 0x300000) ∨
   (f.mode = 1 ∧ let r := s.myRing f.q
    ringServes r f.off.toNat n ∧
    A = r.base.toNat + (((if store then r.tail else r.head).toNat + i) % 512) % (r.scount.toNat + 1) * (r.ssize.toNat * 64) +
      f.off.toNat ∧
    i % 512 < if store then (r.claim - r.tail).toNat else (r.tail - r.head).toNat + (r.claim - r.tail).toNat))

/-- The vector registers that each long form names, groups apart (R174). -/
def longNames : List ((FVL → Instr) × (FVL → List (BitVec 6))) :=
  let d (f : FVL) := [f.vd]
  let a (f : FVL) := [f.va]
  let da (f : FVL) := [f.vd, f.va]
  let ab (f : FVL) := [f.va, f.vb]
  let dab (f : FVL) := [f.vd, f.va, f.vb]
  floatLanes.map (fun e => (e.1, fun f => vectorNames e.2.1 f.vd f.va f.vb f.vc)) ++
  integerLanes.map (fun e => (e.1, fun f => vectorNames e.2.1 f.vd f.va f.vb f.vc)) ++
  vectorCompares.map (fun e => (e.1, ab)) ++ countForms.map (fun e => (e.1, d)) ++ moveForms.map (fun e => (e.1, da)) ++
  gatherForms.map (fun e => (e.1, dab)) ++ fillForms.map (fun e => (e.1, d)) ++
  [(.vldexp, dab), (.vdot2, fun f => [f.vd, f.va, f.vb, f.vc]), (.vdot4, fun f => [f.vd, f.va, f.vb, f.vc]), (.vcvt, da),
   (.vcmpltu, ab), (.vcmpgeu, ab), (.vcmpun, ab), (.vftest, a), (.plen, a), (.plenr, a), (.vtop, a), (.vsel, dab),
   (.vbcx, d), (.vins, d), (.vext, a), (.vcompr, da), (.vexpd, da), (.vredr, da), (.vredc, da), (.vreda, da), (.vsumsqr, da),
   (.vscanr, da), (.vscanc, da), (.vsamp, dab)]
/-- Those that each short form names (R195). -/
def shortNames : List ((FV → Instr) × (FV → List (BitVec 6))) :=
  let da (f : FV) := [f.vd, f.va]
  let dab (f : FV) := [f.vd, f.va, f.vb]
  shortFloatLanes.map (fun e => (e.1, fun f => vectorNames (min e.2.1 2) f.vd f.va f.vb f.vd)) ++
  shortIntegerLanes.map (fun e => (e.1, dab)) ++ shortCompares.map (fun e => (e.1, fun f => [f.va, f.vb])) ++
  [(.vgathrShort, dab), (.vpermbShort, dab), (.vmovShort, da), (.vredrFaddShort, da), (.vredrFmaxShort, da),
   (.vredcFaddShort, da), (.vbcxShort, fun f => [f.vd]), (.viotaShort, fun f => [f.vd])]

/-- The types, the rounding and the range of the immediate that each other form takes, with the vector registers that it names, of a
group of VCVTN, VCVTW its first (R172, R176, R184–R191, R194). That a scan takes an rm other than 0 with FADD only is the model's choice
(log 85). -/
def typedForms : List ((FVL → Instr) × (FVL → List (BitVec 6)) × (FVL → Prop)) :=
  let none (_ : FVL) : List (BitVec 6) := []
  let d (f : FVL) := [f.vd]
  let a (f : FVL) := [f.va]
  let da (f : FVL) := [f.vd, f.va]
  let ab (f : FVL) := [f.va, f.vb]
  let dab (f : FVL) := [f.vd, f.va, f.vb]
  let dabc (f : FVL) := [f.vd, f.va, f.vb, f.vc]
  let typeless (f : FVL) : Prop := f.ty = 0 ∧ f.rm = 0
  let word (f : FVL) : Prop := f.ty = 3 ∧ f.rm = 0
  let reduces (f : FVL) : Prop :=
    f.imm.toNat < 8 ∧ f.ty = (if f.imm.toNat < 3 then 0 else 3) ∧ (f.rm = 0 ∨ f.imm.toNat = 0)
  let pair (l : List (BitVec 3 × Nat × Nat × (Rm → Nat → Res))) (f : FVL) : Prop := ∃ e ∈ l, f.ty = e.1 ∧ f.imm.toNat = e.2.1
  vectorCompares.map (fun e => (e.1, ab, fun f => (f.ty = 0 ∨ f.ty = 3) ∧ f.rm = 0)) ++
  [(.vcmpltu, ab, word), (.vcmpgeu, ab, word), (.vcmpun, ab, typeless), (.vftest, a, typeless)] ++
  predicateForms.map (fun e => (e.1, none, typeless)) ++ countForms.map (fun e => (e.1, d, typeless)) ++
  [(.plen, a, typeless), (.plenr, a, typeless), (.vtop, a, typeless), (.vsel, dab, typeless)] ++
  moveForms.map (fun e => (e.1, da, fun f => typeless f ∧ f.imm.toNat < e.2.1)) ++
  gatherForms.map (fun e => (e.1, dab, typeless)) ++ fillForms.map (fun e => (e.1, d, typeless)) ++
  [(.vbcx, d, typeless), (.vins, d, typeless), (.vext, a, typeless), (.vcompr, da, typeless), (.vexpd, da, typeless),
   (.vredr, da, reduces), (.vredc, da, reduces), (.vreda, da, reduces), (.vscanr, da, reduces), (.vscanc, da, reduces),
   (.vsumsqr, da, fun f => f.ty = 0), (.vsamp, dab, typeless),
   (.vldexp, dab, fun f => f.ty = 0 ∧ f.imm = 0), (.vdot2, dabc, fun f => (f.ty = 1 ∨ f.ty = 2) ∧ f.imm = 0),
   (.vdot4, dabc, fun f => f.ty = 4 ∧ f.rm = 0 ∧ f.imm = 0),
   (.vcvt, da, pair laneConversions), (.vcvtn, da, pair narrowings), (.vcvtw, da, pair widenings)]

/-- The value of a loaded element, and the bytes of a stored one (R196). -/
def loadedElement (signed : Bool) (n v : Nat) : Word :=
  if signed then (BitVec.ofNat (8 * n) v).signExtend 32 else BitVec.ofNat 32 v
def storedElement (signed : Bool) (n : Nat) (e : Word) : Nat :=
  if signed then ((max (-2 ^ (8 * n - 1)) (min e.toInt (2 ^ (8 * n - 1) - 1))) % 2 ^ (8 * n)).toNat else e.toNat % 2 ^ (8 * n)

end Sys2Proof.Machine

/-- R146, R196–R199: vector loads with no store queued and no load under way that they must follow, and vector stores with
room in the queue. A load writes the active elements from the image; a store enters the queue as one entry with the bytes of
the elements it writes. Without such an element nothing is checked or accessed but the ring of ring-relative mode. R86,
R173–R175, R185–R187, R193, R198: faults of vector instructions, taken whatever the mask. Of every form that names a vector
register: a name beyond the window 0x07. Of the forms with a group, VCVTN, VCVTW and VTOPK: after that a group past v63
0x02, an operand inside the other's group 0x03. A type, rounding mode or immediate that the form does not take 0x02; where
it is a type pair that VCVTN or VCVTW does not take, ahead of a fault of a later member of the group (the model's choice,
log 91). A ring that is off or a slot too small 0x08. Where the spec leaves a point open, the model’s choice is stated: log
63, 85, 91. -/
def Obligations.VectorMemoryAndFaults : Prop :=
  ((∀ e ∈ vectorLayouts, ∀ (f : FVM) (s : State) (A : Nat), VectorReady s 2 [f.v] [f.a] → s.me.storeq = [] →
     s.me.loadWaits f.cls 0 A e.2.2.1 = false → ImageAt s f false e.2.2.1 A →
     ∃ t, exec (e.1 f) s = .next t ∧ VectorDone s t 2 [(f.v.toNat, fun r c =>
       loadedElement e.2.2.2.2.1 e.2.2.2.1 (leValue (plainByte s 0) (A + e.2.2.2.2.2.1 r c) e.2.2.2.1))]
       (s.me.mask7 f.g) noFlag) ∧
   (∀ e ∈ vectorLayouts, ∀ (f : FVM) (s : State) (A : Nat), VectorReady s 2 [f.v] [f.a] → s.me.storeq.length < 32 →
     ImageAt s f true e.2.2.1 A →
     let on (r c : Nat) : Prop := r < 16 ∧ c < 64 ∧ Active (s.me.mask7 f.g) r c ∧ e.2.2.2.2.2.2 r c = true
     (∃ r c, on r c) →
     ∃ t data keep, exec (e.2.1 f) s = .next t ∧
       Queued s t 2 ⟨.store, 0, A, e.2.2.1, data, keep, f.cls, 0, none, none, none, false, false, 0⟩ ∧
       (∀ b, keep.testBit b = true ↔ ∃ r c, on r c ∧ ∃ j < e.2.2.2.1, b = e.2.2.2.2.2.1 r c + j) ∧
       ∀ r c, on r c → data / 2 ^ (8 * e.2.2.2.2.2.1 r c) % 2 ^ (8 * e.2.2.2.1) =
         storedElement e.2.2.2.2.1 e.2.2.2.1 ((s.rv f.v.toNat).at r c)) ∧
   (∀ e ∈ vectorLayouts, ∀ (f : FVM) (s : State), VectorReady s 2 [f.v] [f.a] →
     f.mode = 0 ∨ f.mode = 1 ∧ ringServes (s.myRing f.q) f.off.toNat e.2.2.1 →
     (s.me.mask7 f.g = 0 → ∃ t, exec (e.1 f) s = .next t ∧ Passed s t 2) ∧
     ((∀ r < 16, ∀ c < 64, Active (s.me.mask7 f.g) r c → e.2.2.2.2.2.2 r c = false) →
       ∃ t, exec (e.2.1 f) s = .next t ∧ Passed s t 2))) ∧
  ((∀ e ∈ longNames, ∀ (f : FVL) (s : State), (∃ n ∈ e.2 f, s.me.wv ≤ n.toNat) →
     exec (e.1 f) s = .next (s.faulted (raise 0x07))) ∧
   (∀ e ∈ shortNames, ∀ (f : FV) (s : State), (∃ n ∈ e.2 f, s.me.wv ≤ n.toNat) →
     exec (e.1 f) s = .next (s.faulted (raise 0x07))) ∧
   (∀ e ∈ vectorLayouts, ∀ (f : FVM) (s : State), s.me.wv ≤ f.v.toNat →
     exec (e.1 f) s = .next (s.faulted (raise 0x07)) ∧ exec (e.2.1 f) s = .next (s.faulted (raise 0x07))) ∧
   (∀ (i : FVL → Instr) (f : FVL) (s : State) (first n other : Nat),
     (i = Instr.vcvtn ∧ (∃ e ∈ narrowings, f.ty = e.1 ∧ f.imm.toNat = e.2.1 ∧ n = 32 / e.2.2.1) ∧
         first = f.va.toNat ∧ other = f.vd.toNat ∨
       i = Instr.vcvtw ∧ (∃ e ∈ widenings, f.ty = e.1 ∧ f.imm.toNat = e.2.1 ∧ n = 32 / e.2.2.1) ∧
         first = f.vd.toNat ∧ other = f.va.toNat ∨
       i = Instr.vtopk ∧ n = 2 ∧ first = f.vd.toNat ∧ other = f.va.toNat) →
     let inside : Prop := other < s.me.wv ∧ ∀ j < n, first + j < 64 → first + j < s.me.wv
     (¬ inside → exec (i f) s = .next (s.faulted (raise 0x07))) ∧
     (inside → 64 < first + n → exec (i f) s = .next (s.faulted (raise 0x02))) ∧
     (inside → first + n ≤ 64 → (∃ j < n, s.vphys (first + j) = s.vphys other) →
       exec (i f) s = .next (s.faulted (raise 0x03)))) ∧
   (∀ e ∈ floatLanes, ∀ (f : FVL) (s : State), (∀ n ∈ vectorNames e.2.1 f.vd f.va f.vb f.vc, n.toNat < s.me.wv) →
     3 ≤ f.ty.toNat ∨ e.2.2.1 = false ∧ f.rm ≠ 0 → exec (e.1 f) s = .next (s.faulted (raise 0x02))) ∧
   (∀ e ∈ integerLanes, ∀ (f : FVL) (s : State), (∀ n ∈ vectorNames e.2.1 f.vd f.va f.vb f.vc, n.toNat < s.me.wv) →
     (f.ty ≠ 3 ∧ f.ty ≠ 4) ∨ f.rm ≠ 0 → exec (e.1 f) s = .next (s.faulted (raise 0x02))) ∧
   (∀ e ∈ typedForms, ∀ (f : FVL) (s : State), (∀ n ∈ e.2.1 f, n.toNat < s.me.wv) → ¬ e.2.2 f →
     exec (e.1 f) s = .next (s.faulted (raise 0x02))) ∧
   (∀ (f : FVL) (s : State), f.vd.toNat < 63 → f.vd.toNat + 1 < s.me.wv → f.va.toNat < s.me.wv →
     (∀ j < 2, s.vphys (f.vd.toNat + j) ≠ s.vphys f.va.toNat) →
     ¬ ((f.ty = 0 ∨ f.ty = 3) ∧ f.rm = 0 ∧ 1 ≤ f.imm.toNat ∧ f.imm.toNat ≤ 64) →
     exec (.vtopk f) s = .next (s.faulted (raise 0x02))) ∧
   (∀ e ∈ vectorLayouts, ∀ (f : FVM) (s : State), f.v.toNat < s.me.wv → f.mode = 1 →
     ¬ ringServes (s.myRing f.q) f.off.toNat e.2.2.1 →
     exec (e.1 f) s = .next (s.faulted (raise 0x08)) ∧ exec (e.2.1 f) s = .next (s.faulted (raise 0x08))))

/-! ## Rings, command registers and pushes -/

namespace Sys2Proof.Machine

/-- filled, claimed and slots of a ring (R27). -/
def filledOf (r : Ring) : Nat := (r.tail - r.head).toNat
def claimedOf (r : Ring) : Nat := (r.claim - r.tail).toNat
def slotsOf (r : Ring) : Nat := r.scount.toNat + 1
/-- slot_addr (R160). -/
def slotAddrOf (r : Ring) (k : Nat) : Nat := r.base.toNat + k % slotsOf r * (r.ssize.toNat * 64)
/-- The counter a ctr field names (R160). -/
def counterOf (r : Ring) (sel : Nat) : Nat := if sel = 0 then r.head.toNat else if sel = 1 then r.tail.toNat else r.claim.toNat
/-- owner_flip of n slots from counter value `start` on (R27). -/
def Flipped (old new : BitVec 256) (slots start n : Nat) : Prop :=
  ∀ i < 256, new.getLsbD i = (old.getLsbD i ^^
    decide (((List.range n).filter (fun k => decide ((start + k) % 512 % slots = i))).length % 2 = 1))

/-- A ring instruction is done: ring q of the strand's core is `r`; nothing else differs but the strand's context. -/
def RingDone (s t : State) (len : Nat) (q : BitVec 5) (r : Ring) : Prop :=
  SameBytes s t ∧ Sequel s t len ∧ t = (s.setMyRing q r).setMe t.me ∧ OnlyRegs (s.setMyRing q r).me t.me ∧ t.me.fstat = s.me.fstat

/-- The descriptor of two 64-bit words with its counters and owner bits cleared (R24, R160, R161). -/
def ringOfWords (lo hi : DWord) : Ring where
  claim := 0
  tail := 0
  head := 0
  en := hi.getLsbD 3
  mode := hi.extractLsb' 0 3
  sstride := lo.extractLsb' 56 8
  bcols := lo.extractLsb' 50 6
  brows := lo.extractLsb' 46 4
  fmt := lo.extractLsb' 42 4
  sgroup := lo.extractLsb' 38 4
  scount := lo.extractLsb' 30 8
  ssize := lo.extractLsb' 22 8
  base := lo.extractLsb' 0 22
  owners := 0

/-- A macro of `len` registers has entered queue q of the strand's core as its last entry (R43, R204, R212). -/
def Accepted (s u : State) (q len : Nat) (m : BitVec 512) : Prop :=
  let old := (s.core s.myCore).queue q
  SameBytes s u ∧ u = s.modCore s.myCore (fun k => { k with queues := (u.core s.myCore).queues }) ∧
    (∀ j, j ≠ q → (u.core s.myCore).queue j = (s.core s.myCore).queue j) ∧
    ∃ c : Command, (u.core s.myCore).queue q = { old with entries := old.entries ++ [c], mseq := old.mseq + 1 } ∧
      c.bits = m ∧ c.len = len ∧ c.strand.toNat = s.myStrand % 8 ∧ c.seq = old.mseq + 1 ∧
      c.gate = if m.toNat % 256 = 6 ∨ m.toNat % 256 = 7 then
        (List.range 8).map (fun j => ((s.core s.myCore).queue j).mseq) else []

/-- Of the context, only command registers and the pc differ. -/
def CommandDone (s t : State) (len : Nat) : Prop :=
  OnlyMe s t ∧ Sequel s t len ∧ t.me = { s.me with k := t.me.k, line := t.me.line, slot := t.me.slot, pass := Passing.none }
/-- Bits [pos + w − 1 : pos] of the macro that starts at kj are those of v, every other bit of a command register as before
(R12, R201). -/
def InsertedBits (s t : State) (j pos w v : Nat) : Prop :=
  ∀ n < 16, ∀ b < 128, (t.me.rk n).getLsbD b =
    let p := 128 * (n - j) + b
    if j ≤ n ∧ pos ≤ p ∧ p < pos + w then v.testBit (p - pos) else (s.me.rk n).getLsbD b

/-- A place, or a rectangle from it, is present and inside the partition (R31, R32, R87). -/
def goodPlace (s : State) (p : BitVec 13) (rows cols : Nat) : Prop :=
  s.present p.toNat = true ∧ p.toNat / 128 + rows ≤ 31 ∧ p.toNat % 128 + cols ≤ 63
def insidePartition (s : State) (p : BitVec 13) : Prop :=
  s.isPorch = true ∨ (s.partRect (s.partOf s.cur)).holds p.toNat = true
/-- A macro of n registers at kj as one number, register kj lowest. -/
def macroAt (s : State) (j : Nat) : Nat → BitVec 512
  | 0 => 0
  | n + 1 => (s.me.rk j).setWidth 512 ||| macroAt s (j + 1) n <<< 128

end Sys2Proof.Machine

/-- R157, R160, R162: the forms that read rings. RSTAT and RDESC give the counts and the descriptor, RADDR a slot's address,
ROWN an owner bit; RLD and RST access a slot as LD.S and ST.S do; RCLAIMA claims and gives the first slot's address. R26,
R28, R161: RCFG of a ring that no accepted macro names writes the descriptor, its counters and owner bits 0, when en is 0 or
it is well formed; an ill-formed descriptor is fault 0x02, a busy ring 0x08. R129, R158, R163: RBAR makes one arrival at a
barrier that has room; the party that completes the generation goes on, another parks. Its wait is looked at after every
update of the ring, and what it finds then stays: it is woken once the generation of its arrival is complete; a ring that is
off or no barrier any more is fault 0x08. Where the spec leaves a point open, the model’s choice is stated: log 59. -/
def Obligations.RingAccessConfigurationBarrier : Prop :=
  ((∀ (f : FQ) (s : State), Issues s 1 (s.guard4 f.g) [f.a] →
     let r := s.myRing f.q
     r.en = true → filledOf r + claimedOf r ≤ slotsOf r →
     ∃ t, exec (.rstat f) s = .next t ∧ ScalarDone s t 1 f.a ((0#6 ++ r.mode ++ BitVec.ofBool r.en ++ r.claim ++ r.tail ++ r.head ++
       BitVec.ofNat 9 (slotsOf r - filledOf r - claimedOf r) ++ (r.claim - r.tail) ++ (r.tail - r.head))) 0) ∧
   (∀ (f : FSY) (s : State), Issues s 2 (s.guard7 f.g) [f.d, f.a, f.b] →
     let q := f.imm.setWidth 5
     let r := s.myRing q
     let sel := f.imm.toNat / 2 ^ 5 % 4
     let n := 2 ^ (f.imm.toNat / 2 ^ 7 % 4)
     let k := (counterOf r sel + (s.rx f.b).toNat) % 512
     let addr := slotAddrOf r k + (s.rx f.a).toNat
     (∃ t, exec (.rdesc f) s = .next t ∧ ScalarDone s t 2 f.d
       (if f.imm.getLsbD 5 then (r.claim ++ r.tail ++ r.head ++ BitVec.ofBool r.en ++ r.mode).setWidth 64
        else r.sstride ++ r.bcols ++ r.brows ++ r.fmt ++ r.sgroup ++ r.scount ++ r.ssize ++ r.base) 0) ∧
     (r.en = true → ∃ t, exec (.rown f) s = .next t ∧
       ScalarDone s t 2 f.d (bool01 (r.owners.getLsbD ((s.rx f.b).toNat % slotsOf r))) 0) ∧
     (r.en = true → r.mode ≠ 1 → ∃ t, exec (.raddr f) s = .next t ∧
       ScalarDone s t 2 f.d (BitVec.ofNat 64 (slotAddrOf r (counterOf r sel + (s.rx f.b).toNat))) 0) ∧
     (r.en = true → r.mode ≠ 1 →
       let m := f.imm.toNat / 2 ^ 5 % 512 + (s.rx f.b).toNat
       m + filledOf r + claimedOf r ≤ slotsOf r →
       ∃ t, exec (.rclaima f) s = .next t ∧ Wrote s t f.d (BitVec.ofNat 64 (slotAddrOf r r.claim.toNat)) ∧
         RingDone s t 2 q { r with claim := r.claim + BitVec.ofNat 9 m }) ∧
     (r.en = true → r.mode ≠ 1 → (s.rx f.a).toNat + n ≤ r.ssize.toNat * 64 → addr % n = 0 →
       (k + 512 - r.head.toNat) % 512 < filledOf r + claimedOf r → s.me.storeq = [] → s.isPorch = false →
       s.checkAccess s.cur 0 addr n false s.me.cls = none →
       (s.me.loadWaits s.me.cls 0 addr n = false →
         ∃ t, exec (.rld f) s = .next t ∧ OnlyMe s t ∧ Loaded s t 2 f.d (leValue (plainByte s 0) addr n)) ∧
       (s.me.loadWaits s.me.cls 0 addr n = true →
         ∃ t, exec (.rld f) s = .next t ∧ Departed s s t 2 none 0 f.d addr n s.me.cls false false)) ∧
     (r.en = true → r.mode ≠ 1 → (s.rx f.a).toNat + n ≤ r.ssize.toNat * 64 → addr % n = 0 →
       (k + 512 - r.tail.toNat) % 512 < claimedOf r → s.me.storeq.length < 32 →
       s.checkAccess s.cur 0 addr n true s.me.cls = none →
       ∃ t, exec (.rst f) s = .next t ∧ Queued s t 2 (storeOf 0 addr n (s.rx f.d) s.me.cls 0)))) ∧
  (∀ (f : FSY) (s : State), Issues s 2 (s.guard7 f.g) [f.a, f.b] →
     let q := f.imm.setWidth 5
     let r := ringOfWords (s.rx f.a) (s.rx f.b)
     let busy := (s.core s.myCore).ringBusy q.toNat
     (busy = false → r.en = false ∨ r.wellFormed = true →
       ∃ t, exec (.rcfg f) s = .next t ∧ SameX s t ∧ RingDone s t 2 q r) ∧
     (busy = false → r.en = true → r.wellFormed = false → exec (.rcfg f) s = .next (s.faulted (raise 0x02))) ∧
     (busy = true → r.en = false ∨ r.wellFormed = true → exec (.rcfg f) s = .next (s.faulted (raise 0x08)))) ∧
  ((∀ (f : FSY) (s : State), WaitReady s (s.guard7 f.g) [] → s.me.far = [] →
     let q := f.imm.setWidth 5
     let r := s.myRing q
     let tail := r.tail + 1
     r.en = true → r.mode = 1 →
     (filledOf r + 1 = slotsOf r → ∃ t, exec (.rbar f) s = .next t ∧
       WaitOver (s.setMyRing q { r with tail := tail, claim := tail, head := tail }) t s.me s.me.wcount) ∧
     (filledOf r + 1 < slotsOf r → ∃ t, exec (.rbar f) s = .next t ∧
       WaitParked (s.setMyRing q { r with tail := tail, claim := tail }) t (.barrier q r.tail .waiting)) ∧
     (slotsOf r ≤ filledOf r → exec (.rbar f) s = .next (s.faulted (raise 0x08)))) ∧
   (∀ (k : Core) (i : Nat) (p q : BitVec 5) (gen : BitVec 9) (r : Ring) (w : RingWatch),
     (k.strand i).run = .parked (.barrier p gen w) →
     ((k.putRing q.toNat r).strand i).run = .parked (.barrier p gen (if p = q ∧ w = .waiting then
       (if r.en = false ∨ r.mode ≠ 1 then .broken else if (r.head - gen - 1).toNat < 256 then .met else .waiting) else w))) ∧
   (∀ (c : CoreId) (k : StrandId) (s : State) (q : BitVec 5) (gen : BitVec 9), let u := s.by (.strand c k)
     (s.core c.toNat).fenced = false →
     (u.nextLine.isSome = true → u.me.run = .parked (.barrier q gen .met) →
       ∃ t, exec (.barrierWake c k) s = .next t ∧ t.cur = s.cur ∧ WaitOver u (t.by u.cur) u.me u.me.wcount) ∧
     (u.me.run = .parked (.barrier q gen .broken) →
       exec (.barrierWake c k) s = .next ((u.takeFault (raise 0x08)).by s.cur))))

/-- R27, R157–R159: the counting forms with no store queued and, for the releases, no load of the fabric under way. RCLAIM
moves claim, RCOMMIT tail and RRELEASE head with their owner flips; at a barrier RCOMMIT is n arrivals, which at the last
party bring head up to tail. R158, R160, R162, R163: a ring that is off, or of the wrong mode, is fault 0x08 whatever the
guard; a count beyond what the ring holds, or more arrivals than a barrier has room for, is fault 0x08 with the descriptor
as it was. -/
def Obligations.RingCountersAndFaults : Prop :=
  (∀ (f : FQ) (s : State), Issues s 1 (s.guard4 f.g) [f.a] →
     let r := s.myRing f.q
     let n := f.cnt.toNat + (s.rx f.a).toNat
     r.en = true →
     (r.mode ≠ 1 → n + filledOf r + claimedOf r ≤ slotsOf r →
       ∃ t, exec (.rclaim f) s = .next t ∧ SameX s t ∧ RingDone s t 1 f.q { r with claim := r.claim + BitVec.ofNat 9 n }) ∧
     (s.me.storeq = [] → s.me.far = [] → r.mode ≠ 1 → n ≤ claimedOf r →
       ∃ t o, exec (.rcommit f) s = .next t ∧ SameX s t ∧ Flipped r.owners o (slotsOf r) r.tail.toNat n ∧
         RingDone s t 1 f.q { r with tail := r.tail + BitVec.ofNat 9 n, owners := o }) ∧
     (s.me.storeq = [] → s.me.far = [] → r.mode ≠ 1 → n ≤ filledOf r →
       ∃ t o, exec (.rrelease f) s = .next t ∧ SameX s t ∧ Flipped r.owners o (slotsOf r) r.head.toNat n ∧
         RingDone s t 1 f.q { r with head := r.head + BitVec.ofNat 9 n, owners := o }) ∧
     (s.me.storeq = [] → s.me.far = [] → r.mode = 1 → n + filledOf r ≤ slotsOf r →
       let tail := r.tail + BitVec.ofNat 9 n
       ∃ t, exec (.rcommit f) s = .next t ∧ SameX s t ∧ RingDone s t 1 f.q
         { r with tail := tail, claim := tail, head := if n + filledOf r = slotsOf r then tail else r.head })) ∧
  ((∀ (f : FQ) (s : State), (s.myRing f.q).en = false →
     ∀ i ∈ [Instr.rclaim, .rcommit, .rrelease, .rstat], exec (i f) s = .next (s.faulted (raise 0x08))) ∧
   (∀ (f : FQ) (s : State), (s.myRing f.q).mode = 1 →
     ∀ i ∈ [Instr.rclaim, .rrelease], exec (i f) s = .next (s.faulted (raise 0x08))) ∧
   (∀ (f : FSY) (s : State), (s.myRing (f.imm.setWidth 5)).en = false →
     ∀ i ∈ [Instr.raddr, .rld, .rst, .rclaima, .rown, .rbar], exec (i f) s = .next (s.faulted (raise 0x08))) ∧
   (∀ (f : FSY) (s : State), (s.myRing (f.imm.setWidth 5)).mode = 1 →
     ∀ i ∈ [Instr.raddr, .rld, .rst, .rclaima], exec (i f) s = .next (s.faulted (raise 0x08))) ∧
   (∀ (f : FQ) (s : State), Issues s 1 (s.guard4 f.g) [f.a] →
     let r := s.myRing f.q
     let n := f.cnt.toNat + (s.rx f.a).toNat
     r.en = true → r.mode ≠ 1 → filledOf r + claimedOf r ≤ slotsOf r →
     (slotsOf r < n + filledOf r + claimedOf r → exec (.rclaim f) s = .next (s.faulted (raise 0x08))) ∧
     (s.me.storeq = [] → s.me.far = [] → claimedOf r < n → exec (.rcommit f) s = .next (s.faulted (raise 0x08))) ∧
     (s.me.storeq = [] → s.me.far = [] → filledOf r < n → exec (.rrelease f) s = .next (s.faulted (raise 0x08)))) ∧
   (∀ (f : FQ) (s : State), Issues s 1 (s.guard4 f.g) [f.a] →
     let r := s.myRing f.q
     r.en = true → r.mode = 1 → s.me.storeq = [] → s.me.far = [] → filledOf r ≤ slotsOf r →
     slotsOf r - filledOf r < f.cnt.toNat + (s.rx f.a).toNat → exec (.rcommit f) s = .next (s.faulted (raise 0x08))))

/-- R12, R31, R32, R87, R200, R201: the instructions that form command registers and places. R43, R203, R204: PUSH and
PUSH.W of a macro that passes its checks. With room the queue takes it as its last entry; full, PUSH issues again and PUSH.W
parks with the macro, which enters once an entry is free. A macro that fails is a fault of the pushing strand. Where the
spec leaves a point open, the model’s choice is stated: log 13. -/
def Obligations.CommandRegistersAndPushes : Prop :=
  ((∀ (f : FL) (s : State), Issues s 2 (s.guard7 f.g) [f.a] →
     (∃ t, exec (.kli f) s = .next t ∧ CommandDone s t 2 ∧
       ∀ n, t.me.rk n = if n = f.d.toNat then f.imm.setWidth 128 else s.me.rk n) ∧
     (∃ t, exec (.kliw f) s = .next t ∧ CommandDone s t 2 ∧ ∀ n, ∀ b < 128, (t.me.rk n).getLsbD b =
       if n = f.d.toNat ∧ b / 32 = f.a.toNat % 4 then f.imm.getLsbD (b % 32) else (s.me.rk n).getLsbD b) ∧
     (∃ t, exec (.kmvx f) s = .next t ∧ CommandDone s t 2 ∧ ∀ n, ∀ b < 128, (t.me.rk n).getLsbD b =
       if n = f.d.toNat ∧ b / 64 = f.imm.toNat % 2 then (s.rx f.a).getLsbD (b % 64) else (s.me.rk n).getLsbD b) ∧
     (f.d.toNat + f.imm.toNat % 4 + 1 ≤ 16 → ∃ t, exec (.kclr f) s = .next t ∧ CommandDone s t 2 ∧
       ∀ n, t.me.rk n = if f.d.toNat ≤ n ∧ n ≤ f.d.toNat + f.imm.toNat % 4 then 0 else s.me.rk n)) ∧
   (∀ (f : FL) (s : State), 16 < f.d.toNat + f.imm.toNat % 4 + 1 → exec (.kclr f) s = .next (s.faulted (raise 0x02))) ∧
   (∀ (f : FK) (s : State),
     let w := f.width.toNat + 1
     (128 * (16 - f.k.toNat) < f.pos.toNat + w → exec (.kins f) s = .next (s.faulted (raise 0x02))) ∧
     (f.pos.toNat + w ≤ 128 * (16 - f.k.toNat) → Issues s 1 true [f.a] →
       ∃ t, exec (.kins f) s = .next t ∧ CommandDone s t 1 ∧ InsertedBits s t f.k.toNat f.pos.toNat w (s.rx f.a).toNat)) ∧
   (∀ (f : FP) (s : State), Issues s 2 (s.guard7 f.g) [f.d, f.a] → insidePartition s f.place →
     (goodPlace s f.place 0 0 ∨ f.place = 0 →
       ∃ t, exec (.lip f) s = .next t ∧ ScalarDone s t 2 f.d (f.place.setWidth 64) 0) ∧
     (goodPlace s f.place 0 0 → ∃ t, exec (.liw f) s = .next t ∧
       ScalarDone s t 2 f.d (BitVec.ofNat 64 (f.place.toNat * 2 ^ 27 + (s.rx f.a).toNat % 2 ^ 27)) 0) ∧
     (goodPlace s f.place f.rows.toNat f.cols.toNat →
       ∃ t, exec (.lir f) s = .next t ∧ ScalarDone s t 2 f.d ((f.cols ++ f.rows ++ f.place).setWidth 64) 0) ∧
     (goodPlace s f.place 0 0 → f.pos.toNat + 13 ≤ 128 * (16 - f.d.toNat) →
       ∃ t, exec (.kpl f) s = .next t ∧ CommandDone s t 2 ∧
         InsertedBits s t f.d.toNat f.pos.toNat 13 f.place.toNat) ∧
     (goodPlace s f.place f.rows.toNat f.cols.toNat → f.pos.toNat + 25 ≤ 128 * (16 - f.d.toNat) →
       ∃ t, exec (.krl f) s = .next t ∧ CommandDone s t 2 ∧
         InsertedBits s t f.d.toNat f.pos.toNat 25 (f.cols ++ f.rows ++ f.place).toNat)) ∧
   (∀ (f : FP) (s : State), f.place ≠ 0 → f.pos.toNat + 25 ≤ 128 * (16 - f.d.toNat) →
     (¬ goodPlace s f.place 0 0 → ∀ i ∈ [Instr.lip, .liw, .kpl, .lir, .krl],
       exec (i f) s = .next (s.faulted (raise 0x0F))) ∧
     (goodPlace s f.place f.rows.toNat f.cols.toNat → ¬ insidePartition s f.place →
       ∀ i ∈ [Instr.lip, .liw, .kpl, .lir, .krl], exec (i f) s = .next (s.faulted (raise 0x07))))) ∧
  ((∀ (f : FE) (s : State), s.isPorch = false →
     let q := f.queue.toNat
     let n := f.n.toNat + 1
     let m := macroAt s f.k.toNat n
     let full := queueDepth q ≤ ((s.core s.myCore).queue q).entries.length
     q < 14 → f.k.toNat + n ≤ 16 → macroFault q n m.toNat = none →
     (Issues s 1 (s.guard4 f.g) [] → ¬ full → ∃ u t, exec (.push f) s = .next t ∧ Accepted s u q n m ∧ Passed u t 1) ∧
     (s.guard4 f.g = true → full → exec (.push f) s = .next s) ∧
     (WaitReady s (s.guard4 f.g) [] → ¬ full →
       ∃ u t, exec (.pushW f) s = .next t ∧ Accepted s u q n m ∧ WaitOver u t s.me s.me.wcount) ∧
     (WaitReady s (s.guard4 f.g) [] → full →
       ∃ t, exec (.pushW f) s = .next t ∧ WaitParked s t (.push f.queue m n))) ∧
   (∀ (f : FE) (s : State), s.guard4 f.g = true →
     let q := f.queue.toNat
     let n := f.n.toNat + 1
     (14 ≤ q → exec (.push f) s = .next (s.faulted (raise 0x01))) ∧
     (q < 14 → 16 < f.k.toNat + n → exec (.push f) s = .next (s.faulted (raise 0x02))) ∧
     (q < 14 → f.k.toNat + n ≤ 16 → ∀ code, macroFault q n (macroAt s f.k.toNat n).toNat = some code →
       exec (.push f) s = .next (s.faulted (raise code)))) ∧
   (∀ (c : CoreId) (k : StrandId) (s : State) (q : BitVec 4) (m : BitVec 512) (n : Nat), let u := s.by (.strand c k)
     (s.core c.toNat).fenced = false → u.nextLine.isSome = true → u.me.run = .parked (.push q m n) →
     ((u.core c.toNat).queue q.toNat).entries.length < queueDepth q.toNat →
     ∃ v t, exec (.pushEntryFreed c k) s = .next t ∧ t.cur = s.cur ∧ Accepted u v q.toNat n m ∧
       WaitOver v (t.by u.cur) u.me u.me.wcount))

/-! ## Engines -/

namespace Sys2Proof.Machine

/-- Bits [lo + w − 1 : lo] of a macro. -/
def fieldOf (m lo w : Nat) : Nat := m / 2 ^ lo % 2 ^ w

/-- Queue q of core c may run a unit of its head macro `cmd`, whose opcode is `mop` (R45, R205, R212): it is not parked, the
core is neither fenced nor stopped, no ACHAIN or ABYPASS holds the row up. -/
def EngineReady (s : State) (c q mop : Nat) (cmd : Command) (rest : List Command) : Prop :=
  ((s.core c).queue q).entries = cmd :: rest ∧ ((s.core c).queue q).parked = none ∧ (s.core c).fenced = false ∧
    s.coreStopped c = false ∧ (s.core c).gated q cmd = false ∧ cmd.bits.toNat % 256 = mop

/-- The head macro of queue q has left it, complete (R43, R165, R205); the other queues are as before. -/
def MacroComplete (s t : State) (c q : Nat) (rest : List Command) : Prop :=
  let u := (s.core c).queue q
  let v := (t.core c).queue q
  v.entries = rest ∧ v.left = u.left + 1 ∧ v.mseq = u.mseq ∧ v.parked = none ∧ v.phase = 0 ∧ v.started = false ∧
    ∀ j, j ≠ q → (t.core c).queue j = (s.core c).queue j
/-- The head macro stays, with its counters at `ctr` and in phase 2; the other queues are as before. -/
def MacroRuns (s t : State) (c q ctr : Nat) : Prop :=
  let u := (s.core c).queue q
  let v := (t.core c).queue q
  v.entries = u.entries ∧ v.left = u.left ∧ v.mseq = u.mseq ∧ v.parked = none ∧ v.phase = 2 ∧ v.started = true ∧
    v.ctr = BitVec.ofNat 80 ctr ∧ ∀ j, j ≠ q → (t.core c).queue j = (s.core c).queue j
/-- The head macro has parked its queue on a fault (R45, R207). -/
def MacroParked (s t : State) (c q : Nat) (code : BitVec 8) : Prop :=
  let v := (t.core c).queue q
  v.entries = ((s.core c).queue q).entries ∧ v.left = ((s.core c).queue q).left ∧
    ∃ p, v.parked = some p ∧ p.record.code = code ∧ p.record.source = BitVec.ofNat 4 q

/-- Of the package, only arrays and engine queues of core c differ. -/
def OnlyArrays (s t : State) (c : Nat) : Prop :=
  t = s.setCore c { s.core c with queues := (t.core c).queues, arrays := (t.core c).arrays }
/-- Only the engine queues of core c differ from `u`. -/
def OnlyQueues (u t : State) (c : Nat) : Prop := t = u.setCore c { u.core c with queues := (t.core c).queues }

/-- The bytes of a placed row, or of its half, of the shaft of array j in row i of core c (R29, R245, R248). -/
def placedRow (s : State) (c i j row : Nat) (half : Bool) (off n : Nat) : Nat :=
  leValue (fun a => s.peek (.placed a)) (corePlace c i j * 2 ^ 27 + (row * 1024 + (if half then 512 else 0)) + off) n

/-- The activations of a unit (R209, R214): the vector of a unit that has one, zeros, or no products. -/
def unitActs (s : State) (c : Nat) (r : Ring) (afmt : Nat) : NestUnit → Option (List Nat)
  | .vec av =>
    let o := (if afmt = 2 then 64 else 32) * av.toNat
    let size := if afmt = 2 then 2 else 1
    let addr := slotAddrOf r ((r.head.toNat + o / (r.ssize.toNat * 64)) % 512) + o % (r.ssize.toNat * 64)
    some ((List.range 32).map (fun n => leValue (fun a => s.peek (.scratch c a)) (addr + size * n) size))
  | .zero => some (List.replicate 32 0)
  | _ => none

end Sys2Proof.Machine

/-- R209, R213–R215, R256: a unit of AMAC or ADIST on one array, its latch ready, adds its products to the sums that come in
and hands them on to the array below, or from row 7 to the landing, a skipped unit as an arrival only. On the first array of
a chain it does so once every sequencer of the chain has reached the unit: while one below has not, it waits, counters and
arrays as they were. Past the last unit the macro releases its slots and is complete. Where the spec leaves a point open,
the model’s choice is stated: log 14, 73. -/
def Obligations.ArrayMacros : Prop :=
  ∀ e ∈ [(Instr.amac, 0x03, false), (.adist, 0x04, true)], ∀ (c : CoreId) (q : QueueId) (s : State) (cmd : Command)
    (rest : List Command), EngineReady s c.toNat q.toNat e.2.1 cmd rest →
    let m := cmd.bits.toNat
    let k := s.core c.toNat
    let u := k.queue q.toNat
    let r := k.ring (fieldOf m 40 5)
    let cnt (n : Nat) : Nat := fieldOf u.ctr.toNat (16 * n) 16
    let afmt := fieldOf m 28 3
    let wfmt := fieldOf m 25 3
    (∀ (j : Nat) (x : Sums), j < 8 → fieldOf m 16 8 = 2 ^ j → u.started = true → u.ended = false →
      fieldOf m 77 1 = 0 ∨ u.wActive = some (weightRow m cnt % 2 ^ 64).toNat → u.ctr.toNat / 2 ^ 64 < nestExtent m 4 →
      0 ≤ fieldOf m 31 7 + nestSum m 32 cnt → fieldOf m 31 7 + nestSum m 32 cnt ≤ 127 →
      let kind := s.nestUnit c.toNat m cnt
      kind ≠ .fault →
      (∀ av, kind = .vec av → 0 ≤ av ∧
        (if afmt = 2 then 64 else 32) * av.toNat / (r.ssize.toNat * 64) % 512 < filledOf r) →
      let at_ := k.array (8 * q.toNat + j)
      (kind ≠ .skip → at_.active.tag.toNat = wfmt) →
      s.sumsIn c.toNat q.toNat j e.2.2 (pairMode afmt wfmt) = some x → x.dist = e.2.2 → x.mode = pairMode afmt wfmt →
      (k.chainFirst q.toNat j = true → (∃ i, q.toNat < i ∧ i < 8 ∧ s.atUnit c.toNat i j = false) →
        ∃ t, exec (e.1 c q) s = .next t ∧ OnlyQueues s t c.toNat ∧
          ∀ n, (t.core c.toNat).queue n = if n = q.toNat then { u with phase := 2 } else k.queue n) ∧
      ((k.chainFirst q.toNat j = true → s.chainReady 4 c.toNat q.toNat j = true) →
      let y := arraySums afmt wfmt e.2.2 (m.testBit 24) at_.active (unitActs s c.toNat r afmt kind) x.vals
      let out : Sums := ⟨e.2.2, pairMode afmt wfmt, y.1, x.sat || y.2⟩
      (q.toNat < 7 → (k.array (8 * (q.toNat + 1) + j)).north = none →
        ∃ t, exec (e.1 c q) s = .next t ∧ OnlyArrays s t c.toNat ∧
          MacroRuns s t c.toNat q.toNat (nestNext (nestExtent m) u.ctr.toNat) ∧
          ∀ n, (t.core c.toNat).array n =
            if n = 8 * q.toNat + j then { at_ with north := none }
            else if n = 8 * (q.toNat + 1) + j then { k.array n with north := some out }
            else k.array n) ∧
      (q.toNat = 7 → (∀ p, k.active = some p → p.bypass.getLsbD j = false) → k.deliveries.get [] j = [] →
        ∃ t, exec (e.1 c q) s = .next t ∧ MacroRuns s t c.toNat 7 (nestNext (nestExtent m) u.ctr.toNat) ∧
          t = s.setCore c.toNat { k with
            queues := (t.core c.toNat).queues, arrays := (t.core c.toNat).arrays
            deliveries := (t.core c.toNat).deliveries } ∧
          (∀ n, (t.core c.toNat).array n = if n = 56 + j then { at_ with north := none } else k.array n) ∧
          ∀ i, (t.core c.toNat).deliveries.get [] i = if i = j then
              [⟨(fieldOf m 31 7 + nestSum m 32 cnt).toNat, BitVec.ofNat 2 (fieldOf m 38 2),
                if kind = .skip then none else some out⟩]
            else k.deliveries.get [] i))) ∧
    ((nestExtent m 4 ≤ u.ctr.toNat / 2 ^ 64 ∨ u.ended = true) →
      (q.toNat = 7 → ∀ j, (fieldOf m 16 8).testBit j = true → k.deliveries.get [] j = []) → fieldOf m 69 8 ≤ filledOf r →
      ∃ t o, exec (e.1 c q) s = .next t ∧ MacroComplete s t c.toNat q.toNat rest ∧
        Flipped r.owners o (slotsOf r) r.head.toNat (fieldOf m 69 8) ∧
        OnlyQueues (s.setCore c.toNat (k.putRing (fieldOf m 40 5)
          { r with head := r.head + BitVec.ofNat 9 (fieldOf m 69 8), owners := o })) t c.toNat)

/-- R205, R210–R212, R250: the latch macros with no fill in progress in the arrays they name. ALATCH begins a fill of each
named shadow and leaves the queue; ASWAP exchanges active and shadow, and waits while a mitigation window is open; AZERO
clears the shadow; ACHAIN and ABYPASS, their gate open, set the chain of the active plane. A row that ALATCH may not read,
or that cannot be read, parks the queue. R210, R214, R216, R248–R251, R257: a beat of a latch fill holds the row's 64 bytes
as they are when it is transferred; the fill ends with its beats in the shadow, one not transferred before as the row was at
the beginning or is now, unless a mitigation window, open or due before the transfer has begun, holds it up or the core is
fenced; a streaming macro's latches are exchanged; the next delivery of a landing column updates its row, as `Block.take`
combines them, or its stage, and is counted. Where the spec leaves a point open, the model’s choice is stated: log 33, 39,
72. -/
def Obligations.LatchAndLandingMacros : Prop :=
  ((∀ (c : CoreId) (q : QueueId) (s : State) (cmd : Command) (rest : List Command),
     let m := cmd.bits.toNat
     let row := fieldOf m 28 17
     let mine (n : Nat) : Prop := n / 8 = q.toNat ∧ (fieldOf m 16 8).testBit (n % 8) = true
     let held (n : Nat) : Bool := (s.shaft (shaftIndex (corePlace c.toNat q.toNat (n % 8)))).open_
     (∀ n, mine n → ((s.core c.toNat).array n).fill = none) →
     (EngineReady s c.toNat q.toNat 0x01 cmd rest → row < s.cfg.placedRows - s.cfg.cellarRows →
       s.bad = [] → (∀ n, mine n → s.present (corePlace c.toNat q.toNat (n % 8)) = true) →
       ∃ t, exec (.alatch c q) s = .next t ∧ OnlyArrays s t c.toNat ∧ MacroComplete s t c.toNat q.toNat rest ∧
         ∀ n, (¬ mine n → (t.core c.toNat).array n = (s.core c.toNat).array n) ∧
           (mine n → (t.core c.toNat).array n = { (s.core c.toNat).array n with
             fill := some ⟨row, m.testBit 27, BitVec.ofNat 3 (fieldOf m 24 3),
               BitVec.ofNat 8192 (placedRow s c.toNat q.toNat (n % 8) row (m.testBit 27) 0
                 (if fieldOf m 24 3 = 2 then 512 else 1024)), [], some cmd.seq⟩ })) ∧
     (EngineReady s c.toNat q.toNat 0x01 cmd rest → fieldOf m 16 8 ≠ 0 →
       (s.cfg.placedRows ≤ row → ∃ t, exec (.alatch c q) s = .next t ∧ MacroParked s t c.toNat q.toNat 0x06) ∧
       (row < s.cfg.placedRows → s.cfg.placedRows - s.cfg.cellarRows ≤ row →
         ∃ t, exec (.alatch c q) s = .next t ∧ MacroParked s t c.toNat q.toNat 0x07) ∧
       (row < s.cfg.placedRows - s.cfg.cellarRows → (∀ n, mine n → s.present (corePlace c.toNat q.toNat (n % 8)) = true) →
         (∃ n, mine n ∧ s.badRow (shaftIndex (corePlace c.toNat q.toNat (n % 8))) row = true) →
         ∃ t, exec (.alatch c q) s = .next t ∧ MacroParked s t c.toNat q.toNat 0x0D)) ∧
     (EngineReady s c.toNat q.toNat 0x02 cmd rest → (∃ n, mine n ∧ held n = true) →
       ∃ t, exec (.aswap c q) s = .next t ∧ OnlyQueues s t c.toNat ∧
         ∀ j, (t.core c.toNat).queue j =
           if j = q.toNat then { (s.core c.toNat).queue j with phase := 4 } else (s.core c.toNat).queue j) ∧
     (EngineReady s c.toNat q.toNat 0x02 cmd rest → (∀ n, mine n → held n = false) →
       ∃ t, exec (.aswap c q) s = .next t ∧ OnlyArrays s t c.toNat ∧ MacroComplete s t c.toNat q.toNat rest ∧
         ((t.core c.toNat).queue q.toNat).espec.getLsbD 7 = !((s.core c.toNat).queue q.toNat).espec.getLsbD 7 ∧
         ∀ n, (¬ mine n → (t.core c.toNat).array n = (s.core c.toNat).array n) ∧
           (mine n → (t.core c.toNat).array n = { (s.core c.toNat).array n with
             active := ((s.core c.toNat).array n).shadow, shadow := ((s.core c.toNat).array n).active })) ∧
     (EngineReady s c.toNat q.toNat 0x05 cmd rest →
       ∃ t, exec (.azero c q) s = .next t ∧ OnlyArrays s t c.toNat ∧ MacroComplete s t c.toNat q.toNat rest ∧
         ∀ n, (¬ mine n → (t.core c.toNat).array n = (s.core c.toNat).array n) ∧
           (mine n → (t.core c.toNat).array n = { (s.core c.toNat).array n with
             shadow := { tile := 0, tag := BitVec.ofNat 3 (fieldOf m 24 3), summary := false } }))) ∧
   (∀ (c : CoreId) (s : State) (cmd : Command) (rest : List Command) (p : Plane),
     let m := cmd.bits.toNat
     let mask := BitVec.ofNat 8 (fieldOf m 16 8)
     (s.core c.toNat).gateOpen cmd = true → (s.core c.toNat).active = some p →
     (EngineReady s c.toNat 0 0x06 cmd rest → ∃ t north, exec (.achain c) s = .next t ∧
       MacroComplete s t c.toNat 0 rest ∧
       (∀ j < 8, BitVec.getLsbD north j = m.testBit (16 + 4 * j + 3)) ∧
       t = s.setCore c.toNat { s.core c.toNat with
         queues := (t.core c.toNat).queues
         active := some { p with start := (List.range 8).map (fun j => fieldOf m (16 + 4 * j) 3), fromNorth := north } }) ∧
     (EngineReady s c.toNat 0 0x07 cmd rest → ∃ t, exec (.abypass c) s = .next t ∧
       MacroComplete s t c.toNat 0 rest ∧
       t = s.setCore c.toNat { s.core c.toNat with
         queues := (t.core c.toNat).queues
         active := some { p with bypass := if m.testBit 24 then p.bypass ||| mask else p.bypass &&& ~~~mask } }))) ∧
  ((∀ (c : CoreId) (a : BitVec 6) (fresh : BitVec 16) (s : State) (f : Fill),
     let old := (s.core c.toNat).array a.toNat
     let shaft := s.shaft (shaftIndex (corePlace c.toNat (a.toNat / 8) (a.toNat % 8)))
     let window : Bool := shaft.open_ || decide (shaft.grid < s.up / 72 / 64000) && f.beats.isEmpty || (s.core c.toNat).fenced
     old.fill = some f →
     (window = true → exec (.latchFillComplete c a fresh) s = .next s ∧
       ∀ n, s.fillBeat c.toNat (a.toNat / 8) (a.toNat % 8) n = s) ∧
     (window = false → ∀ n < 16, let t := s.fillBeat c.toNat (a.toNat / 8) (a.toNat % 8) n
       t = s.setCore c.toNat { s.core c.toNat with arrays := (t.core c.toNat).arrays } ∧
       (∀ j, j ≠ a.toNat → (t.core c.toNat).array j = (s.core c.toNat).array j) ∧
       ∃ g, (t.core c.toNat).array a.toNat = { old with fill := some g } ∧ g = { f with beats := g.beats } ∧
         (∀ j, j ≠ n → g.beats.lookup j = f.beats.lookup j) ∧
         (n < (if f.fmt = 2 then 8 else 16) → g.beats.lookup n = some (BitVec.ofNat 512
           (placedRow s c.toNat (a.toNat / 8) (a.toNat % 8) f.row f.half (64 * n) 64)))) ∧
     (window = false → ∃ t tile, exec (.latchFillComplete c a fresh) s = .next t ∧ OnlyArrays s t c.toNat ∧
       (t.core c.toNat).queues = (s.core c.toNat).queues ∧
       (∀ n, (t.core c.toNat).array n = if n = a.toNat then
         { old with shadow := ⟨tile, f.fmt, tileSummary f.fmt.toNat tile⟩, fill := none } else (s.core c.toNat).array n) ∧
       ∀ b < 16, BitVec.extractLsb' (512 * b) 512 tile =
         if (if f.fmt = 2 then 8 else 16) ≤ b then 0
         else if (f.beats.lookup b).isSome = true then (f.beats.lookup b).getD 0
         else if fresh.getLsbD b then
           BitVec.ofNat 512 (placedRow s c.toNat (a.toNat / 8) (a.toNat % 8) f.row f.half (64 * b) 64)
         else f.old.extractLsb' (512 * b) 512)) ∧
   (∀ (c : CoreId) (q : QueueId) (s : State) (cmd : Command) (rest : List Command),
     let m := cmd.bits.toNat
     let u := (s.core c.toNat).queue q.toNat
     let w := weightRow m (fun n => fieldOf u.ctr.toNat (16 * n) 16)
     let mine (n : Nat) : Prop := n / 8 = q.toNat ∧ (fieldOf m 16 8).testBit (n % 8) = true
     u.entries = cmd :: rest → (s.core c.toNat).fenced = false → m % 256 = 0x03 ∨ m % 256 = 0x04 → m.testBit 77 = true →
     u.parked = none →
     u.ctr.toNat / 2 ^ 64 < nestExtent m 4 → u.wShadow = some (w % 2 ^ 64).toNat →
     u.ended = false → (∀ n, mine n → ((s.core c.toNat).array n).fill = none ∧
       (s.shaft (shaftIndex (corePlace c.toNat q.toNat (n % 8)))).open_ = false) → nextWeight m w (2 ^ 80) u.ctr.toNat = none →
     ∃ t, exec (.latchSwap c q) s = .next t ∧ OnlyArrays s t c.toNat ∧
       (∀ j, (t.core c.toNat).queue j = if j = q.toNat then { u with wActive := u.wShadow, wShadow := none, phase := 2, espec := u.espec ^^^ 0x80 }
         else (s.core c.toNat).queue j) ∧
       ∀ n, (¬ mine n → (t.core c.toNat).array n = (s.core c.toNat).array n) ∧
         (mine n → (t.core c.toNat).array n = { (s.core c.toNat).array n with
           active := ((s.core c.toNat).array n).shadow, shadow := ((s.core c.toNat).array n).active })) ∧
   (∀ (c : CoreId) (col : BitVec 3) (s : State) (d : Delivery) (rest : List Delivery),
     let k := s.core c.toNat
     k.deliveries.get [] col.toNat = d :: rest → k.held d.row col.toNat = false → k.fenced = false →
     ∃ t, exec (.landingArrival c col) s = .next t ∧
       t = s.setCore c.toNat { k with
         rows := (t.core c.toNat).rows, stage := (t.core c.toNat).stage, arrivals := (t.core c.toNat).arrivals
         deliveries := (t.core c.toNat).deliveries, lstat := (t.core c.toNat).lstat } ∧
       (∀ j, (t.core c.toNat).deliveries.get [] j = if j = col.toNat then rest else k.deliveries.get [] j) ∧
       (∀ b, k.lstat.getLsbD b = true → (t.core c.toNat).lstat.getLsbD b = true) ∧
       ∀ r, ∀ j < 8,
         let here := r = d.row ∧ j = col.toNat
         ((t.core c.toNat).arrived r j).toNat = (if here then min 255 ((k.arrived r j).toNat + 1) else (k.arrived r j).toNat) ∧
         (t.core c.toNat).block r j = (match d.sums with
           | some x => if here ∧ d.lmode ≠ 2 then ((k.block r j).take d.lmode x).1 else k.block r j
           | none => k.block r j) ∧
         (t.core c.toNat).stageBlock r j = (match d.sums with
           | some x => if here ∧ d.lmode = 2 then ⟨x.mode, x.vals⟩ else k.stageBlock r j
           | none => k.stageBlock r j)))

namespace Sys2Proof.Machine

/-- A landing macro may work on landing row r (R206, R216): it has begun and its counter names r, or it waits for no arrivals
and r is its first row. -/
def LandingReady (s : State) (c mop : Nat) (cmd : Command) (rest : List Command) (r : Nat) : Prop :=
  let m := cmd.bits.toNat
  let u := (s.core c).queue 9
  EngineReady s c 9 mop cmd rest ∧ r ≤ fieldOf m 24 7 + fieldOf m 31 7 ∧
    ((u.started = true ∧ fieldOf u.ctr.toNat 0 16 = r) ∨
     (u.started = false ∧ fieldOf m 38 8 = 0 ∧ m.testBit 46 = false ∧ r = fieldOf m 24 7))

/-- Landing row r is done: the core is `k` but for its queues, whose head goes on at row r + 1 or, after its last row, is
complete. -/
def RowDone (s t : State) (c : Nat) (cmd : Command) (rest : List Command) (r : Nat) (k : Core) : Prop :=
  let v := (t.core c).queue 9
  t = s.setCore c { k with queues := (t.core c).queues } ∧
    (r = fieldOf cmd.bits.toNat 24 7 + fieldOf cmd.bits.toNat 31 7 → MacroComplete s t c 9 rest) ∧
    (r < fieldOf cmd.bits.toNat 24 7 + fieldOf cmd.bits.toNat 31 7 → v.entries = cmd :: rest ∧ v.started = true ∧
      v.parked = none ∧ v.left = ((s.core c).queue 9).left ∧ fieldOf v.ctr.toNat 0 16 = r + 1 ∧
      ∀ j, j ≠ 9 → (t.core c).queue j = (s.core c).queue j)

/-- Only landing rows and lstat of a core differ, lstat keeping its bits; block b of row n is `f n b` where given. -/
def RowsWritten (k l : Core) (f : Nat → Nat → Option Block) : Prop :=
  (∀ b, k.lstat.getLsbD b = true → l.lstat.getLsbD b = true) ∧
    ∀ n, ∀ b < 8, l.block n b = (f n b).getD (k.block n b)

/-- The value of a landing column as ACC40 float, and rounded to FP32 (R216, R218). -/
def landValue (k : Core) (r col : Nat) : Acc :=
  let b := k.block r (col / 32)
  accFloat b.tag (b.vals.getD (col % 32) 0)
def landFp32 (k : Core) (r col : Nat) : Nat := (fpOfAcc Fmt.fp32 .rne (landValue k r col)).bits

/-- The binary32 number −∞. -/
def minusInf : Nat := 0xFF800000
/-- landing_exp of the FP32 difference a − b. -/
def expOf (a b : Nat) : Nat := landingExp (fpAdd Fmt.fp32 .rne (fp32 a) (fp32 b) true).bits
/-- The maximum that smax_merge gives (R69). -/
def mergeMax (m1 m2 : Nat) : Nat :=
  if (fp32 m1).isNan || (fp32 m2).isNan then 0x7FC00000 else (fpMax Fmt.fp32 (fp32 m1) (fp32 m2)).bits
/-- The sum, or one output column, that smax_merge gives (R69). -/
def mergeValue (m1 m2 : Nat) (x1 x2 : Acc) : Acc :=
  let m := mergeMax m1 m2
  if (fp32 m1).isNan || (fp32 m2).isNan then accNan
  else if m = minusInf then 0
  else accAddF (accScale x1 (extOfFp (fp32 (expOf m1 m)))) (accScale x2 (extOfFp (fp32 (expOf m2 m))))

/-- Column `col` of row r in the output format of an EDRAIN (R217): unscaled containers keep the row's value, the others take it
as ACC40 float, scaled on request, and convert it. -/
def drainValue (k : Core) (m r col : Nat) : Nat :=
  let b := k.block r (col / 32)
  if fieldOf m 47 4 = 5 ∧ m.testBit 51 = false then accStore b.tag (b.vals.getD (col % 32) 0)
  else
    let y := if m.testBit 51 then accScale (landValue k r col) (extOfFp (fp32 (fieldOf m 60 32))) else landValue k r col
    match fieldOf m 47 4 with
    | 0 => (mk8OfAcc y).bits
    | 1 => ((intFrom 8 .rne (accFp y)).lane 8).bits
    | 2 => (fpOfAcc Fmt.bf16 .rne y).bits
    | 3 => (fpOfAcc Fmt.fp16 .rne y).bits
    | 4 => (fpOfAcc Fmt.fp32 .rne y).bits
    | _ => accStore .float y
/-- The image of row r of an EDRAIN (R217, R384): its columns in order, or the triple of the row with its paired o row. -/
def drainOut (k : Core) (m r : Nat) : Nat :=
  let cols := landCols (fieldOf m 16 8)
  if fieldOf m 47 4 = 6 then
    let x := k.softMax r
    let o := x.orow.getD r
    x.m.toNat + accStore .float x.s * 2 ^ 64 +
      packValues 8 (cols.map (fun col => let b := k.block o (col / 32); accStore b.tag (b.vals.getD (col % 32) 0))) * 2 ^ 128
  else packValues (match fieldOf m 47 4 with | 0 | 1 => 1 | 2 | 3 => 2 | 4 => 4 | _ => 8) (cols.map (drainValue k m r))

/-- A landing macro of one row has put `size` bytes into slots it claims of ring q and commits (R159, R217): the slots' bytes are
those of `image`, every other byte of the scratchpad is as before, the ring's counters move by the slots taken. -/
def RingOut (s t : State) (c q size image : Nat) : Prop :=
  let r := (s.core c).ring q
  let n := (size + r.ssize.toNat * 64 - 1) / (r.ssize.toNat * 64)
  let at_ (i : Nat) : Nat := slotAddrOf r ((r.claim.toNat + i / (r.ssize.toNat * 64)) % 512) + i % (r.ssize.toNat * 64)
  (∃ o, Flipped r.owners o (slotsOf r) r.tail.toNat n ∧ ∀ p, (t.core c).ring p = if p = q then
      { r with claim := r.claim + BitVec.ofNat 9 n, tail := r.tail + BitVec.ofNat 9 n, owners := o } else (s.core c).ring p) ∧
    (∀ i < size, t.peek (.scratch c (at_ i)) = BitVec.ofNat 8 (image / 2 ^ (8 * i))) ∧
    ∀ b, (∀ i < size, b ≠ .scratch c (at_ i)) → t.peek b = s.peek b
/-- The ring takes an output of `size` bytes in a format code (R217), whose slots do not repeat where the counter wraps (R27). -/
def ringTakes (r : Ring) (code size : Nat) : Prop :=
  r.en = true ∧ r.mode ≠ 1 ∧ 1 ≤ r.ssize.toNat ∧ (r.fmt = 0 ∨ r.fmt.toNat = code) ∧
    (let n := (size + r.ssize.toNat * 64 - 1) / (r.ssize.toNat * 64)
     n + filledOf r + claimedOf r ≤ slotsOf r ∧ (512 % slotsOf r = 0 ∨ r.claim.toNat + n ≤ 512))

end Sys2Proof.Machine

/-- R65, R69, R70, R216, R218, R219, R384: one landing row of EEXP, EFOLD and the four ESMAX macros: nothing of the package
differs but what the row's work names, by the equations of R69, R70 and R219, and after the last row ESMAX merge counts a
pass and ESMAX reset clears the count. Worked values of R69: two maxima equal add their sums, one of −∞ adds nothing, a NaN
gives the canonical NaN. R71, R159, R217, R220–R222: EDRAIN, ETOPK and ETURN of one row put its image into slots they claim
and commit, or EDRAIN into placed memory, clearing the row under its tags and its counts with clr; ESCALE adds the staged
row times its scales and clears the stage, releasing its slots after the last row. Where the spec leaves a point open, the
model’s choice is stated: log 32, 33, 38, 39. -/
def Obligations.LandingRowsAndOutputs : Prop :=
  ((∀ (c : CoreId) (s : State) (cmd : Command) (rest : List Command) (r : Nat), LandingReady s c.toNat 0x21 cmd rest r →
     let k := s.core c.toNat
     ∃ t l, exec (.eexp c) s = .next t ∧ RowDone s t c.toNat cmd rest r l ∧ l = { k with rows := l.rows, lstat := l.lstat } ∧
       RowsWritten k l (fun n b => if n = r ∧ (fieldOf cmd.bits.toNat 16 8).testBit b = true then
         some ⟨.float, (List.range 32).map (fun j => accOfExt (extOfFp (fp32 (landingExp (landFp32 k r (32 * b + j))))))⟩
         else none)) ∧
   (∀ (c : CoreId) (s : State) (cmd : Command) (rest : List Command) (r lo : Nat) (more : List Nat),
     LandingReady s c.toNat 0x24 cmd rest r → colsOf (fieldOf cmd.bits.toNat 16 8) = lo :: more →
     let k := s.core c.toNat
     ∃ t l, exec (.efold c) s = .next t ∧ RowDone s t c.toNat cmd rest r l ∧ l = { k with rows := l.rows, lstat := l.lstat } ∧
       RowsWritten k l (fun n b => if n = r ∧ b = lo then
         some ⟨.float, (List.range 32).map (fun j =>
           more.foldl (fun a b => accAddF a (landValue k r (32 * b + j))) (landValue k r (32 * lo + j)))⟩ else none)) ∧
   (∀ (c : CoreId) (s : State) (cmd : Command) (rest : List Command) (r : Nat), LandingReady s c.toNat 0x22 cmd rest r →
     let m := cmd.bits.toNat
     let k := s.core c.toNat
     let last := r = fieldOf m 24 7 + fieldOf m 31 7
     let orow := fieldOf m 49 7 + (r - fieldOf m 24 7)
     let prow := fieldOf m 56 7 + (r - fieldOf m 24 7)
     let x := k.softMax r
     let out (b : Nat) : Bool := (fieldOf m 63 8).testBit b
     (fieldOf m 47 2 = 0 →
       let e := s.slotEntry c.toNat (fieldOf m 72 9)
       let keys := if m.testBit 71 then (if slotValid e && !slotMasked e then slotKvLen e else 0) else fieldOf m 81 16
       let cols := landCols (fieldOf m 16 8)
       let active (col : Nat) : Bool := decide (fieldOf m 160 16 + col < keys)
       let z (col : Nat) : Nat := (fpMul Fmt.fp32 .rne (fp32 (landFp32 k r col)) (fp32 (fieldOf m 128 32))).bits
       let mp := (cols.filter active).foldl (fun a col => (fpMax Fmt.fp32 (fp32 a) (fp32 (z col))).bits) minusInf
       let p (col : Nat) : Acc :=
         if active col ∧ mp ≠ minusInf then accOfExt (extOfFp (fp32 (expOf (z col) mp))) else 0
       ∃ t l, exec (.esmaxPass c) s = .next t ∧ RowDone s t c.toNat cmd rest r l ∧
         l = { k with rows := l.rows, smax := l.smax, lstat := l.lstat } ∧
         RowsWritten k l (fun n b => if n = r ∧ (fieldOf m 16 8).testBit b = true then
           some ⟨.float, (List.range 32).map (fun j => p (32 * b + j))⟩ else none) ∧
         ∀ n, l.softMax n = if n = r then
           ⟨x.m, x.s, BitVec.ofNat 32 mp, cols.foldl (fun a col => accAddF a (p col)) 0, some orow⟩ else k.softMax n) ∧
     (fieldOf m 47 2 = 1 → ∃ t l, exec (.esmaxMerge c) s = .next t ∧ RowDone s t c.toNat cmd rest r l ∧
       l = { k with rows := l.rows, smax := l.smax, lstat := l.lstat, pass := if last then k.pass + 1 else k.pass } ∧
       RowsWritten k l (fun n b =>
         if n = prow ∧ out b = true then some ⟨.float, List.replicate 32 0⟩
         else if n = orow ∧ out b = true then some ⟨.float, (List.range 32).map (fun j =>
           mergeValue x.m.toNat x.pm.toNat (landValue k orow (32 * b + j)) (landValue k prow (32 * b + j)))⟩
         else none) ∧
       ∀ n, l.softMax n = if n = r then
         ⟨BitVec.ofNat 32 (mergeMax x.m.toNat x.pm.toNat), mergeValue x.m.toNat x.pm.toNat x.s x.ps, 0xFF800000, 0, some orow⟩
         else k.softMax n) ∧
     (fieldOf m 47 2 = 2 → ∃ t l, exec (.esmaxFinish c) s = .next t ∧ RowDone s t c.toNat cmd rest r l ∧
       l = { k with rows := l.rows, smax := l.smax, lstat := l.lstat, lempty := l.lempty } ∧
       (∀ n < 128, l.lempty.getLsbD n = (k.lempty.getLsbD n || decide (n = r ∧ x.s = 0))) ∧
       RowsWritten k l (fun n b => if n = orow ∧ out b = true then
         some ⟨.float, (List.range 32).map (fun j =>
           if x.s = 0 then 0 else if (fp32 x.m.toNat).isNan then accNan
           else accOfExt (extOfFp (fp32 (fpDiv Fmt.fp32 .rne (accFp (landValue k orow (32 * b + j))) (accFp x.s)).bits)))⟩
         else none) ∧
       ∀ n, l.softMax n = if n = r then { x with orow := some orow } else k.softMax n) ∧
     (fieldOf m 47 2 = 3 → ∃ t l, exec (.esmaxReset c) s = .next t ∧
       RowDone s t c.toNat cmd rest r l ∧
       l = { k with rows := l.rows, smax := l.smax, pass := if last then 0 else k.pass } ∧
       (∀ n, l.softMax n = if n = r then
         ⟨0xFF800000, 0, 0xFF800000, 0, some (fieldOf m 49 7 + (r - fieldOf m 24 7))⟩ else k.softMax n) ∧
       RowsWritten k l (fun n b => if n = fieldOf m 49 7 + (r - fieldOf m 24 7) ∧ (fieldOf m 63 8).testBit b = true then
         some ⟨.float, List.replicate 32 0⟩ else none))) ∧
   (let one := accOfExt (extOfFp (fp32 0x3F800000))
    mergeMax 0 0 = 0 ∧ mergeValue 0 0 one one = accOfExt (extOfFp (fp32 0x40000000)) ∧
    mergeMax 0 minusInf = 0 ∧ mergeValue 0 minusInf one one = one ∧
    mergeMax 0 0x7F800001 = 0x7FC00000 ∧ mergeValue 0 0x7F800001 one one = accNan)) ∧
  ((∀ (c : CoreId) (s : State) (cmd : Command) (rest : List Command) (r : Nat),
     let m := cmd.bits.toNat
     let k := s.core c.toNat
     let cols := countOnes 8 (fieldOf m 16 8)
     fieldOf m 31 7 = 0 → (k.queue 9).started = false →
     (LandingReady s c.toNat 0x20 cmd rest r → fieldOf m 53 2 = 0 →
       ringTakes (k.ring (fieldOf m 55 5)) (drainCode (fieldOf m 47 4)) (drainBytes m) →
       ∃ t, exec (.edrain c) s = .next t ∧ MacroComplete s t c.toNat 9 rest ∧ OnlyCore s t c.toNat ∧
         RingOut s t c.toNat (fieldOf m 55 5) (drainBytes m) (drainOut k m r) ∧
         RowsWritten k (t.core c.toNat) (fun n b => if n = r ∧ m.testBit 52 = true ∧ (fieldOf m 16 8).testBit b = true then
           some ⟨(k.block r b).tag, List.replicate 32 0⟩ else none) ∧
         ∀ n, ∀ b < 8, ((t.core c.toNat).arrived n b) =
           if n = r ∧ m.testBit 52 = true ∧ (fieldOf m 16 8).testBit b = true then 0 else k.arrived n b) ∧
     (LandingReady s c.toNat 0x20 cmd rest r → fieldOf m 53 2 = 2 → s.bad = [] →
       let a := fieldOf m 128 64
       s.engineFault c.toNat 1 a (drainBytes m) true = none →
       ∃ t, exec (.edrain c) s = .next t ∧ MacroComplete s t c.toNat 9 rest ∧
         StoredBytes s t (.strand c 0) 1 a (drainBytes m) (drainOut k m r % 2 ^ (8 * drainBytes m)) ∧
         t = { s with placed := t.placed, cores := t.cores } ∧
         (∀ i, t.core i = if i = c.toNat then { k with
           queues := (t.core i).queues, rows := (t.core i).rows, arrivals := (t.core i).arrivals, lstat := (t.core i).lstat }
           else s.core i) ∧
         RowsWritten k (t.core c.toNat) (fun n b => if n = r ∧ m.testBit 52 = true ∧ (fieldOf m 16 8).testBit b = true then
           some ⟨(k.block r b).tag, List.replicate 32 0⟩ else none) ∧
         ∀ n, ∀ b < 8, ((t.core c.toNat).arrived n b) =
           if n = r ∧ m.testBit 52 = true ∧ (fieldOf m 16 8).testBit b = true then 0 else k.arrived n b) ∧
     (LandingReady s c.toNat 0x23 cmd rest r →
       let n := fieldOf m 47 7 + 1
       let xs := (landCols (fieldOf m 16 8)).map (fun col => (landFp32 k r col, col))
       let best := (xs.foldr insertRanked []).take n
       let pairs := best ++ List.replicate (n - best.length) (0x7FC00000, 2 ^ 32 - 1)
       ringTakes (k.ring (fieldOf m 54 5)) 0 (8 * n) →
       ∃ t, exec (.etopk c) s = .next t ∧ MacroComplete s t c.toNat 9 rest ∧ OnlyCore s t c.toNat ∧
         RowsWritten k (t.core c.toNat) (fun _ _ => none) ∧
         RingOut s t c.toNat (fieldOf m 54 5) (8 * n) (packValues 8 (pairs.map (fun e => e.1 + e.2 * 2 ^ 32)))) ∧
     (LandingReady s c.toNat 0x25 cmd rest r →
       let afmt := fieldOf m 47 3
       let size := if afmt = 2 then 2 else 1
       ringTakes (k.ring (fieldOf m 50 5)) (if afmt = 0 then 1 else if afmt = 1 then 2 else 4) (32 * size * cols) →
       ∃ t, exec (.eturn c) s = .next t ∧ MacroComplete s t c.toNat 9 rest ∧ OnlyCore s t c.toNat ∧
         RowsWritten k (t.core c.toNat) (fun _ _ => none) ∧
         RingOut s t c.toNat (fieldOf m 50 5) (32 * size * cols) (packValues size
           ((landCols (fieldOf m 16 8)).map (fun col => (convertAcc afmt (landValue k r col)).bits))))) ∧
   (∀ (c : CoreId) (s : State) (cmd : Command) (rest : List Command) (r : Nat),
     let m := cmd.bits.toNat
     let k := s.core c.toNat
     let q := fieldOf m 47 5
     let ring := k.ring q
     let slot := ring.ssize.toNat * 64
     let scale (i : Nat) : Nat :=
       leValue (fun o => s.peek (.scratch c.toNat (slotAddrOf ring ((ring.head.toNat + o / slot) % 512) + o % slot)))
         (fieldOf m 52 16 + 2 * i) 2
     LandingReady s c.toNat 0x26 cmd rest r → (k.queue 9).started = true → fieldOf m 68 8 ≤ filledOf ring →
     let on (b : Nat) : Bool := (fieldOf m 16 8).testBit b
     let before (b : Nat) : Nat := 32 * ((List.range b).filter on).length
     let staged (col : Nat) : Acc := let b := k.stageBlock r (col / 32); accFloat b.tag (b.vals.getD (col % 32) 0)
     ∃ t o l, exec (.escale c) s = .next t ∧
       RowDone s t c.toNat cmd rest r
         (if r = fieldOf m 24 7 + fieldOf m 31 7 then
            l.putRing q { ring with head := ring.head + BitVec.ofNat 9 (fieldOf m 68 8), owners := o }
          else l) ∧
       Flipped ring.owners o (slotsOf ring) ring.head.toNat (fieldOf m 68 8) ∧
       l = { k with rows := l.rows, stage := l.stage } ∧
       RowsWritten k l (fun n b => if n = r ∧ on b = true then
         some ⟨.float, (List.range 32).map (fun j => accAddF (landValue k r (32 * b + j))
           (accScale (staged (32 * b + j)) (extOfFp ⟨Fmt.bf16, scale (before b + j)⟩)))⟩ else none) ∧
       ∀ n, ∀ b < 8, l.stageBlock n b = if n = r ∧ on b = true then Block.reset else k.stageBlock n b))

namespace Sys2Proof.Machine

/-- An engine may use a ring (R163, R214): it is enabled and no barrier. -/
def ringUsable (r : Ring) : Prop := r.en = true ∧ r.mode ≠ 1
/-- free of a ring (R27). -/
def freeOf (r : Ring) : Nat := slotsOf r - filledOf r - claimedOf r
/-- Queue q of core c waits in phase `p`; nothing else differs. -/
def QueueWaits (s t : State) (c q : Nat) (p : BitVec 4) : Prop :=
  OnlyQueues s t c ∧ ∀ j, (t.core c).queue j =
    if j = q then { (s.core c).queue j with phase := p } else (s.core c).queue j
/-- Slots of the destination ring are committed and slots of source rings released (R158, R159): `tails p` are those committed of ring p,
`heads p` those released; nothing else of a ring differs. -/
def RingsMoved (k l : Core) (heads tails : Nat → Nat) : Prop :=
  ∀ p, (∃ o, l.ring p = { k.ring p with
      head := (k.ring p).head + BitVec.ofNat 9 (heads p), tail := (k.ring p).tail + BitVec.ofNat 9 (tails p), owners := o } ∧
    (tails p = 0 → Flipped (k.ring p).owners o (slotsOf (k.ring p)) (k.ring p).head.toNat (heads p)) ∧
    (heads p = 0 → Flipped (k.ring p).owners o (slotsOf (k.ring p)) (k.ring p).tail.toNat (tails p)))

/-- The scratchpad address of byte o of a copy's side in a ring, from the slot of counter `start` on (R225). -/
def sideAddr (r : Ring) (start o : Nat) : Nat :=
  slotAddrOf r ((start + o / (r.ssize.toNat * 64)) % 512) + o % (r.ssize.toNat * 64)
/-- Extents of a copy's counters: pieces of a run, then its levels (R224). -/
def copyLevels (m i : Nat) : Nat := if i = 0 then (fieldOf m 192 16 + 64) / 64 else fieldOf m (192 + 64 * i) 16 + 1
/-- The place of a piece of a copy (R225): the start, the strides of levels 1 to 4 at bit `lo`, the pieces before it in its run. -/
def pieceAt (m start lo ctr : Nat) : Nat :=
  (((start : Int) + ([1, 2, 3, 4].map (fun i =>
    (fieldOf ctr (16 * i) 16 : Int) * (BitVec.ofNat 24 (fieldOf m (192 + 64 * i + lo) 24)).toInt)).sum +
      64 * fieldOf ctr 0 16) % 2 ^ 64).toNat
/-- n bytes at a of the source of a copy are v, read by the engine in state b, and x is the state then: of its filled slots from the
head on, or as an access of the engine. -/
def CopyReads (b : State) (c m a n v : Nat) (x : State) : Prop :=
  let r := (b.core c).ring (fieldOf m 23 5)
  if m.testBit 22 then a + n ≤ fieldOf m 36 8 * (r.ssize.toNat * 64) ∧ x = b ∧
    v = leValue (fun i => b.peek (.scratch c (sideAddr r r.head.toNat i))) a n
  else b.engineRead c (fieldOf m 16 3) a n = (.val v, x)
/-- n bytes v put at d of the destination of a copy leave state y: in the slots it has claimed, `base` the first, or as an access of
the engine. -/
def CopyWrites (x : State) (c m base d n v : Nat) (y : State) : Prop :=
  let r := (x.core c).ring (fieldOf m 29 5)
  if m.testBit 28 then d + n ≤ fieldOf m 44 8 * (r.ssize.toNat * 64) ∧
    y = x.setCore c { x.core c with scratch := (y.core c).scratch, strands := (y.core c).strands } ∧
    (∀ i < n, y.peek (.scratch c (sideAddr r base (d + i))) = BitVec.ofNat 8 (v / 2 ^ (8 * i))) ∧
    ∀ z, (∀ i < n, z ≠ .scratch c (sideAddr r base (d + i))) → y.peek z = x.peek z
  else x.engineWrite c (fieldOf m 19 3) d n v (BitVec.ofNat 4 (fieldOf m 52 4)) = (.done, y)
/-- Nothing but queues, rings and contexts of core c differs. -/
def OnlyQueuesAndRings (y t : State) (c : Nat) : Prop :=
  t = y.setCore c { y.core c with queues := (t.core c).queues, rings := (t.core c).rings, strands := (t.core c).strands }

end Sys2Proof.Machine

/-- R21, R158, R159, R206, R223–R225, R269, R274, R278: VAPPLY puts one element row of its result into its destination slot:
the first row of an image waits for the sources' images and a free slot, and claims it; the last commits it and releases the
sources, and the last image completes the macro. The iteration field [47:32] of the counter stays 0 (the model's choice, log
84). CPY copies one piece at its counters, between memories and rings, waits for the slots of its rings and claims, and
after the last piece commits and releases; a piece in one S-group, one outside its slots and one whose access faults park
the queue. The engine's accesses of host and of pooled memory reach the bytes that the window and the page map, in pooled
memory the coherent ones. Where the spec leaves a point open, the model’s choice is stated: log 84. -/
def Obligations.VectorAndCopyMacros : Prop :=
  (∀ (c : CoreId) (s : State) (cmd : Command) (rest : List Command) (o : VecOp), EngineReady s c.toNat 8 0x10 cmd rest →
    let m := cmd.bits.toNat
    let k := s.core c.toNat
    let u := k.queue 8
    let row := fieldOf u.ctr.toNat 0 16
    let img := fieldOf u.ctr.toNat 16 16
    let dest := fieldOf m 42 5
    let ring := k.ring dest
    let srcs := [fieldOf m 27 5, fieldOf m 32 5, fieldOf m 37 5].take o.srcs
    let fit (q : Nat) : Prop := ringUsable (k.ring q) ∧ 64 ≤ (k.ring q).ssize.toNat
    let ready : Prop := (∀ q ∈ srcs, 1 ≤ filledOf (k.ring q)) ∧ 1 ≤ freeOf ring
    let alone : Prop := ∀ q ∈ srcs.drop 1, (k.ring q).sgroup ≠ (k.ring (fieldOf m 27 5)).sgroup
    let written (t : State) (base : Nat) : Prop :=
      t = s.setCore c.toNat { k with
        queues := (t.core c.toNat).queues, rings := (t.core c.toNat).rings, scratch := (t.core c.toNat).scratch
        strands := (t.core c.toNat).strands, vstat := (t.core c.toNat).vstat } ∧
      (∀ b, k.vstat.getLsbD b = true → (t.core c.toNat).vstat.getLsbD b = true) ∧
      ∀ a, t.peek (.scratch c.toNat a) = if base ≤ a ∧ a < base + 256 then
        BitVec.ofNat 8 ((s.applyRow c.toNat m row o).1 / 2 ^ (8 * (a - base))) else s.peek (.scratch c.toNat a)
    vapplyOp m = some o →
    (1 ≤ row → row ≤ 14 → 64 ≤ ring.ssize.toNat →
      ∃ t, exec (.vapply c) s = .next t ∧ MacroRuns s t c.toNat 8 (row + 1 + img * 2 ^ 16) ∧
        written t (slotAddrOf ring u.base.toNat + 256 * row) ∧ ∀ p, (t.core c.toNat).ring p = k.ring p) ∧
    (row = 0 → (∃ q ∈ dest :: srcs, ¬ fit q) → ∃ t, exec (.vapply c) s = .next t ∧ MacroParked s t c.toNat 8 0x08) ∧
    (row = 0 → (∀ q ∈ dest :: srcs, fit q) → ¬ alone → ∃ t, exec (.vapply c) s = .next t ∧ MacroParked s t c.toNat 8 0x04) ∧
    (row = 0 → (∀ q ∈ dest :: srcs, fit q) → alone → ¬ ready →
      ∃ t, exec (.vapply c) s = .next t ∧ QueueWaits s t c.toNat 8 3) ∧
    (row = 0 → (∀ q ∈ dest :: srcs, fit q) → alone → ready →
      ∃ t, exec (.vapply c) s = .next t ∧ MacroRuns s t c.toNat 8 (1 + img * 2 ^ 16) ∧
        written t (slotAddrOf ring ring.claim.toNat) ∧ ((t.core c.toNat).queue 8).base = ring.claim ∧
        ∀ p, (t.core c.toNat).ring p = if p = dest then { ring with claim := ring.claim + 1 } else k.ring p) ∧
    (row = 15 → 64 ≤ ring.ssize.toNat → ring.mode ≠ 1 → 1 ≤ claimedOf ring →
      (∀ q ∈ srcs, 1 ≤ filledOf (k.ring q) ∧ filledOf (k.ring q) ≤ slotsOf (k.ring q)) →
      ∃ t, exec (.vapply c) s = .next t ∧ written t (slotAddrOf ring u.base.toNat + 256 * 15) ∧
        (img = fieldOf m 47 8 → MacroComplete s t c.toNat 8 rest) ∧
        (img ≠ fieldOf m 47 8 → MacroRuns s t c.toNat 8 ((img + 1) * 2 ^ 16)) ∧
        RingsMoved k (t.core c.toNat) (fun p => if p ∈ srcs then 1 else 0) (fun p => if p = dest then 1 else 0))) ∧
  (∀ (c : CoreId) (q : QueueId) (s : State) (cmd : Command) (rest : List Command), EngineReady s c.toNat q.toNat 0x30 cmd rest →
    q ≠ 9 →
    let m := cmd.bits.toNat
    let k := s.core c.toNat
    let u := k.queue q.toNat
    let ctr := u.ctr.toNat
    let from_ := m.testBit 22
    let to_ := m.testBit 28
    let sn := fieldOf m 36 8
    let dn := fieldOf m 44 8
    let sr := k.ring (fieldOf m 23 5)
    let dr := k.ring (fieldOf m 29 5)
    let bad : Prop := (from_ = true ∧ ¬ ringUsable sr) ∨ (to_ = true ∧ ¬ ringUsable dr)
    let short : Prop := (from_ = true ∧ filledOf sr < sn) ∨ (to_ = true ∧ freeOf dr < dn)
    let claims : Bool := to_ && !u.started
    let claimed : State := if claims then (s.setCore c.toNat (k.putRing (fieldOf m 29 5)
        { dr with claim := dr.claim + BitVec.ofNat 9 dn })).modQueue c.toNat q.toNat (fun v => { v with base := dr.claim }) else s
    let b := claimed.modQueue c.toNat q.toNat (fun v => { v with started := true })
    let base := (if claims then dr.claim else u.base).toNat
    let n := min 64 (fieldOf m 192 16 + 1 - 64 * fieldOf ctr 0 16)
    let a := pieceAt m (fieldOf m 64 64) 16 ctr
    let d := pieceAt m (fieldOf m 128 64) 40 ctr
    let inside : Prop := (from_ = true → a + n ≤ sn * (sr.ssize.toNat * 64)) ∧ (to_ = true → d + n ≤ dn * (dr.ssize.toNat * 64))
    let padFrom (i : Nat) : Nat := if from_ then sideAddr sr sr.head.toNat i else i
    let padTo (i : Nat) : Nat := if to_ then sideAddr dr base i else i
    let apart : Prop := fieldOf m 16 3 ≠ 0 ∨ fieldOf m 19 3 ≠ 0 ∨ ∀ i ∈ [a, a + n - 1], ∀ j ∈ [d, d + n - 1],
      padFrom i / 2 ^ 18 ≠ padTo j / 2 ^ 18
    let next := nestNext (copyLevels m) ctr
    let last : Prop := copyLevels m 4 ≤ next / 2 ^ 64
    ctr / 2 ^ 64 < copyLevels m 4 →
    (u.started = false → bad → ∃ t, exec (.cpy c q) s = .next t ∧ MacroParked s t c.toNat q.toNat 0x08) ∧
    (u.started = false → ¬ bad → short → ∃ t, exec (.cpy c q) s = .next t ∧ QueueWaits s t c.toNat q.toNat 3) ∧
    (u.started = true ∨ (¬ bad ∧ ¬ short) →
      (¬ inside → ∃ t, exec (.cpy c q) s = .next t ∧ MacroParked s t c.toNat q.toNat 0x08) ∧
      (inside → ¬ apart → ∃ t, exec (.cpy c q) s = .next t ∧ MacroParked s t c.toNat q.toNat 0x04) ∧
      (inside → apart → ∀ f x, from_ = false → b.engineRead c.toNat (fieldOf m 16 3) a n = (.fault f, x) →
        ∃ t, exec (.cpy c q) s = .next t ∧ MacroParked s t c.toNat q.toNat f) ∧
      (inside → apart → ∀ v x, CopyReads b c.toNat m a n v x →
        (∀ f y, to_ = false → x.engineWrite c.toNat (fieldOf m 19 3) d n v (BitVec.ofNat 4 (fieldOf m 52 4)) = (.fault f, y) →
          ∃ t, exec (.cpy c q) s = .next t ∧ MacroParked s t c.toNat q.toNat f) ∧
        ((to_ = true ∨ ∃ y, x.engineWrite c.toNat (fieldOf m 19 3) d n v (BitVec.ofNat 4 (fieldOf m 52 4)) = (.done, y)) →
          (¬ last → ∃ y t, exec (.cpy c q) s = .next t ∧ CopyWrites x c.toNat m base d n v y ∧
            OnlyQueuesAndRings y t c.toNat ∧ (∀ p, (t.core c.toNat).ring p = (b.core c.toNat).ring p) ∧
            MacroRuns s t c.toNat q.toNat next) ∧
          (let dr' := (b.core c.toNat).ring (fieldOf m 29 5)
           last → (from_ = true → sn ≤ filledOf sr) →
            (to_ = true → dr'.mode ≠ 1 ∧ dn ≤ claimedOf dr' ∧ filledOf dr' + claimedOf dr' ≤ slotsOf dr') →
            ∃ y t, exec (.cpy c q) s = .next t ∧ CopyWrites x c.toNat m base d n v y ∧
              OnlyQueuesAndRings y t c.toNat ∧ MacroComplete s t c.toNat q.toNat rest ∧
              RingsMoved (b.core c.toNat) (t.core c.toNat)
                (fun p => if from_ = true ∧ p = fieldOf m 23 5 then sn else 0)
                (fun p => if to_ = true ∧ p = fieldOf m 29 5 then dn else 0)))))) ∧
  (∀ (c : CoreId) (s : State) (a n v : Nat) (cls : BitVec 4), 1 ≤ n → s.bad = [] →
    let g := Agent.strand c 0
    (s.engineFault c.toNat 3 a n false = none → ∀ w, s.hostWindow a n = some w →
      s.engineRead c.toNat 3 a n = (.val (leValue (fun i => s.peek (.host i)) (w.target + (a - w.hbase)) n), s) ∧
      (w.writable = true → ∃ t, s.engineWrite c.toNat 3 a n v cls = (.done, t) ∧
        StoredBytes s t g 3 (w.target + (a - w.hbase)) n (v % 2 ^ (8 * n)))) ∧
    (∀ sp < 2, s.engineFault c.toNat sp a n false = none →
      s.engineRead c.toNat sp a n = (.val (leValue (byteOf s g sp) a n), s) ∧
      (s.engineFault c.toNat sp a n true = none → ∃ t, s.engineWrite c.toNat sp a n v cls = (.done, t) ∧
        StoredBytes s t g sp a n (v % 2 ^ (8 * n)))) ∧
    (∀ pa u, a % 64 + n ≤ 64 → a % 64 = pa % 64 → a < 2 ^ 52 → a + n ≤ 2 ^ 52 → s.asidOf g ≠ 0 →
      (s.translate (s.asidOf g) a n false true = (.ok pa 0, u) →
        ∃ t, s.engineRead c.toNat 2 a n =
          (.val (leValue (fun i => loadByte u c.toNat (BitVec.ofNat 12 (s.asidOf g)) a pa n true i) 0 n), t) ∧ SameBytes u t) ∧
      (s.translate (s.asidOf g) a n true true = (.ok pa 0, u) → NotWalked u (pa / 64) → u.roKeep pa n = 2 ^ n - 1 →
        u.qstatValue pa n (v % 2 ^ (8 * n)) = v % 2 ^ (8 * n) → u.blockValue pa (v % 2 ^ (8 * n)) n = v % 2 ^ (8 * n) →
        ∃ t, s.engineWrite c.toNat 2 a n v cls = (.done, t) ∧ StoredBytes u t g 2 pa n (v % 2 ^ (8 * n)))))

/-! ## KV and fabric macros -/

namespace Sys2Proof.Machine

/-- The KV macro at the head of queue 12 of core c begins, on slot n, which holds a request, unmasked, and head h of it (R42, R226,
R227). -/
def KvReady (s : State) (c mop : Nat) (cmd : Command) (rest : List Command) (n h : Nat) : Prop :=
  EngineReady s c 12 mop cmd rest ∧ ((s.core c).queue 12).started = false ∧ ((s.core c).queue 12).mark = 0 ∧
    n ≤ 511 ∧ slotValid (s.slotEntry c n) = true ∧ slotMasked (s.slotEntry c n) = false ∧ h < 8 ∧
    h < s.kvHeads (slotRec (s.slotEntry c n))
/-- The page list of slot n and head h. -/
def listOf (s : State) (c n h : Nat) : Nat := s.kvList (slotRec (s.slotEntry c n)) h
/-- The list has one page, and its bytes may be accessed. -/
def OnePage (s : State) (c n h : Nat) : Prop :=
  s.kvPages (listOf s c n h) = 1 ∧ s.kvFaults [(listOf s c n h, 16)] = none ∧ s.kvFaults [(listOf s c n h + 16, 32)] = none
/-- The first 8 bytes at the head of a ring. -/
def firstWord (s : State) (c : Nat) (r : Ring) : Nat := leValue (fun a => s.peek (.scratch c a)) (slotAddrOf r r.head.toNat) 8
/-- A ring that an engine may read `n` slots of. -/
def ringFeeds (r : Ring) (n : Nat) : Prop := r.en = true ∧ r.mode ≠ 1 ∧ 1 ≤ r.ssize.toNat ∧ n ≤ filledOf r
/-- The ring after its first n slots are released. -/
def Released (r r' : Ring) (n : Nat) : Prop :=
  ∃ o, Flipped r.owners o (slotsOf r) r.head.toNat n ∧ r' = { r with head := r.head + BitVec.ofNat 9 n, owners := o }

end Sys2Proof.Machine

/-- R226, R229, R230, R317–R319: KVPIN, KVFREE and KVEVICT on a list of one page change its entry alone, or push its page on
the free list and drop the entry; a masked or empty slot has no page to work on. R227, R228, R385: KVAPPEND of one token
writes its key and value into the last page, which has room, marks it a survivor and counts it; KVPOS of one position writes
its packed position, as `packedPos` counts survivors, to the output ring. R231: KVPROMOTE of an entry outside a re-run step.
Promotion pops a page, copies the spilled page from host memory into it and clears the spilled bit when the checksum agrees;
demotion copies the page to host memory, keeps its checksum, sets the bit and pushes the page. Where the spec leaves a point
open, the model’s choice is stated: log 34 to 37, 92. -/
def Obligations.KvMacros : Prop :=
  ((∀ (c : CoreId) (s : State) (cmd : Command) (rest : List Command) (n h : Nat),
     let m := cmd.bits.toNat
     let l := listOf s c.toNat n h
     let e := l + 16
     fieldOf m 16 9 = n → OnePage s c.toNat n h →
     (KvReady s c.toNat 0x43 cmd rest n h → fieldOf m 25 8 = 2 ^ h →
       ∃ t v, exec (.kvpin c) s = .next t ∧ MacroComplete s t c.toNat 12 rest ∧
         (∀ b < 64, Nat.testBit v b = if b = 0 then decide (0 < fieldOf m 33 3) else (s.entFlags e).testBit b) ∧ v < 2 ^ 64 ∧
         OnlyQueues (s.setPlaced (e + 24) 8 v) t c.toNat) ∧
     (KvReady s c.toNat 0x44 cmd rest n h → fieldOf m 25 8 = 2 ^ h → m.testBit 33 = false →
       s.entSpilled e = false → s.entPoisoned e = false →
       let fl := s.kvFree l
       s.kvFaults [(fl, 8), (freeEntry fl (s.freeCount fl), 8)] = none → s.freeCount fl < s.freeCap fl →
       (s.pushPage fl (s.entAddr e)).kvPages l = 1 →
       ∃ t, exec (.kvfreeList c) s = .next t ∧ MacroComplete s t c.toNat 12 rest ∧
         OnlyQueues ((s.pushPage fl (s.entAddr e)).removeEntry l 0) t c.toNat) ∧
     (KvReady s c.toNat 0x42 cmd rest n h → fieldOf m 25 9 = 0 → fieldOf m 34 8 = 2 ^ h → m.testBit 42 = false →
       s.entPinned e = false → s.entUsed e ≠ 64 →
       let win := s.recField (slotRec (s.slotEntry c.toNat n)) 0x18 4
       win ≠ 0 →
       let cut : Int := slotPos (s.slotEntry c.toNat n) + slotInCount (s.slotEntry c.toNat n) - win
       ∃ t v, exec (.kvevictWindow c) s = .next t ∧ MacroComplete s t c.toNat 12 rest ∧
         (∀ b < 64, Nat.testBit v b = ((s.entSurv e).testBit b && decide (cut ≤ s.entPos e + b))) ∧ v < 2 ^ 64 ∧
         OnlyQueues (s.setPlaced (e + 8) 8 v) t c.toNat) ∧
     (KvReady s c.toNat 0x42 cmd rest n h → fieldOf m 25 9 = 0 → fieldOf m 34 8 = 2 ^ h → m.testBit 42 = true →
       s.entUsed e ≠ 64 →
       let r := (s.core c.toNat).ring (fieldOf m 43 5)
       ringFeeds r 1 →
       ∃ t r', exec (.kvevictMask c) s = .next t ∧ MacroComplete s t c.toNat 12 rest ∧ Released r r' 1 ∧
         OnlyQueues ((s.setPlaced (e + 8) 8 (s.entSurv e &&& firstWord s c.toNat r)).setCore c.toNat
           ((s.core c.toNat).putRing (fieldOf m 43 5) r')) t c.toNat)) ∧
   (∀ (c : CoreId) (s : State) (cmd : Command) (rest : List Command), EngineReady s c.toNat 12 0x44 cmd rest →
     let m := cmd.bits.toNat
     let fl := fieldOf m 192 64
     m.testBit 33 = true → s.kvFaults [(fl, 8)] = none →
     (s.freeCount fl < s.freeCap fl → s.kvFaults [(freeEntry fl (s.freeCount fl), 8)] = none → ∃ t, exec (.kvfreePage c) s = .next t ∧ MacroComplete s t c.toNat 12 rest ∧
       OnlyQueues (s.pushPage fl (fieldOf m 128 64)) t c.toNat) ∧
     (s.freeCap fl ≤ s.freeCount fl → ∃ t, exec (.kvfreePage c) s = .next t ∧ MacroParked s t c.toNat 12 0x02)) ∧
   (∀ (c : CoreId) (s : State) (cmd : Command) (rest : List Command),
     let m := cmd.bits.toNat
     let n := fieldOf m 16 9
     ((s.core c.toNat).queue 12).started = false →
     slotValid (s.slotEntry c.toNat n) = false ∨ slotMasked (s.slotEntry c.toNat n) = true →
     (EngineReady s c.toNat 12 0x43 cmd rest →
       ∃ t, exec (.kvpin c) s = .next t ∧ MacroComplete s t c.toNat 12 rest ∧ OnlyQueues s t c.toNat) ∧
     (EngineReady s c.toNat 12 0x45 cmd rest → ∃ t,
       exec (if m.testBit 44 then .kvpromoteDemotion c else .kvpromotePromotion c) s = .next t ∧
         MacroComplete s t c.toNat 12 rest ∧ OnlyQueues s t c.toNat))) ∧
  ((∀ (c : CoreId) (s : State) (cmd : Command) (rest : List Command) (n h : Nat), KvReady s c.toNat 0x40 cmd rest n h →
     let m := cmd.bits.toNat
     let l := listOf s c.toNat n h
     let e := l + 16 + 32 * (s.kvPages l - 1)
     let r := (s.core c.toNat).ring (fieldOf m 42 5)
     let dh := 16 * (fieldOf m 47 3 + 1)
     let slots := (2 * dh + r.ssize.toNat * 64 - 1) / (r.ssize.toNat * 64)
     let t0 := s.entUsed e
     let page := s.entAddr e
     let kv := r.streamRead (s.core c.toNat).scratch r.head 0 (2 * dh)
     fieldOf m 16 9 = n → fieldOf m 25 9 = 0 → fieldOf m 34 8 = 2 ^ h → m.testBit 50 = false → ringFeeds r slots →
     s.recField (slotRec (s.slotEntry c.toNat n)) 0 1 = 3 → s.kvPages l ≠ 0 → t0 ≠ 64 → s.entSpilled e = false →
     s.kvFaults [(l, 16), (e, 32), (page + 128 * t0, dh), (page + 8192 + 128 * t0, dh)] = none →
     let u1 := s.setPlaced (page + 128 * t0) dh (kv % 2 ^ (8 * dh))
     let u2 := u1.setPlaced (page + 8192 + 128 * t0) dh (kv / 2 ^ (8 * dh))
     let u3 := u2.setPlaced (e + 8) 8 (u2.entSurv e ||| 2 ^ t0)
     let u4 := u3.setPlaced (e + 24) 8 (putBits (u3.entFlags e) 8 8 (t0 + 1))
     u1.entSpilled e = false →
     ∃ t r', exec (.kvappend c) s = .next t ∧ MacroComplete s t c.toNat 12 rest ∧ Released r r' slots ∧
       OnlyQueues (u4.setCore c.toNat ((s.core c.toNat).putRing (fieldOf m 42 5) r')) t c.toNat) ∧
   (∀ (c : CoreId) (s : State) (cmd : Command) (rest : List Command) (n h : Nat), KvReady s c.toNat 0x41 cmd rest n h →
     let m := cmd.bits.toNat
     let l := listOf s c.toNat n h
     let k := s.core c.toNat
     let qi := fieldOf m 28 5
     let qo := fieldOf m 33 5
     let ri := k.ring qi
     let ro := k.ring qo
     fieldOf m 16 9 = n → fieldOf m 25 3 = h → fieldOf m 38 16 = 0 → qi ≠ qo → ringFeeds ri 1 →
     ro.en = true → ro.mode ≠ 1 → 1 ≤ ro.ssize.toNat → 1 + filledOf ro + claimedOf ro ≤ slotsOf ro →
     s.kvFaults [(l, 16), (l + 16, 32 * s.kvPages l)] = none →
     ∃ t ri' o, exec (.kvpos c) s = .next t ∧ MacroComplete s t c.toNat 12 rest ∧ OnlyCore s t c.toNat ∧
       Released ri ri' 1 ∧ Flipped ro.owners o (slotsOf ro) ro.tail.toNat 1 ∧
       (∀ q, (t.core c.toNat).ring q = if q = qi then ri' else if q = qo then
         { ro with claim := ro.claim + 1, tail := ro.tail + 1, owners := o } else k.ring q) ∧
       StoredBytes s t (.strand c 0) 0 (slotAddrOf ro ro.claim.toNat) 4 (s.packedPos l (firstWord s c.toNat ri)))) ∧
  (∀ (c : CoreId) (s : State) (cmd : Command) (rest : List Command) (n h : Nat), KvReady s c.toNat 0x45 cmd rest n h →
     let m := cmd.bits.toNat
     let l := listOf s c.toNat n h
     let e := l + 16 + 32 * fieldOf m 28 16
     let fl := s.kvFree l
     fieldOf m 16 9 = n → fieldOf m 25 3 = h → s.inRerun c.toNat = false → fieldOf m 28 16 < s.kvPages l →
     s.kvFaults [(l, 16), (e, 32), (fl, 8)] = none →
     (∀ (w : HostOut), m.testBit 44 = false → s.entSpilled e = true → s.freeCount fl ≠ 0 →
       s.kvFaults [(freeEntry fl (s.freeCount fl - 1), 8), ((s.popPage fl).1, 16384)] = none →
       s.engineFault c.toNat 3 ((s.popPage fl).2.entAddr e) 16384 false = none →
       s.hostWindow ((s.popPage fl).2.entAddr e) 16384 = some w →
       let u1 := (s.popPage fl).2
       let p := (s.popPage fl).1
       let v := bytesAt s.host (w.target + (u1.entAddr e - w.hbase)) 16384
       let u2 := u1.setPlaced p 16384 v
       let u3 := u2.setPlaced e 8 p
       (crc64 (toBytes 16384 v)).toNat = u2.placedNat (e + 16) 8 →
       ∃ t, exec (.kvpromotePromotion c) s = .next t ∧ MacroComplete s t c.toNat 12 rest ∧
         OnlyQueues (u3.setPlaced (e + 24) 8 (putBits (u2.entFlags e) 1 1 0)) t c.toNat) ∧
     (∀ (w : HostOut), m.testBit 44 = true → s.entPinned e = false → s.entSpilled e = false → s.entPoisoned e = false →
       s.freeCount fl < s.freeCap fl →
       s.kvFaults [(freeEntry fl (s.freeCount fl), 8), (s.entAddr e, 16384)] = none →
       let target := fieldOf m 128 64
       s.engineFault c.toNat 3 target 16384 true = none → s.hostWindow target 16384 = some w → w.writable = true →
       let v := s.placedNat (s.entAddr e) 16384
       let u1 := { s with host := setBytesMasked s.host (w.target + (target - w.hbase)) 16384 v (allBytes 16384) }
       let u2 := (u1.setPlaced e 8 target).setPlaced (e + 16) 8 (crc64 (toBytes 16384 v)).toNat
       let u3 := u2.setPlaced (e + 24) 8 (putBits (u2.entFlags e) 1 1 1)
       ∃ t, exec (.kvpromoteDemotion c) s = .next t ∧ MacroComplete s t c.toNat 12 rest ∧
         OnlyQueues (u3.pushPage fl (s.entAddr e)) t c.toNat))

namespace Sys2Proof.Machine

/-- A macro of the fabric queue begins, with nothing sent. -/
def FabricReady (s : State) (c mop : Nat) (cmd : Command) (rest : List Command) : Prop :=
  let u := (s.core c).queue 13
  EngineReady s c 13 mop cmd rest ∧ u.started = false ∧ u.ctr = 0 ∧ u.seqs = [] ∧ u.late = [] ∧ u.bytes = [] ∧ u.mark = 0

/-- A packet from scratchpad bytes: its header by R354 and its payload. -/
def packetOf (s : State) (c dst vc kind : Nat) (addr rect : Nat) (seq : BitVec 20) (from_ n : Nat) : Packet :=
  ⟨mkHeader dst s.pkg vc kind 0 n 0 (fWin addr) (fOff addr) rect seq.toNat,
    (List.range n).map (fun i => s.peek (.scratch c (from_ + i)))⟩

/-- Nothing but engine queues of core c and the fabric differs. -/
def OnlyFabric (s t : State) (c : Nat) : Prop :=
  t = { s.setCore c { s.core c with queues := (t.core c).queues } with fabric := t.fabric }

end Sys2Proof.Machine

/-- R44, R232–R234, R354, R363–R366: FXSEND and FXMCAST of at most 64 bytes of scratchpad put their packet into the local
buffer, numbered, with a timer for each destination, and wait in phase 7; FXWIN arms its window, once every chunk of the
generation before has been forwarded or delivered; FXRED contributes the elements of its first flit, with a timer from then
on. R66, R283, R362, R366: with every contribution of a chunk present, it is combined and forwarded to the parent port as
one packet on channel 3, with a timer, or delivered at home to memory, where the inbound window of its number, which the
model takes to govern the delivery, must allow writes, else fault 0x07; a delivery whose page is not present in park mode
waits 1 ms; a chunk that is not complete changes nothing. No fabric queue waits. Where the spec leaves a point open, the
model’s choice is stated: log 15, 17, 78. -/
def Obligations.FabricMacros : Prop :=
  ((∀ (c : CoreId) (s : State) (cmd : Command) (rest : List Command),
     let m := cmd.bits.toNat
     let vc := fieldOf m 18 3
     let n := fieldOf m 192 32 + 1
     let addr := fieldOf m 128 64
     let f := s.fabric
     fieldOf m 16 2 = 0 → m.testBit 21 = false → n ≤ 64 → s.engineFault c.toNat 0 (fieldOf m 64 64) n false = none →
     (FabricReady s c.toNat 0x50 cmd rest → s.inExtents (fPkg addr) = true →
       let seq := f.seqOut.get 0 (8 * fPkg addr + vc)
       let u := (s.core c.toNat).queue 13
       ∃ t, exec (.fxsend c) s = .next t ∧ OnlyFabric s t c.toNat ∧
         t.fabric = { f with
           bufs := f.bufs.set [] (8 * 12 + vc) (f.bufs.get [] (8 * 12 + vc) ++
             [packetOf s c.toNat (fPkg addr) vc 0 addr 0 seq (fieldOf m 64 64) n])
           seqOut := f.seqOut.set 0 (8 * fPkg addr + vc) (seq + 1)
           pending := f.pending ++ [⟨f.nextId, BitVec.ofNat 8 (fPkg addr), BitVec.ofNat 3 vc, seq, s.tai + s.cfg.timer,
             .engine c, 0, BitVec.ofNat 64 (addr % 2 ^ 44 + fPkg addr * 2 ^ 44)⟩]
           nextId := f.nextId + 1 } ∧
         ((t.core c.toNat).queue 13).phase = 7 ∧ ((t.core c.toNat).queue 13).entries = u.entries ∧
         ((t.core c.toNat).queue 13).late = [(f.nextId, 0, fPkg addr)] ∧ ((t.core c.toNat).queue 13).seqs = [seq] ∧
         ∀ j, j ≠ 13 → (t.core c.toNat).queue j = (s.core c.toNat).queue j) ∧
     (FabricReady s c.toNat 0x51 cmd rest →
       let rect := fieldOf m 256 16
       let dests := (rectPackages rect).filter (fun d => m.testBit 272 || d != s.pkg)
       fieldOf m 256 4 + fieldOf m 264 4 + 1 ≤ s.cfg.wx → fieldOf m 260 4 + fieldOf m 268 4 + 1 ≤ s.cfg.wy → dests ≠ [] →
       let seq := f.seqOut.get 0 (8 * 256 + vc)
       ∃ t, exec (.fxmcast c) s = .next t ∧ OnlyFabric s t c.toNat ∧
         t.fabric.buf 12 vc = f.buf 12 vc ++ s.copies 12
           (packetOf s c.toNat (dests.getD 0 0) vc 10 addr rect seq (fieldOf m 64 64) n) (m.testBit 272) ∧
         t.fabric.seqOut = f.seqOut.set 0 (8 * 256 + vc) (seq + 1) ∧
         (∃ new : List Pending, t.fabric.pending = f.pending ++ new ∧
           new.map (fun p => p.dst) = dests.map (BitVec.ofNat 8) ∧ ∀ p ∈ new, p.seq = seq ∧ p.deadline = s.tai + s.cfg.timer) ∧
         ((t.core c.toNat).queue 13).phase = 7)) ∧
   (∀ (c : CoreId) (s : State) (cmd : Command) (rest : List Command), EngineReady s c.toNat 13 0x53 cmd rest →
     let m := cmd.bits.toNat
     let old := s.rwindow (fieldOf m 16 4)
     let sent : Prop := old.chunks ≤ old.doneChunks.length ∧ ∀ k < old.chunks, s.chunkWaits (fieldOf m 16 4) k old = false
     (old.armed = true → ¬ sent → ∃ t, exec (.fxwin c) s = .next t ∧ OnlyQueues s t c.toNat ∧
       ((t.core c.toNat).queue 13) = { (s.core c.toNat).queue 13 with phase := 3 }) ∧
     (old.armed = false ∨ sent →
     ∃ t, exec (.fxwin c) s = .next t ∧ MacroComplete s t c.toNat 13 rest ∧
       OnlyQueues (s.setRwindow (fieldOf m 16 4)
         { armed := true, core := c, op := BitVec.ofNat 2 (fieldOf m 20 2), home := BitVec.ofNat 8 (fieldOf m 22 8)
           parent := BitVec.ofNat 4 (fieldOf m 30 4), children := BitVec.ofNat 12 (fieldOf m 34 12), isLocal := m.testBit 46
           cols := fieldOf m 47 16, base := BitVec.ofNat 64 (fieldOf m 64 64), nelem := fieldOf m 128 32 + 1
           gen := BitVec.ofNat 32 (fieldOf m 160 32), own := [], fromChild := [], doneChunks := [], missed := [] }) t c.toNat)) ∧
   (∀ (c : CoreId) (s : State) (cmd : Command) (rest : List Command), FabricReady s c.toNat 0x52 cmd rest →
     let m := cmd.bits.toNat
     let w := fieldOf m 16 4
     let v := s.rwindow w
     let size := windowElem v.op.toNat v.cols
     let n := min 64 ((fieldOf m 128 32 + 1) * size)
     let a := fieldOf m 64 64
     let elem (i : Nat) : List Byte := (List.range size).map (fun j => s.peek (.scratch c.toNat (a + size * i + j)))
     s.redFault m = false → fieldOf m 20 2 = 0 → s.engineFault c.toNat 0 a n false = none →
     s.combining + n / size * v.pe ≤ 2 ^ 18 →
     let f := s.fabric
     ∃ t own, exec (.fxred c) s = .next t ∧ MacroRuns s t c.toNat 13 1 ∧ OnlyFabric s t c.toNat ∧
       t.fabric = { f with
         windows := f.windows.set RWindow.reset w { v with own := own }
         pending := f.pending ++ [⟨f.nextId, BitVec.ofNat 8 s.pkg, 7, 0, s.tai + s.cfg.timer,
           .engine c, 0, BitVec.ofNat 64 a⟩]
         nextId := f.nextId + 1 } ∧
       ∀ i, Cells.get ([] : List Byte) own i = if fieldOf m 192 32 ≤ i ∧ i < fieldOf m 192 32 + n / size then
         widenElement v.op.toNat v.cols (elem (i - fieldOf m 192 32)) else v.own.get [] i)) ∧
  (∀ (w : BitVec 4) (chunk : Word) (s : State),
     let v := s.rwindow w.toNat
     let c := chunk.toNat
     (v.complete c = false → exec (.chunkCombine w chunk) s = .next s) ∧
     (v.complete c = true → (∀ k < 32, ((s.core k).queue 13).phase ≠ 7) →
       (v.parent ≠ 15 →
         let f := s.fabric
         let p := v.parent.toNat
         let dst := (s.neighbour s.pkg (p / 3)).getD s.pkg
         let seq := f.seqOut.get 0 (8 * dst + 3)
         let payload := (v.combine c).flatten
         exec (.chunkCombine w chunk) s = .next { s with fabric := { f with
           seqOut := f.seqOut.set 0 (8 * dst + 3) (seq + 1)
           bufs := f.bufs.set [] (8 * (13 + p) + 3) (f.bufs.get [] (8 * (13 + p) + 3) ++
             [⟨mkHeader dst s.pkg 3 6 v.gen.toNat payload.length 0 w.toNat (c * v.per) 0 seq.toNat, payload⟩])
           pending := f.pending ++ [⟨f.nextId, BitVec.ofNat 8 dst, 3, seq, s.tai + s.cfg.timer, .chunk v.core, 0,
             BitVec.ofNat 64 (w.toNat * 2 ^ 40 + c * v.per)⟩]
           nextId := f.nextId + 1
           windows := f.windows.set RWindow.reset w.toNat (v.finishChunk c) } }) ∧
       (v.parent = 15 → ∀ u : State,
         let out := (v.combine c).map (deliverElement v.op.toNat)
         let bytes := (out.map (fun e => e.1)).flatten
         let a := (v.base.toNat + windowElem v.op.toNat v.cols * (c * v.per)) % 2 ^ 64
         ((s.fwindow w.toNat).attr.getLsbD 1 = false →
           exec (.chunkCombine w chunk) s = .next (s.chunkFault v.core.toNat 0x07 a)) ∧
         ((s.fwindow w.toNat).attr.getLsbD 1 = true →
           (s.engineWrite v.core.toNat 2 a bytes.length (ofBytes bytes) 0 = (.done, u) →
             (∀ k < 32, ((u.core k).queue 13).phase ≠ 7) →
             exec (.chunkCombine w chunk) s = .next
               ((u.modCore v.core.toNat (fun k => k.raiseFxstat (out.foldl (fun x e => x ||| e.2) 0) false)).setRwindow w.toNat
                 (v.finishChunk c))) ∧
           (∀ va, s.engineWrite v.core.toNat 2 a bytes.length (ofBytes bytes) 0 = (.miss va, u) →
             ((∀ x, v.missed.get none c = some x → x.1 / 65536 ≠ va / 65536) → ∃ t, exec (.chunkCombine w chunk) s = .next t ∧
               t.rwindow w.toNat = { v with missed := v.missed.set none c (some (va, s.tai + 1000000)) } ∧
               (t.part (s.partOfCore v.core.toNat)).events.length = (u.part (s.partOfCore v.core.toNat)).events.length + 1) ∧
             (∀ x, v.missed.get none c = some x → x.1 / 65536 = va / 65536 →
               (s.tai < x.2 → exec (.chunkCombine w chunk) s = .next u) ∧
               (x.2 ≤ s.tai → exec (.chunkCombine w chunk) s = .next (u.chunkFault v.core.toNat 0x06 va))))))))

/-! ## Exceptions, system registers, the debugger -/

namespace Sys2Proof.Machine

/-- The fault register's layout (R21). -/
def summaryOf (r : FaultRecord) : DWord := r.info ++ r.source ++ r.cls ++ r.prec ++ 0#6 ++ r.code
/-- The pc layout (R18). -/
def lineOf (pc : BitVec 25) : Line := pc.extractLsb' 4 21
def slotOf (pc : BitVec 25) : Slot := pc.extractLsb' 0 4
/-- The record of an instruction of a strand (R90, R342), raised now at its pc. -/
def StrandRecord (s : State) (r : FaultRecord) (x : Raise) : Prop :=
  r.code = x.code ∧ r.info = x.info ∧ r.source = 15 ∧ r.cls = x.cls ∧ r.prec = x.prec ∧ r.addr = x.addr ∧ r.lo = 0 ∧
    r.hi = 0 ∧ r.time = BitVec.ofNat 64 s.tai ∧
    ∀ c k, s.cur = .strand c k → r.place = (c ++ k ++ s.me.line ++ s.me.slot).setWidth 64
/-- The context in its handler (R241): tpc, the fault register and the record written, in set, control at tvec; what the strand was
about to pass over is kept (R243). -/
def inHandler (m : Strand) (tpc : BitVec 25) (r : FaultRecord) : Strand :=
  { m with fault := summaryOf r, record := r, tpc := tpc, trapIn := true, run := .ready,
           line := lineOf m.tvec, slot := slotOf m.tvec, outer := m.pass, pass := Passing.none }
/-- The current strand's record goes to the porch (R241, R343): the strand halts, its slot is free, its partition has one more
event, and the code is its operator's if that had none; nothing else differs. -/
def SentToPorch (s t : State) (c : CoreId) (r : FaultRecord) : Prop :=
  let p := s.partOf s.cur
  let same (e : Nat) : Prop := e = c.toNat ∨ ((s.core c.toNat).active.isSome = true ∧
    (s.core e).active.map (fun q => q.record) = (s.core c.toNat).active.map (fun q => q.record))
  SameBytes s t ∧ t = { s with cores := t.cores, parts := t.parts } ∧
    t.me = { s.me with fault := summaryOf r, record := r, run := .trapped } ∧
    t.part p = { s.part p with events := (s.part p).events ++ [⟨3, r⟩] } ∧ (∀ o, o ≠ p → t.part o = s.part o) ∧
    (∀ e, t.core e = { s.core e with
      strands := (t.core e).strands, holder := (t.core e).holder, opFault := (t.core e).opFault }) ∧
    (∀ a k, Agent.strand a k ≠ s.cur → (t.core a.toNat).strand k.toNat = (s.core a.toNat).strand k.toNat) ∧
    (∀ e, (same e ∧ (s.core e).opFault = 0 → (t.core e).opFault = r.code) ∧
      (¬ (same e ∧ (s.core e).opFault = 0) → (t.core e).opFault = (s.core e).opFault)) ∧
    ∀ e, (t.core e).holder = if e = c.toNat ∧ (s.core e).holder = some (BitVec.ofNat 3 s.myStrand) then none
      else (s.core e).holder

/-- System registers and what they hold (R239). -/
def sysregs : List (BitVec 24 × (State → DWord)) :=
  [(0x000, fun s => (BitVec.ofBool s.me.trapIn ++ BitVec.ofBool s.me.trapEn).setWidth 64),
   (0x001, fun s => s.me.tvec.setWidth 64), (0x002, fun s => s.me.tpc.setWidth 64),
   (0x003, fun s => (BitVec.ofBool (s.core s.myCore).dbg).setWidth 64), (0x010, fun s => (s.core s.myCore).lstat.setWidth 64),
   (0x011, fun s => (s.core s.myCore).lempty.extractLsb' 0 64), (0x012, fun s => (s.core s.myCore).lempty.extractLsb' 64 64),
   (0x013, fun s => (s.core s.myCore).vstat.setWidth 64), (0x014, fun s => (s.core s.myCore).fxstat.setWidth 64),
   (0x020, fun s => s.me.bpt.get 0 0), (0x021, fun s => s.me.bpt.get 0 1),
   (0x022, fun s => s.me.bpt.get 0 2), (0x023, fun s => s.me.bpt.get 0 3)]
/-- Those of a strand as written: a bpt register keeps its enable and its address. -/
def strandSysregs : List (BitVec 24 × (DWord → Strand → Strand)) :=
  let bpt (i : Nat) (v : DWord) (m : Strand) : Strand := { m with bpt := m.bpt.set 0 i (v &&& 0x8000000001FFFFFF) }
  [(0x000, fun v m => { m with trapEn := v.getLsbD 0, trapIn := v.getLsbD 1 }),
   (0x001, fun v m => { m with tvec := v.extractLsb' 0 25 }), (0x002, fun v m => { m with tpc := v.extractLsb' 0 25 }),
   (0x003, fun _ m => m), (0x020, bpt 0), (0x021, bpt 1), (0x022, bpt 2), (0x023, bpt 3)]
/-- Those of a core as written: a 1 clears (R6). -/
def coreSysregs : List (BitVec 24 × (DWord → Core → Core)) :=
  [(0x010, fun v k => { k with lstat := k.lstat &&& ~~~(v.extractLsb' 0 8) }),
   (0x011, fun v k => { k with lempty := k.lempty &&& ~~~(v.setWidth 128) }),
   (0x012, fun v k => { k with lempty := k.lempty &&& ~~~(v ++ 0#64) }),
   (0x013, fun v k => { k with vstat := k.vstat &&& ~~~(v.extractLsb' 0 7) }),
   (0x014, fun v k => { k with fxstat := k.fxstat &&& ~~~(v.extractLsb' 0 7) })]

/-- A strand that the debugger lets go (R243). -/
def letGo (m : Strand) : Strand :=
  if m.run = .debugged then { m with run := .ready, pass := { m.pass with bpt := some (m.line ++ m.slot) } } else m
/-- Where a strand at pc goes on after the handler of a record kept for it (R241): a precise fault at the faulting
instruction, an engine's record at the first instruction not yet executed. -/
def keptReturn (r : FaultRecord) (pc : BitVec 25) : BitVec 25 := if r.source = 15 then r.place.setWidth 25 else pc
/-- Records that a strand cannot keep: each goes to the porch, in order. -/
def State.allToPorch (s : State) (c : CoreId) (k : StrandId) (rs : List FaultRecord) : State :=
  rs.foldl (fun s r => s.porchRecord c.toNat k.toNat r) s

end Sys2Proof.Machine

/-- R18, R21, R22, R90, R241, R332: taking a fault. With tctl en and not in, the strand is in its handler with tpc at the
instruction; else the record goes to the porch. A fault of a porch run ends the run and stops its queue, whose status word
says so. A reserved encoding is fault 0x01. Where the spec leaves a point open, the model’s choice is stated: log 11, 61.
-/
def Obligations.TrapEntry : Prop :=
  (∀ (s : State) (x : Raise) (c : CoreId) (k : StrandId), s.cur = .strand c k → ∃ r, StrandRecord s r x ∧
    (s.me.trapEn = true ∧ s.me.trapIn = false → OnlyMe s (s.takeFault x) ∧
      (s.takeFault x).me = inHandler s.me (s.me.line ++ s.me.slot) r) ∧
    (s.me.trapEn = false ∨ s.me.trapIn = true → SentToPorch s (s.takeFault x) c r)) ∧
  (∀ (s : State) (c : CoreId) (k : StrandId) (r : FaultRecord), s.cur = .strand c k →
    SentToPorch s (s.porchRecord c.toNat k.toNat r) c r) ∧
  (∀ (s : State) (x : Raise) (q : HostQueueId), s.cur = .porch q →
    let p := { s.porchQueue q.toNat with
      running := false, stopped := true, pfault := x.code, strand := { (s.porchQueue q.toNat).strand with run := .absent } }
    s.takeFault x = (s.setPorchQueue q.toNat p).setAs0 ((s.queueDesc q.toNat).hdr + 0x20) 8
      (p.pdone.toNat + 2 ^ 8 * p.pcode.toNat + 2 ^ 16 * p.rung.toNat + 2 ^ 18 * (s.queueDesc q.toNat).part.toNat + 2 ^ 21 +
        (if p.saved then 2 ^ 22 else 0) + 2 ^ 40 * x.code.toNat)) ∧
  (∀ (w0 w1 : Word) (s : State), exec (.reservedEncoding w0 w1) s = .next (s.faulted (raise 0x01)))

/-- R240–R242: TRAP enters the handler with tpc at the next instruction, or goes to the porch; its code is 0x80 to 0xFF. RTT
leaves the handler: in is 0, control is at tpc or, in mode 2, after the instruction there, held stores are performed, or in
mode 1 discarded, and a queued record is taken at once, the others kept for it staying in order; what a strand without a
trap path cannot take goes to the porch. Mode 2 with no instruction after tpc is fault 0x01 there, after the queued records.
Outside a handler it is fault 0x07. That a TRAP or an RTT issues again while .F loads before it are under way (log 74), and
what becomes of several records that wait at an RTT of a strand whose en is 0 (log 60), are the model’s choices. Where the
spec leaves a point open, the model’s choice is stated: log 18, 60, 71, 74. -/
def Obligations.TrapAndReturn : Prop :=
  (∀ (f : FSY) (s : State) (c : CoreId) (k : StrandId), s.cur = .strand c k → s.guard7 f.g = true →
    0x80 ≤ f.imm.toNat → f.imm.toNat ≤ 0xFF →
    (s.me.far ≠ [] → exec (.trap f) s = .next s) ∧
    (∀ l sl, s.me.far = [] → s.successor 2 = some (l, sl) →
      ∃ t r, exec (.trap f) s = .next t ∧ StrandRecord s r (raise (f.imm.extractLsb' 0 8)) ∧
        (s.me.trapEn = true ∧ s.me.trapIn = false → OnlyMe s.passed t ∧ t.me = inHandler s.passed.me (l ++ sl) r) ∧
        (s.me.trapEn = false ∨ s.me.trapIn = true → SentToPorch s.passed t c r)) ∧
    (s.me.far = [] → s.successor 2 = none →
      (s.me.trapEn = true → s.me.trapIn = false →
        exec (.trap f) s = .next (s.faulted (raise 0x01 (s.me.line ++ s.me.slot).toNat))) ∧
      (s.me.trapEn = false ∨ s.me.trapIn = true → ∃ t r, exec (.trap f) s = .next t ∧
        StrandRecord s r (raise (f.imm.extractLsb' 0 8)) ∧ SentToPorch s.passed t c r))) ∧
  (∀ (f : FSY) (s : State), f.imm.toNat < 0x80 ∨ 0xFF < f.imm.toNat → exec (.trap f) s = .next (s.faulted (raise 0x02))) ∧
  (∀ (f : FSY) (s : State) (c : CoreId) (k : StrandId), s.cur = .strand c k → s.guard7 f.g = true → s.me.trapIn = true →
    f.imm.toNat ≤ 2 →
    let left (m : Strand) (pc : BitVec 25) : Strand :=
      { m with trapIn := false, line := lineOf pc, slot := slotOf pc, pass := m.outer, outer := Passing.none }
    let u := s.passed
    let p := u.performHeld
    let d := u.setMe { u.me with storeq := (s.me.storeq.zipIdx.filter (fun e =>
      !(e.1.fault.isSome || (s.me.storeq.take e.2).any (fun o => o.cls == e.1.cls && o.fault.isSome)))).map (fun e => e.1) }
    ((∃ x ∈ s.me.far, x.handler = true) → exec (.rtt f) s = .next s) ∧
    ((∀ x ∈ s.me.far, x.handler = false) →
      (f.imm = 1 → exec (.rtt f) s = .next (d.leaveHandler s.me.tpc)) ∧
      (f.imm = 1 → s.me.queued = [] → OnlyMe u (d.leaveHandler s.me.tpc) ∧ (d.leaveHandler s.me.tpc).me = left d.me s.me.tpc) ∧
      (f.imm = 0 → exec (.rtt f) s = .next (p.leaveHandler s.me.tpc)) ∧
      (f.imm = 2 → ∀ pc, p.after s.me.tpc = some pc → exec (.rtt f) s = .next (p.leaveHandler pc)) ∧
      (f.imm = 2 → p.after s.me.tpc = none → p.me.queued ≠ [] → exec (.rtt f) s =
        .next ((p.setMe { p.me with outer := ⟨none, some s.me.tpc⟩ }).leaveHandler s.me.tpc)) ∧
      (f.imm = 2 → p.after s.me.tpc = none → p.me.queued = [] →
        let v := p.setMe { left p.me s.me.tpc with pass := Passing.none }
        (p.me.far = [] → exec (.rtt f) s = .next (v.takeFault (raise 0x01 s.me.tpc.toNat))) ∧
        (p.me.far ≠ [] → exec (.rtt f) s = .next (v.setMe { v.me with pass := ⟨none, some s.me.tpc⟩ })))) ∧
    (p = (u.setMe { u.me with storeq := u.me.storeq.map (fun e =>
      if e.fault.isSome then { e with fault := none, told := false, retry := none } else e) }).drain s.cur) ∧
    (s.me.storeq = [] → OnlyMe u p ∧ p.me = u.me) ∧
    (∀ pc, s.me.queued = [] → OnlyMe s (s.leaveHandler pc) ∧ (s.leaveHandler pc).me = left s.me pc) ∧
    (∀ pc r rest, s.me.queued = r :: rest → rest.length ≤ 4 → s.me.trapEn = true → OnlyMe s (s.leaveHandler pc) ∧
      (s.leaveHandler pc).me = inHandler { left s.me pc with queued := rest } (keptReturn r pc) r) ∧
    (∀ pc r rest, s.me.queued = r :: rest → s.me.trapEn = false →
      ∃ t, SentToPorch (s.setMe { left s.me pc with queued := [] }) t c r ∧ s.leaveHandler pc = t.allToPorch c k rest)) ∧
  (∀ s : State, (s.me.pass = Passing.none → s.passed = s) ∧
    (s.me.pass ≠ Passing.none → OnlyMe s s.passed ∧ s.passed.me = { s.me with pass := Passing.none })) ∧
  (∀ (f : FSY) (s : State), s.guard7 f.g = true → s.me.trapIn = false → f.imm.toNat ≤ 2 →
    exec (.rtt f) s = .next (s.faulted (raise 0x07))) ∧
  (∀ (f : FSY) (s : State), 2 < f.imm.toNat → exec (.rtt f) s = .next (s.faulted (raise 0x02)))

/-- R6, R239: MFSR reads every system register; MTSR writes the RW ones, clears bits of the W1C ones and leaves dbg; a
number that names none is fault 0x02. That records queued in the handler stay queued when a write of tctl clears its in is
the model’s choice (log 60). Where the spec leaves a point open, the model’s choice is stated: log 60. -/
def Obligations.SystemRegisters : Prop :=
  (∀ e ∈ sysregs, ∀ (f : FSY) (s : State), f.imm = e.1 → Issues s 2 (s.guard7 f.g) [f.d] →
    ∃ t, exec (.mfsr f) s = .next t ∧ ScalarDone s t 2 f.d (e.2 s) 0) ∧
  (∀ e ∈ strandSysregs, ∀ (f : FSY) (s : State), f.imm = e.1 → Issues s 2 (s.guard7 f.g) [f.a] →
    ∃ t, exec (.mtsr f) s = .next t ∧ OnlyMe s t ∧ Sequel s t 2 ∧
      t.me = { e.2 (s.rx f.a) s.me with line := t.me.line, slot := t.me.slot, pass := Passing.none }) ∧
  (∀ e ∈ coreSysregs, ∀ (f : FSY) (s : State) (c : CoreId) (k : StrandId), s.cur = .strand c k → f.imm = e.1 →
    Issues s 2 (s.guard7 f.g) [f.a] →
    ∃ t, exec (.mtsr f) s = .next t ∧ SameBytes s t ∧ Sequel s t 2 ∧
      t = (s.setCore c.toNat (e.2 (s.rx f.a) (s.core c.toNat))).setMe t.me ∧
      t.me = { s.me with line := t.me.line, slot := t.me.slot, pass := Passing.none }) ∧
  (∀ (f : FSY) (s : State), (∀ e ∈ sysregs, f.imm ≠ e.1) →
    exec (.mfsr f) s = .next (s.faulted (raise 0x02)) ∧ exec (.mtsr f) s = .next (s.faulted (raise 0x02)))

/-- R43, R165, R207, R240, R241, R342: the record of a parked engine queue is taken by the strand that pushed its macro. A
strand in its handler keeps up to four, a fifth halts it; with no trap path it halts at once; a strand halted for debug
keeps them until its release. QRES resumes the queue or drops its macro; QMPC reads the micro-program counter, RDFR the last
record. Where the spec leaves a point open, the model’s choice is stated: log 60. -/
def Obligations.EngineRecords : Prop :=
  (∀ (c : CoreId) (q : QueueId) (s : State) (p : Parked) (cmd : Command) (rest : List Command),
    let u := s.modQueue c.toNat q.toNat (fun u => { u with parked := some { p with delivered := true } })
    let m := (u.core c.toNat).strand cmd.strand.toNat
    (s.queueOf c.toNat q.toNat).parked = some p → p.delivered = false → (s.queueOf c.toNat q.toNat).entries = cmd :: rest →
    m.run ≠ .absent → m.run ≠ .halted → m.run ≠ .trapped →
    (m.trapIn = false → m.run ≠ .debugged → m.trapEn = true → exec (.engineFaultDelivery c q) s =
      .next (u.setStrandOf (.strand c cmd.strand) (inHandler m (m.line ++ m.slot) p.record))) ∧
    ((m.trapIn = true ∧ m.trapEn = true ∧ m.queued.length < 4) ∨ (m.trapIn = false ∧ m.run = .debugged) →
      exec (.engineFaultDelivery c q) s =
        .next (u.setStrandOf (.strand c cmd.strand) { m with queued := m.queued ++ [p.record] })) ∧
    ((m.trapIn = true ∧ (m.trapEn = false ∨ 4 ≤ m.queued.length)) ∨
        (m.trapIn = false ∧ m.run ≠ .debugged ∧ m.trapEn = false) →
      ∃ t, exec (.engineFaultDelivery c q) s = .next t ∧ t.cur = s.cur ∧
        SentToPorch (u.by (.strand c cmd.strand)) (t.by (.strand c cmd.strand)) c p.record)) ∧
  (∀ (f : FSY) (s : State), Issues s 2 (s.guard7 f.g) [f.a, f.d] →
    let q := (s.rx f.a).toNat % 16
    let u := (s.core s.myCore).queue q
    (14 ≤ q → ∀ i ∈ [Instr.qres, .qmpc], exec (i f) s = .next (s.faulted (raise 0x02))) ∧
    (q < 14 → s.isPorch = false → ∃ t, exec (.qres f) s = .next t ∧ SameBytes s t ∧ Sequel s t 2 ∧ SameX s t ∧
      OnlyRegs s.me t.me ∧ t.me.fstat = s.me.fstat ∧ t = (s.modQueue s.myCore q (fun u =>
        if u.parked = none then u
        else if f.imm.getLsbD 0 then { u with
          entries := u.entries.tail, left := u.left + 1, phase := 0, espec := u.espec &&& 0x80, ctr := 0, ended := false, started := false, mark := 0,
          wActive := none, wShadow := none, late := [], bytes := [], seqs := [], retry := none, parked := none }
        else { u with parked := none, phase := if u.started then (if q = 9 ∧ u.mark = 1 then 6 else 2) else 0 })).setMe t.me) ∧
    (q < 14 → ∃ t, exec (.qmpc f) s = .next t ∧ ScalarDone s t 2 f.d
      ((u.mseq ++ u.left.extractLsb' 0 4 ++ u.phase ++ u.espec ++ u.ctr).extractLsb' (64 * (f.imm.toNat % 2)) 64) 0) ∧
    (let r := s.me.record
      ∃ t, exec (.rdfr f) s = .next t ∧ ScalarDone s t 2 f.d
        ((r.time ++ r.place ++ r.hi ++ r.lo ++ r.addr ++ summaryOf r).extractLsb' (64 * (f.imm.toNat % 8)) 64) 0))

/-- R243, R371: BRK halts a strand with a debugger attached, at the next instruction, and does nothing without; the
debugger's release, after which the first record kept meanwhile is taken, attaching and detaching. A BRK that ends its chain
goes past the end when it is released: fault 0x01 (R75). Where the spec leaves a point open, the model’s choice is stated:
log 19, 60. -/
def Obligations.Debugger : Prop :=
  (∀ (f : FSY) (s : State), Issues s 2 (s.guard7 f.g) [] →
    (s.isPorch = true ∨ (s.core s.myCore).dbg = false → ∃ t, exec (.brk f) s = .next t ∧ Passed s t 2) ∧
    (s.isPorch = false → (s.core s.myCore).dbg = true → ∃ t, exec (.brk f) s = .next t ∧ SameBytes s t ∧
      t = (s.setMe t.me).giveSlot ∧ Sequel s t 2 ∧
      t.me = { s.me with run := .debugged, line := t.me.line, slot := t.me.slot, pass := Passing.none })) ∧
  (∀ (f : FSY) (s : State), s.guard7 f.g = true → s.isPorch = false → (s.core s.myCore).dbg = true → s.successor 2 = none →
    ∃ t, exec (.brk f) s = .next t ∧ SameBytes s t ∧ t = (s.setMe t.me).giveSlot ∧
      t.me = { s.me with run := .debugged, pass := ⟨none, some (s.me.line ++ s.me.slot)⟩ }) ∧
  (∀ (c : CoreId) (k : StrandId) (s : State),
    let a := Agent.strand c k
    let m := s.strandOf a
    let u := s.setStrandOf a (letGo m)
    ((s.core c.toNat).dbg = false ∨ m.run ≠ .debugged → exec (.debugRelease c k) s = .next s) ∧
    ((s.core c.toNat).dbg = true → m.run = .debugged →
      (m.queued = [] ∨ m.trapIn = true → exec (.debugRelease c k) s = .next u) ∧
      (m.trapIn = false → m.trapEn = true → ∀ r rest, m.queued = r :: rest → exec (.debugRelease c k) s =
        .next ((s.setStrandOf a (inHandler { letGo m with queued := rest.take 4 } (keptReturn r (m.line ++ m.slot)) r)).allToPorch
          c k (rest.drop 4))) ∧
      (m.trapIn = false → m.trapEn = false → ∀ r rest, m.queued = r :: rest → ∃ t : State, exec (.debugRelease c k) s =
        .next (t.allToPorch c k rest) ∧ t.cur = s.cur ∧
          SentToPorch ((s.setStrandOf a { letGo m with queued := [] }).by a) (t.by a) c r))) ∧
  (∀ s : State, ∃ t, exec .debugAttach s = .next t ∧ t = { s with cores := t.cores, debugger := true } ∧
    ∀ c, t.core c = if c < 32 then { s.core c with dbg := true } else s.core c) ∧
  (∀ s : State, (∀ c k, let m := s.strandOf (.strand c k)
      m.run = .debugged → m.queued = [] ∨ m.trapIn = true) →
    ∃ t, exec .debugDetach s = .next t ∧ t = { s with cores := t.cores, debugger := false } ∧
    ∀ c, t.core c = (if c < 32 then { s.core c with dbg := false, strands := (t.core c).strands } else s.core c) ∧
      ∀ i, (t.core c).strand i = if c < 32 ∧ i < 8 then letGo ((s.core c).strand i) else (s.core c).strand i)

/-! ## Requests, slots, ticks and steps -/

namespace Sys2Proof.Machine

/-- A request record's fields that RSUBMIT checks (R38, R40): offset, fault code, and whether the value is malformed. -/
def recordChecks (s : State) (r : Nat) : List (Nat × BitVec 8 × Bool) :=
  [(0x1C, 0x02, decide (4 < s.recField r 0x1C 1)), (0x1D, 0x02, decide (2 < s.recField r 0x1D 1)),
   (0x1E, 0x02, decide (s.recField r 0x1E 1 < 1 ∨ 8 < s.recField r 0x1E 1)), (0x1F, 0x11, decide (8 < s.recField r 0x1F 1)),
   (0x40, 0x11, decide (s.recField r 0x40 8 ≠ 0 ∧ s.recField r 0x40 8 ≤ s.recField r 0x10 8))]
/-- The gang that record r names has eight members, or one in another batch group (R306). -/
def gangFull (s : State) (r : Nat) : Prop :=
  let mine := (List.range 4096).filter (fun i => s.recField i 0 1 ≠ 0 ∧ s.recField i 2 2 = s.recField r 2 2)
  s.recField r 2 2 ≠ 0 ∧ (8 ≤ mine.length ∨ ∃ i ∈ mine, s.recField i 1 1 ≠ s.recField r 1 1)
/-- The record refused (R40): FAULTED with fcode and finfo, and no slot. -/
def refusedRecord (s : State) (r : Nat) (code : BitVec 8) (info : Nat) : State :=
  (((s.setRecField r 0x78 1 code.toNat).setRecField r 0x80 8 info).setRecField r 0x04 2 0xFFFF).setRecField r 0x00 1 5

/-- The entry of slot n in core c's slot table (R41). -/
def tableEntry (s : State) (c n : Nat) : Nat :=
  if n < 512 then leValue (fun a => s.peek (.scratch c a)) (0x2FE000 + 16 * n) 16 else 0
/-- It is valid and not masked; its record. -/
def liveEntry (e : Nat) : Prop := e.testBit 12 = true ∧ e.testBit 13 = false
def entryRecord (e : Nat) : Nat := e % 2 ^ 12

/-- A load and a store of `n` bytes of pooled memory by the current agent's instruction, with what they leave. -/
def LoadsTo (s : State) (addr n v : Nat) (u : State) : Prop :=
  s.checkAccess s.cur 2 addr n false s.me.cls = none ∧ s.readSpace s.cur 2 addr n true = (.val v, u)
def StoresTo (s : State) (addr n v : Nat) (u : State) : Prop :=
  s.checkAccess s.cur 2 addr n true s.me.cls = none ∧
    s.writeSpace s.cur 2 addr n v (allBytes n) s.me.cls true = (.done, u)
/-- Slot n of group g's open step has emitted once more, and has hit a stop if so told (R236). -/
def countedEmission (s : State) (g n : Nat) (stop : Bool) : State :=
  let i := (s.group g).slot n
  s.setGroup g { s.group g with
    slots := (s.group g).slots.set none n (some { i with emitted := i.emitted + 1, stopHit := i.stopHit || stop }) }

/-- A fault of its own request on slot n, found by core c (R320, R321), while its record is ADMITTED or RUNNING in that slot (R293,
R303): the slot is masked in every core's copy of its group's table, the record is FAULTED with its code, and the group counts
it. Otherwise nothing happens. -/
def slotFaulted (s : State) (c n : Nat) (code : BitVec 8) (info : Nat) : State :=
  let r := entryRecord (tableEntry s c n)
  let g := s.recField r 1 1
  let v := s.group g
  if s.recField r 0 1 ∈ [2, 3] ∧ s.recField r 4 2 = n then
    ((((s.maskSlot v.cfg.part.toNat n).setRecField r 0x78 1 code.toNat).setRecField r 0x80 8 info).setRecField r 0x00 1 5).setGroup
      g { v with
        nRfault := v.nRfault + 1
        slots := v.slots.set none n ((v.slots.get none n).map (fun i => { i with masked := true })) }
  else s

/-- The same in an opening that waits (R303): the record keeps what its ring has given (R40, R312), its slot leaves the
opening. -/
def openingFaulted (s : State) (g n : Nat) (code : BitVec 8) (info : Nat) : State :=
  let v := s.group g
  let i := v.slot n
  let r := i.record
  let u1 := s.setRecField r 0x28 8 i.last.toNat
  let u2 := if i.late then u1.setRecField r 0x7C 4 (u1.recField r 0x7C 4 + 1) else u1
  let u3 := if i.drop = 0 then u2 else u2.setRecField r 0x88 4 (u2.recField r 0x88 4 + i.drop)
  (((u3.setRecField r 0x78 1 code.toNat).setRecField r 0x80 8 info).setRecField r 0x00 1 5).setGroup g
    { v with nRfault := v.nRfault + 1, slots := v.slots.set none n none }

/-- The group a time instruction names (R237). -/
def groupNamed (s : State) (f : FSY) : Nat := if s.isPorch then (s.rx f.a).toNat % 16 else s.myGroup.getD 0

end Sys2Proof.Machine

/-- R40, R235, R293–R295, R306: the porch's record instructions. RSUBMIT makes a FREE record WAITING with the next arr_seq,
or FAULTED when a field is malformed or its gang refuses it; RPARK, RRESUME and RCANCEL note an action for the boundary;
RFREE clears the record; each writes 0, or the code of its refusal. A strand takes fault 0x07. Where the spec leaves a point
open, the model’s choice is stated: log 45. -/
def Obligations.RequestRecords : Prop :=
  (∀ (f : FSY) (s : State), Issues s 2 (s.guard7 f.g) [f.a, f.d] →
    let r := (s.rx f.a).toNat % 4096
    let st := s.recField r 0 1
    (s.isPorch = true →
      (st ≠ 0 → ∃ t, exec (.rsubmit f) s = .next t ∧ ScalarDone s t 2 f.d 0x07 0) ∧
      (st = 0 → (recordChecks s r).all (fun e => !e.2.2) = true → ¬ gangFull s r →
        let u := ((s.setRecField r 0x08 8 s.arrSeq.toNat).setRecField r 0x04 2 0xFFFF).setRecField r 0x00 1 1
        ∃ t, exec (.rsubmit f) s = .next t ∧ ScalarDone { u with arrSeq := s.arrSeq + 1 } t 2 f.d 0 0) ∧
      (∀ off code, st = 0 → (recordChecks s r).find? (fun e => e.2.2) = some (off, code, true) →
        ∃ t, exec (.rsubmit f) s = .next t ∧ ScalarDone (refusedRecord s r code off) t 2 f.d (code.setWidth 64) 0) ∧
      (st = 0 → (recordChecks s r).all (fun e => !e.2.2) = true → gangFull s r →
        ∃ t, exec (.rsubmit f) s = .next t ∧ ScalarDone (refusedRecord s r 0x02 0x02) t 2 f.d 0x02 0) ∧
      (st ∈ [0, 5, 6, 7] → ∃ t, exec (.rpark f) s = .next t ∧ ScalarDone s t 2 f.d 0x07 0) ∧
      (st ∉ [0, 5, 6, 7] → ∃ t, exec (.rpark f) s = .next t ∧
        ScalarDone { s with pendingActs := s.pendingActs ++ [(r, .park)] } t 2 f.d 0 0) ∧
      (st ≠ 4 → ∃ t, exec (.rresume f) s = .next t ∧ ScalarDone s t 2 f.d 0x07 0) ∧
      (st = 4 → ∃ t, exec (.rresume f) s = .next t ∧
        ScalarDone { s with pendingActs := s.pendingActs ++ [(r, .resume)] } t 2 f.d 0 0) ∧
      (st ∉ [5, 6, 7] → ∃ t, exec (.rfree f) s = .next t ∧ ScalarDone s t 2 f.d 0x07 0) ∧
      (st ∈ [5, 6, 7] → s.me.run = .ready → ∃ t u, exec (.rfree f) s = .next t ∧ ScalarDone u t 2 f.d 0 0 ∧ u.me = s.me ∧
        (∀ a, u.peek (.record a) = if 256 * r ≤ a ∧ a < 256 * r + 0xE0 then 0 else s.peek (.record a)) ∧
        u = { s with
          records := u.records, cores := u.cores, porch := u.porch, kept := s.kept.set [] r []
          pendingActs := s.pendingActs.filter (fun e => e.1 != r) })) ∧
    (st ∈ [0, 5, 6, 7] → ∃ t, exec (.rcancel f) s = .next t ∧ ScalarDone s t 2 f.d 0x07 0) ∧
    (st ∉ [0, 5, 6, 7] → ∃ t, exec (.rcancel f) s = .next t ∧
      ScalarDone { s with pendingActs := s.pendingActs ++ [(r, .cancel)] } t 2 f.d 0 0) ∧
    (s.isPorch = false → ∀ i ∈ [Instr.rsubmit, .rpark, .rresume, .rfree], exec (i f) s = .next (s.faulted (raise 0x07)))) ∧
  (∀ (s : State) (r off n v : Nat), let u := s.setRecField r off n v
    StoredBytes s u s.cur 5 (256 * r + off) n (v % 2 ^ (8 * n)) ∧
      u = { s with records := u.records, cores := u.cores, porch := u.porch })

/-- R41, R42, R235–R237, R320, R321, R348: the instructions on slots. RREC gives the record of a live slot; RFLT masks it in
every copy and faults its record, or takes its slot out of an opening that waits; REMIT emits the next token of its
sequence, or gives −1 for one of a step that is run again, −3 when the ring is full, −2 for a slot that is not live; TSTAMP
reads the stamp at the ingest ring's read position, parking like a load while its translation is missing in park mode. An
error of memory in the request's rings, and a malformed ingest ring, are per-request faults; a store of REMIT that faults
leaves none of its stores done. Where the spec leaves a point open, the model’s choice is stated: log 20, 22, 45. -/
def Obligations.SlotInstructions : Prop :=
  (∀ (f : FSY) (s : State) (c : CoreId) (k : StrandId), s.cur = .strand c k → Issues s 2 (s.guard7 f.g) [f.a, f.b, f.d] →
    let n := (s.rx f.a).toNat % 4096
    let e := tableEntry s c.toNat n
    let r := entryRecord e
    (liveEntry e → ∃ t, exec (.rrec f) s = .next t ∧ ScalarDone s t 2 f.d (BitVec.ofNat 64 r) 0) ∧
    (¬ liveEntry e → ∃ t, exec (.rrec f) s = .next t ∧ ScalarDone s t 2 f.d (BitVec.allOnes 64) 0) ∧
    (f.imm.toNat % 256 ≠ 0 → ¬ liveEntry e → s.holdGroup = none → ∃ t, exec (.rflt f) s = .next t ∧ Passed s t 2) ∧
    (f.imm.toNat % 256 ≠ 0 → liveEntry e → s.holdGroup = none → s.me.run = .ready →
      ∃ t, exec (.rflt f) s = .next t ∧ Passed (slotFaulted s c.toNat n (BitVec.ofNat 8 f.imm.toNat) 0) t 2) ∧
    (¬ liveEntry e ∨ s.myGroup = none → s.me.storeq = [] → s.me.far = [] → ((s.releaseL1 true 0xFFFF).successor 2).isSome = true →
      ∃ t, exec (.remit f) s = .next t ∧
      ScalarDone (s.releaseL1 true 0xFFFF) t 2 f.d (BitVec.ofInt 64 (-2)) 0) ∧
    (∀ g u1 u2 u3 commit read cap, liveEntry e → s.myGroup = some g → s.me.storeq = [] → s.me.far = [] →
      let u0 := s.releaseL1 true 0xFFFF
      let ring := s.recField r 0x38 8
      let i := (s.group g).slot n
      let seq := i.startSeq.toNat + i.emitted + 1
      let entry := ring + 0x40 + 16 * ((seq - 1) % cap)
      let token := (s.rx f.b).toNat % 2 ^ 32
      u0.recField r 0x38 8 = ring → tableEntry u0 c.toNat n = e →
      LoadsTo u0 ring 8 commit u1 → LoadsTo u1 (ring + 8) 8 read u2 → LoadsTo u2 (ring + 16) 4 cap u3 →
      (∀ u4 flags, seq ≤ commit → LoadsTo u3 (entry + 4) 4 flags u4 → u4.group g = s.group g →
        let w := countedEmission u4 g n (flags.testBit 0)
        (w.successor 2).isSome = true → ∃ t, exec (.remit f) s = .next t ∧ ScalarDone w t 2 f.d (BitVec.allOnes 64) 0) ∧
      (commit < seq → read + cap < seq → (u3.successor 2).isSome = true →
        ∃ t, exec (.remit f) s = .next t ∧ ScalarDone u3 t 2 f.d (BitVec.ofInt 64 (-3)) 0) ∧
      (∀ u4 u5, commit < seq → seq ≤ read + cap →
        let stop := (List.range (u3.recField r 0x1F 1)).any (fun j => u3.recField r (0x50 + 4 * j) 4 == token)
        StoresTo u3 entry 8 (token + 2 ^ 32 * stop.toNat + 2 ^ 33 * (e.testBit 14).toNat) u4 →
        StoresTo u4 (entry + 8) 8 seq u5 →
        (∀ code u6, code ≠ 0x0D → u5.checkAccess u5.cur 2 ring 8 true u5.me.cls = none →
          u5.writeSpace u5.cur 2 ring 8 seq (allBytes 8) u5.me.cls true = (.fault code, u6) →
          exec (.remit f) s = .next (u3.faulted (raiseAt code ring u3.me.cls))) ∧
        (∀ u6, StoresTo u5 ring 8 seq u6 →
          let w := countedEmission (u6.setRecField r 0x70 8 seq) g n stop
          (w.successor 2).isSome = true →
            ∃ t, exec (.remit f) s = .next t ∧ ScalarDone w t 2 f.d (BitVec.ofNat 64 seq) 0))) ∧
    (∀ g u1 code, liveEntry e → s.myGroup = some g → s.me.storeq = [] → s.me.far = [] →
      let u0 := s.releaseL1 true 0xFFFF
      let ring := u0.recField r 0x38 8
      tableEntry u0 c.toNat n = e → u0.checkAccess s.cur 2 ring 8 false s.me.cls = none →
      u0.readSpace s.cur 2 ring 8 true = (.fault code, u1) →
      (code = 0x0D → ((slotFaulted u1 c.toNat n 0x0D ring).successor 2).isSome = true → ∃ t, exec (.remit f) s = .next t ∧
        ScalarDone (slotFaulted u1 c.toNat n 0x0D ring) t 2 f.d (BitVec.ofInt 64 (-2)) 0) ∧
      (code ≠ 0x0D → exec (.remit f) s = .next (u1.faulted (raiseAt code ring s.me.cls)))) ∧
    (s.myGroup.isSome = true →
      let ring := s.recField r 0x30 8
      let asid := s.asidOf s.cur
      (e.testBit 12 = false ∨ ring = 0 → ∃ t, exec (.tstamp f) s = .next t ∧ ScalarDone s t 2 f.d 0 0) ∧
      (∀ u1 u2 wr rd cap, e.testBit 12 = true → ring ≠ 0 → ring % 64 = 0 → wr < 2 ^ 64 → rd < 2 ^ 64 →
        s.vestLoad asid ring 16 = (.val (wr + 2 ^ 64 * rd), u1) → u1.vestLoad asid (ring + 16) 4 = (.val cap, u2) →
        16 ≤ cap → cap ≤ 2 ^ 24 → cap &&& (cap - 1) = 0 → (wr + 2 ^ 64 - rd) % 2 ^ 64 ≤ cap →
        (wr = rd → ∃ t, exec (.tstamp f) s = .next t ∧ ScalarDone s t 2 f.d 0 0) ∧
        (∀ u3 v, wr ≠ rd → s.vestLoad asid (ring + 0x40 + 16 * (rd % cap) + 8) 8 = (.val v, u3) →
          (u3.successor 2).isSome = true →
          ∃ t, exec (.tstamp f) s = .next t ∧ ScalarDone u3 t 2 f.d (BitVec.ofNat 64 v) 0)) ∧
      (∀ u1 code, e.testBit 12 = true → ring ≠ 0 →
        (ring % 64 ≠ 0 ∧ u1 = s ∧ code = (0x02, 0x30) ∨
          ring % 64 = 0 ∧ (∃ x : BitVec 8, s.vestLoad asid ring 16 = (.fault x, u1) ∧ code = (x, ring))) →
        let w := if e.testBit 13 then u1 else slotFaulted u1 c.toNat n code.1 code.2
        (w.successor 2).isSome = true → ∃ t, exec (.tstamp f) s = .next t ∧ ScalarDone w t 2 f.d 0 0) ∧
      (∀ u1 va, e.testBit 12 = true → ring ≠ 0 → ring % 64 = 0 → s.vestLoad asid ring 16 = (.miss va, u1) →
        let u := u1.ingestMiss (s.partOf s.cur) va
        (∃ r : FaultRecord, r.code = 0x06 ∧ r.addr = BitVec.ofNat 64 va ∧
          u.part (s.partOf s.cur) = { u1.part (s.partOf s.cur) with
            events := (u1.part (s.partOf s.cur)).events ++ [⟨2, r⟩] }) ∧
        ∃ t, exec (.tstamp f) s = .next t ∧ WaitParked u t (.ingest va (u1.tai + 1000000) n f.d)))) ∧
  (∀ (f : FSY) (s : State), f.imm.toNat % 256 = 0 → exec (.rflt f) s = .next (s.faulted (raise 0x02))) ∧
  (∀ (f : FSY) (s : State) (q : HostQueueId) (c : Nat) (g : Nat), s.cur = .porch q → Issues s 2 (s.guard7 f.g) [f.a] →
    f.imm.toNat % 256 ≠ 0 → s.me.run = .ready →
    let n := (s.rx f.a).toNat % 4096
    ((s.partRect (s.queueDesc q.toNat).part.toNat).cores.find? (fun c => !(s.core c).fenced) = some c → s.holdGroup = none →
      (liveEntry (tableEntry s c n) → ∃ t, exec (.rflt f) s = .next t ∧
        Passed (slotFaulted s c n (BitVec.ofNat 8 f.imm.toNat) 0) t 2) ∧
      (¬ liveEntry (tableEntry s c n) → ∃ t, exec (.rflt f) s = .next t ∧ Passed s t 2)) ∧
    (s.holdGroup = some g →
      ((s.group g).slots.get none n = none → ∃ t, exec (.rflt f) s = .next t ∧ Passed s t 2) ∧
      ((s.group g).slots.get none n ≠ none → ∃ t, exec (.rflt f) s = .next t ∧
        Passed (openingFaulted s g n (BitVec.ofNat 8 f.imm.toNat) 0) t 2))) ∧
  (∀ (s : State) (g : Nat), s.holdGroup = some g →
    (s.group g).phase = .hold ∧ (s.group g).cfg.part.toNat = s.partOf s.cur) ∧
  (∀ (s : State) (p n : Nat) (b : MemByte), (s.maskSlot p n).peek b =
    if (s.partRect p).cores.any (fun c => b == .scratch c (0x2FE001 + 16 * n)) then s.peek b ||| 0x20 else s.peek b)

namespace Sys2Proof.Machine

/-- Field k of a context's wid replaced (R19). -/
def roleFour (p : Plane) (valid : List Nat) (index k : Nat) (m : Strand) : Strand :=
  (List.range 6).foldl (fun m j => if p.roles.getD j 0 = 4 then m.setWidField j
    ((valid[p.sbase + index * p.sstride + k]?).getD (2 ^ 64 - 1)) else m) m
/-- An opening of group g may begin: it ticks over an idle group whose partition runs, no other group is at work there or comes
first, and no core has a swap token (R292, R304, R335, R339). -/
def OpeningDue (s : State) (g : Nat) : Prop :=
  let v := s.group g
  v.cfg.en = true ∧ v.waiting = true ∧ v.phase = .idle ∧ s.partOpen g = true ∧ s.firstReady g = true
/-- A core with nothing left to do in a step or operator: its strands have ended or, in a step, wait for the next, and every queue
has completed what it accepted (R296). -/
def CoreDrained (k : Core) (inStep : Bool) : Prop :=
  (∀ i < 8, (k.strand i).run ∈ [Run.absent, .halted, .trapped] ++ if inStep then [.parked .step] else []) ∧
    ∀ q < 14, (k.queue q).entries = [] ∧ k.completed q = (k.queue q).mseq

/-- The rectangle a porch instruction names is of whole cores and inside the run's partition (R32, R238). -/
def PorchCores (s : State) (q : HostQueueId) (v : Nat) (r : Rect) : Prop :=
  s.cur = .porch q ∧ v < 2 ^ 25 ∧ r = ⟨v / 2 ^ 7 % 2 ^ 6, v % 2 ^ 7, v / 2 ^ 13 % 2 ^ 5 + 1, v / 2 ^ 18 % 2 ^ 7 + 1⟩ ∧
    r.row % 8 = 0 ∧ r.col % 8 = 0 ∧ r.rows % 8 = 0 ∧ r.cols % 8 = 0 ∧ r.row + r.rows ≤ 32 ∧ r.col + r.cols ≤ 64 ∧
    r.within (s.partRect (s.queueDesc q.toNat).part.toNat) = true

/-- A strand as its operator starts (R35, R37): x1 to x4 the arguments, its wid, its entry's pc and limits, everything else at
its start value. -/
def Started (m : Strand) (p : Plane) (pkg index k : Nat) (e : StrandEntry) : Prop :=
  m = { Strand.reset with
    run := .ready, x := m.x, wid := p.widOf pkg index k, line := e.eline, slot := e.eslot,
    wlim := if e.wdx = 0 then 24 else e.wdx, cls := e.cls, widths := p.widths, wv := e.wv, vn := e.vn, pn := e.pn,
    stage := e.stage, pen := e.pen, pq := e.pq } ∧
  ∀ r, m.rx r = if 1 ≤ r.toNat ∧ r.toNat ≤ 4 then p.args.getD (r.toNat - 1) 0 else 0

end Sys2Proof.Machine

/-- R296, R298, R304, R309, R312, R313, R316, R347: the life of a step. An opening for a group without requests writes an
empty slot table, opens the step and lets strands in WAIT.STEP go on; a slot of an ADMITTED request has no input, one of a
RUNNING request without a ring one position; a HOLD slot whose time is up opens with what it has, and only then what its
ring gave is written to its record; the commit counts the step and adds in_count to pos, and is not made while the
partition's contexts are saved; an abandoned step begins again. Where the spec leaves a point open, the model’s choice is
stated: log 24, 44, 49, 94, 95. -/
def Obligations.Steps : Prop :=
  (∀ (g : GroupId) (s : State), OpeningDue s g.toNat → (∀ n < 512, s.slotHolder (s.groupRecords g.toNat) n = none) →
    let v := s.group g.toNat
    ∃ t, exec (.stepOpen g) s = .next t ∧ t.records = s.records ∧
      t.group g.toNat = { v with
        waiting := false, openTick := v.tickNo, openTime := v.tickTime, stepTick := v.tickNo, stepTime := v.tickTime, winHi := (v.tickTime : Int) - 1000 * v.lag,
        winP := v.period, slots := [], holds := [], short := false, phase := .open, rerun := false, tOpen := s.tai } ∧
      (∀ c ∈ (s.partRect v.cfg.part.toNat).cores, ∀ i < 8192, t.peek (.scratch c (0x2FE000 + i)) = 0) ∧
      ∀ (c : CoreId) (k : StrandId) (p : Plane) (l : Line), c.toNat ∈ (s.partRect v.cfg.part.toNat).cores →
        (s.core c.toNat).fenced = false → (s.core c.toNat).active = some p → p.group = some g →
        (s.by (.strand c k)).nextLine = some l → (s.strandOf (.strand c k)).run = .parked .step →
        t.strandOf (.strand c k) = roleFour p [] ((s.partRect p.part.toNat).coreIndex c.toNat) k.toNat
          { s.strandOf (.strand c k) with
            run := .ready, line := l, slot := 1, wcount := 0, pass := Passing.none }) ∧
  (∀ (g n r : Nat) (s : State),
    let i : SlotInfo := ⟨r, false, false, false, 0, 0, BitVec.ofNat 64 (s.recField r 0x10 8),
      BitVec.ofNat 64 (s.recField r 0x70 8), 0, false, BitVec.ofNat 64 (s.recField r 0x28 8), 0⟩
    let with_ (i : SlotInfo) : State := s.setGroup g { s.group g with slots := (s.group g).slots.set none n (some i) }
    (s.recField r 0 1 = 2 → s.consume g n r = with_ i) ∧
    (s.recField r 0 1 ≠ 2 → s.recField r 0x30 8 = 0 → s.consume g n r = with_ { i with inCount := 1 })) ∧
  (∀ (g : GroupId) (s u : State) (h : Hold) (due w' cnt' : Nat), let v := s.group g.toNat
    let n := h.slot
    v.phase = .hold → v.holds = [h] → v.slots.get none n ≠ none → s.partRuns v.cfg.part.toNat = true →
    Cells.wf [] s.kept = true → s.kept.get [] (v.slot n).record = [] → h.due = some due → due ≤ s.tai →
    State.takeInput (h.late s.tai) s g.toNat n h.cnt h.w = (.ok (cnt', w'), u) →
    u.recField ((u.group g.toNat).slot n).record 0 1 ∈ [2, 3] →
    ∃ t i, (exec (.holdGraceExpiry g) s = .next t ∧ exec (.stepOpen g) s = .next t) ∧ (t.group g.toNat).phase = .open ∧
      (t.group g.toNat).slots.get none n = some i ∧ i.record = ((u.group g.toNat).slot n).record ∧ i.inCount = cnt' ∧
      i.gap = (((u.group g.toNat).slot n).gap || decide (w' < (u.group g.toNat).cfg.nExp)) ∧
      (t.group g.toNat).lateEv = v.lateEv + v.short.toNat ∧
      (t.group g.toNat).stepTick = v.openTick ∧ (t.group g.toNat).stepTime = v.openTime ∧
      ∀ j, (u.group g.toNat).slots = [(n, some j)] → j.record < 4096 →
        t.recField j.record 0x28 8 = j.last.toNat ∧
        t.recField j.record 0x7C 4 = (s.recField j.record 0x7C 4 + j.late.toNat) % 2 ^ 32 ∧
        t.recField j.record 0x88 4 = (s.recField j.record 0x88 4 + j.drop) % 2 ^ 32) ∧
  (∀ (g n r : Nat) (s : State), recState (s.consume g n r) r ∈ [2, 3] →
    (s.consume g n r).records = s.records) ∧
  (∀ (g : GroupId) (s : State), let v := s.group g.toNat
    v.phase = .hold → (∀ h ∈ v.holds, ∃ due, h.due = some due ∧ s.tai < due) → exec (.holdGraceExpiry g) s = .next s) ∧
  (∀ (g : GroupId) (s : State), let v := s.group g.toNat
    v.phase = .open → v.cfg.acommit = true ∨ v.commitAsked = true → (s.part v.cfg.part.toNat).saved = false →
    (∀ c ∈ (s.partRect v.cfg.part.toNat).cores, CoreDrained (s.core c) true) →
    ∃ t, exec (.stepCommit g) s = .next t ∧ (t.group g.toNat).cstep = v.cstep + 1 ∧ (t.group g.toNat).phase = .idle ∧
      (t.group g.toNat).stepNs = s.tai - v.stepTime ∧ (t.group g.toNat).commitAsked = false ∧
      (t.group g.toNat).ccmpl = if v.commitAsked then 1 else v.ccmpl) ∧
  (∀ (g : GroupId) (s : State), let p := s.part (s.group g.toNat).cfg.part.toNat
    p.saved = true → p.rung = 2 → exec (.stepCommit g) s = .next s) ∧
  (∀ (g n : Nat) (s : State) (i : SlotInfo), (s.group g).slots = [(n, some i)] → i.masked = false →
    (s.recField i.record 0 1 = 3 →
      s.account g = s.setRecField i.record 0x10 8 (s.recField i.record 0x10 8 + i.inCount)) ∧
    (s.recField i.record 0 1 = 2 → s.account g =
      (s.setRecField i.record 0x10 8 (s.recField i.record 0x10 8 + i.inCount)).setRecField i.record 0x00 1 3)) ∧
  (∀ (f : FSY) (s : State), s.isPorch = true → Issues s 2 (s.guard7 f.g) [f.a, f.d] → s.me.storeq = [] → s.me.far = [] →
    let g := (s.rx f.a).toNat % 16
    let v := s.group g
    (v.phase ≠ .idle → v.commitAsked = false → ∃ t, exec (.commit f) s = .next t ∧
      ScalarDone (s.setGroup g { v with commitAsked := true }) t 2 f.d 0 0) ∧
    (v.phase = .idle ∨ v.commitAsked = true → ∃ t, exec (.commit f) s = .next t ∧ ScalarDone s t 2 f.d 0x07 0)) ∧
  (∀ (g : GroupId) (s : State), let v := s.group g.toNat
    v.phase = .abandoned → v.rerun = true → s.partRuns v.cfg.part.toNat = true →
    (∀ c ∈ (s.partRect v.cfg.part.toNat).cores, (∃ p, (s.core c).active = some p ∧ p.group = some g) →
      CoreDrained (s.core c) true) →
    ∃ t, exec (.stepRerun g) s = .next t ∧ t.records = s.records ∧ t.group g.toNat = { v with
      phase := .open
      slots := v.slots.map (fun e => (e.1, e.2.map (fun i =>
        { i with emitted := 0, stopHit := false, masked := s.recField i.record 0 1 == 5 }))) })

/-- R238, R335: the porch's instructions on operators. PLANE and LAUNCH take a request for the cores of a rectangle, SWAPT
posts the token, RESUME puts a parked engine queue back to work; each result is 0, or the code of a refusal. Where the spec
leaves a point open, the model’s choice is stated: log 47, 67. -/
def Obligations.PorchInstructions : Prop :=
  (∀ (f : FSY) (s : State) (q : HostQueueId), s.cur = .porch q → Issues s 2 (s.guard7 f.g) [f.a, f.b, f.d] →
    s.me.storeq = [] → s.me.far = [] →
    let a := (s.rx f.a).toNat
    let v := (s.rx f.b).toNat
    ∀ e ∈ [(Instr.plane, false), (.launch, true)],
      (a % 256 ≠ 0 → ∃ t, exec (e.1 f) s = .next t ∧ ScalarDone s t 2 f.d 0x02 0) ∧
      (a % 256 = 0 → s.windowOk s.cur 2 a 256 false = false →
        exec (e.1 f) s = .next (s.faulted (raiseAt 0x07 a s.me.cls))) ∧
      (∀ r, a % 256 = 0 → s.windowOk s.cur 2 a 256 false = true → PorchCores s q v r →
        ((∃ c ∈ r.cores, s.tokenPosted c = true) → ∃ t, exec (e.1 f) s = .next t ∧ ScalarDone s t 2 f.d 0x07 0) ∧
        ((∀ c ∈ r.cores, s.tokenPosted c = false) → ∃ t, exec (e.1 f) s = .next t ∧ ScalarDone { s with
          jobs := s.jobs ++ [⟨a, BitVec.ofNat 25 v, (s.queueDesc q.toNat).part, e.2⟩] } t 2 f.d 0 0))) ∧
  (∀ (f : FSY) (s : State) (q : HostQueueId) (r : Rect), Issues s 2 (s.guard7 f.g) [f.b, f.d] →
    s.me.storeq = [] → s.me.far = [] → PorchCores s q (s.rx f.b).toNat r →
    ((∃ c ∈ r.cores, (s.core c).shadow = none) → ∃ t, exec (.swapt f) s = .next t ∧ ScalarDone s t 2 f.d 0x02 0) ∧
    ((∀ c ∈ r.cores, (s.core c).shadow.isSome = true) → ∃ t u, exec (.swapt f) s = .next t ∧ ScalarDone u t 2 f.d 0 0 ∧
      u = { s with cores := u.cores, swaps := s.swaps ++ [BitVec.ofNat 25 (s.rx f.b).toNat] } ∧
      ∀ c, u.core c = if c ∈ r.cores then { s.core c with token := true } else s.core c)) ∧
  (∀ (f : FSY) (s : State) (q : HostQueueId), s.cur = .porch q → Issues s 2 (s.guard7 f.g) [f.b, f.d] → s.me.storeq = [] → s.me.far = [] →
    let v := (s.rx f.b).toNat
    (2 ^ 25 ≤ v ∨ (Rect.ofBits v).wholeCores = false → ∃ t, exec (.swapt f) s = .next t ∧ ScalarDone s t 2 f.d 0x02 0) ∧
    (v < 2 ^ 25 → (Rect.ofBits v).wholeCores = true →
      (Rect.ofBits v).within (s.partRect (s.queueDesc q.toNat).part.toNat) = false →
      ∃ t, exec (.swapt f) s = .next t ∧ ScalarDone s t 2 f.d 0x07 0)) ∧
  (∀ (f : FSY) (s : State) (h : HostQueueId), s.cur = .porch h → Issues s 2 (s.guard7 f.g) [f.a, f.d] → s.me.storeq = [] → s.me.far = [] →
    let q := (s.rx f.a).toNat % 16
    let c := (s.rx f.a).toNat / 16 % 32
    let p := (s.queueDesc h.toNat).part.toNat
    (14 ≤ q → ∃ t, exec (.resumeQueue f) s = .next t ∧ ScalarDone s t 2 f.d 0x02 0) ∧
    (q < 14 → c ∉ (s.partRect p).cores ∨ ((s.core c).queue q).parked = none →
      ∃ t, exec (.resumeQueue f) s = .next t ∧ ScalarDone s t 2 f.d 0x07 0) ∧
    (q < 14 → c ∈ (s.partRect p).cores → (s.part p).en = true → ((s.core c).queue q).parked.isSome = true →
      ∃ t, exec (.resumeQueue f) s = .next t ∧ ScalarDone (s.unparkQueue c q (f.imm.getLsbD 1)) t 2 f.d 0 0))

/-- R37, R238, R335: how operators start and retire. A PLANE that completes fills the shadow planes and writes its
completion word; a LAUNCH posts the token as well; a record that is refused fills nothing, code 0x02. The planes of a
rectangle flip when every core is ready: strands start, queues are empty, arrival counts are 0 and no row has been covered
by a soft maximum. An operator that is no step program retires at its drain point, with the completion word of a LAUNCH.
Where the spec leaves a point open, the model’s choice is stated: log 46 to 48. -/
def Obligations.Operators : Prop :=
  (∀ (record : DWord) (s : State) (job : PlaneJob), s.jobs.find? (fun j => j.record == record.toNat) = some job →
    let u := { s with jobs := s.jobs.erase job }.readAs0 job.record
    (u.planeOf job = none → exec (.planeCompletion record) s = .next (u.setAs0 (job.record + 0xF8) 8 0x201)) ∧
    (∀ p, u.planeOf job = some p → ∃ w,
      w = { u with cores := w.cores, swaps := if job.launch then s.swaps ++ [job.rect] else s.swaps } ∧
      (∀ c, w.core c = if c ∈ (Rect.ofBits job.rect.toNat).cores then
        { s.core c with shadow := some p, token := (s.core c).token || job.launch } else s.core c) ∧
      exec (.planeCompletion record) s = .next (if job.launch then w else w.setAs0 (job.record + 0xF8) 8 1))) ∧
  (∀ (record : DWord) (s : State), (∀ j ∈ s.jobs, j.record ≠ record.toNat) →
    exec (.planeCompletion record) s = .next s) ∧
  (∀ (rect : BitVec 25) (s : State), let cores := (Rect.ofBits rect.toNat).cores
    (Rect.ofBits rect.toNat).wholeCores = true → s.swaps.contains rect = true →
    (∀ c ∈ cores, (s.core c).token = true ∧ (s.core c).fenced = false ∧
      (∀ p, (s.core c).active = some p → CoreDrained (s.core c) p.group.isSome ∧
        ∀ g, p.group = some g → (s.group g.toNat).phase = .idle) ∧
      ∃ p, (s.core c).shadow = some p ∧ (s.part p.part.toNat).ladder = .none ∧ (s.part p.part.toNat).saved = false ∧
        (s.part p.part.toNat).pstate ≠ 5) →
    ∃ t, exec (.planeSwap rect) s = .next t ∧ ∀ c ∈ cores, ∀ p, (s.core c).shadow = some p →
      (t.core c).active = some p ∧ (t.core c).shadow = none ∧ (t.core c).token = false ∧ (t.core c).holder = none ∧
      (∀ k < 8, (p.mask.getLsbD k = false → (t.core c).strand k = Strand.reset) ∧
        (∀ e, p.mask.getLsbD k = true → p.entries[k]? = some e →
          Started ((t.core c).strand k) p s.pkg ((s.partRect p.part.toNat).coreIndex c) k e)) ∧
      (∀ q, (t.core c).queue q = Queue.reset) ∧ (t.core c).arrivals = [] ∧
      (Cells.wf SoftMax.reset (s.core c).smax = true →
        ∀ r, (t.core c).smax.get SoftMax.reset r = { (s.core c).smax.get SoftMax.reset r with orow := none }) ∧
      t.swaps = s.swaps.filter (fun r => r != rect) ∧
      (∀ q, (∀ e ∈ p.presets, e.1 ≠ q) → (t.core c).ring q = Ring.reset)) ∧
  (∀ (rect : BitVec 25) (s : State), s.swaps.contains rect = false → exec (.planeSwap rect) s = .next s) ∧
  (∀ (c : CoreId) (s : State) (p : Plane), (s.core c.toNat).active = some p → p.group = none →
    s.partRuns p.part.toNat = true → s.coresOf p.record = [c.toNat] → CoreDrained (s.core c.toNat) false →
    let u := s.setCore c.toNat { s.core c.toNat with strands := [], holder := none, active := none, opFault := 0 }
    let w := if p.launch then u.setAs0 (p.record + 0xF8) 8 (1 + 256 * (s.core c.toNat).opFault.toNat) else u
    exec (.operatorRetire c) s = .next (w.refreshPstate p.part.toNat)) ∧
  (∀ (c : CoreId) (s : State), (s.core c.toNat).active = none → exec (.operatorRetire c) s = .next s)

namespace Sys2Proof.Machine

/-- A queue's status word as the porch shows it (R326). -/
def statusWord (s : State) (q : Nat) : Nat :=
  let p := s.porchQueue q
  p.pdone.toNat + 2 ^ 8 * p.pcode.toNat + 2 ^ 16 * p.rung.toNat + 2 ^ 18 * (s.queueDesc q).part.toNat +
    (if p.stopped then 2 ^ 21 else 0) + (if p.saved then 2 ^ 22 else 0) + 2 ^ 40 * p.pfault.toNat
/-- T1 of a queue in ns, and the issues a run of it may make (R325): 0 means 200 µs and 2^12. -/
def drainTime (d : QueueDesc) : Nat := 1000 * if d.t1 = 0 then 200 else d.t1
def issueBudget (d : QueueDesc) : Nat := 2 ^ if d.be = 0 then 12 else d.be
/-- No operator, strand, queue, latch or landing state is left on the core (R339); its scratchpad, rings and vector registers
stay. -/
def Emptied (k m : Core) : Prop :=
  m = { k with
    strands := [], holder := none, queues := [], arrays := [], rows := [], stage := [], arrivals := [], smax := []
    pass := 0, deliveries := [], active := m.active, opFault := 0 }
/-- The ladder of partition p, run for queue q, has ended so (R339). -/
def LadderEnded (t : State) (p : Nat) (q : Nat) (saved : Bool) (rung : BitVec 2) (code : BitVec 8) : Prop :=
  (t.part p).ladder = .none ∧ (t.part p).saved = saved ∧ (t.part p).rung = rung ∧
    (t.part p).pstate = (if saved then 4 else 1) ∧ (t.porchQueue q).pcode = code ∧ (t.porchQueue q).pdone = 1
/-- Field `off` of a host queue's header (R326), and where its entry e lies. -/
def hdrField (s : State) (q off n : Nat) : Nat := s.as0Nat ((s.queueDesc q).hdr + off) n
def hostEntry (s : State) (q e : Nat) : Nat :=
  (s.queueDesc q).hdr + 0x100 + hdrField s q 0x1C 4 * (e % hdrField s q 0x18 4)
/-- The queue may begin a run: its image is loaded with a stream for it, it is enabled, idle and not stopped; `overrun` says whether
the host has overrun it (R325, R327, R332). -/
def MayRun (s : State) (q : Nat) (img : Image) (line : Nat) (overrun : Bool) : Prop :=
  s.images.find? (fun i => i.ident == (s.queueDesc q).image) = some img ∧ s.streamLine img q = some line ∧
    (s.porchQueue q).running = false ∧ (s.porchQueue q).stopped = false ∧ s.queueEnabled q = true ∧
    let u := s.readAs0 (s.queueDesc q).hdr
    (overrun = true ↔ hdrField u q 0x18 4 < (hdrField s q 0 8 + 2 ^ 64 - hdrField u q 0x10 8) % 2 ^ 64)
/-- A run of queue q has begun from u (R328): a fresh porch strand at slot 1 of the stream's line, x1 to x4 as given. -/
def RunBegun (u t : State) (q line reason x3 : Nat) : Prop :=
  ∃ m : Strand, t = u.setPorchQueue q { u.porchQueue q with strand := m, running := true, issued := 0, restart := false } ∧
    m = { Strand.reset with run := .ready, x := m.x, line := BitVec.ofNat 21 line, slot := 1 } ∧
    ∀ r, m.rx r = if r = 1 then BitVec.ofNat 64 reason else if r = 2 then BitVec.ofNat 64 q
      else if r = 3 then BitVec.ofNat 64 x3 else if r = 4 then BitVec.ofNat 64 (u.queueDesc q).hdr else 0

end Sys2Proof.Machine

/-- R238, R338, R339, R341: pre-emption. PREEMPT starts the ladder or gives the code of its refusal; the drain ends it at
rung 1, T1 cancels it or stops the cores for the save, the save ends it with every context in the cellar, at rung 2, or at
rung 3 with the operators gone too, a context that cannot be written fails it with 0x0D, T2 with code 0x10. An operator that
may not run again ends with code 0x10, another is marked. RESUME of a saved partition shows it running again: after rung 2
every core has the context that the cellar holds, one whose CRC fails being the loss of its core; after rung 3 the marked
operators start again. A timer that has not run out does nothing. That a save at rung 2 leaves no strand, queue, latch or
landing state on the core is the model's choice (logs 28 and 50): R339 clears them at rung 3. Where the spec leaves a point
open, the model’s choice is stated: log 28, 50, 86. -/
def Obligations.Preemption : Prop :=
  (∀ (f : FSY) (s : State), s.isPorch = true → Issues s 2 (s.guard7 f.g) [f.a, f.d] → s.me.storeq = [] → s.me.far = [] →
    let q := (s.rx f.a).toNat % 256
    let p := (s.queueDesc q).part.toNat
    let max := f.imm.extractLsb' 0 2
    (64 ≤ q ∨ s.queueEnabled q = false ∨ max = 0 → ∃ t, exec (.preempt f) s = .next t ∧ ScalarDone s t 2 f.d 0x02 0) ∧
    (q < 64 → s.queueEnabled q = true → max ≠ 0 →
      (s.partBusy p = false ∨ (s.part p).saved = true ∨ (s.part p).ladder ≠ .none →
        ∃ t, exec (.preempt f) s = .next t ∧ ScalarDone s t 2 f.d 0x07 0) ∧
      (s.partBusy p = true → (s.part p).saved = false → (s.part p).ladder = .none →
        let u := (s.setPart p { s.part p with ladder := .drain (BitVec.ofNat 6 q) max s.tai, pstate := 2 }).setPorchQueue q
          { s.porchQueue q with pdone := 0 }
        let w := u.setAs0 ((s.queueDesc q).hdr + 0x20) 8 (statusWord u q)
        (w.successor 2).isSome = true → ∃ t, exec (.preempt f) s = .next t ∧ ScalarDone w t 2 f.d 0 0))) ∧
  (∀ (p : PartId) (s : State) (q : BitVec 6) (max : BitVec 2) (start : Nat), let n := p.toNat
    (s.part n).ladder = .drain q max start →
    (s.partDrained n = true → s.tai ≤ start + drainTime (s.queueDesc q.toNat) →
      ∃ t, exec (.preemptDrainComplete p) s = .next t ∧ LadderEnded t n q.toNat true 1 0) ∧
    (s.partDrained n = false → exec (.preemptDrainComplete p) s = .next s) ∧
    (s.tai < start + drainTime (s.queueDesc q.toNat) → exec (.preemptT1Expiry p) s = .next s) ∧
    (start + drainTime (s.queueDesc q.toNat) ≤ s.tai →
      (max = 1 → ∃ t, exec (.preemptT1Expiry p) s = .next t ∧ LadderEnded t n q.toNat false 0 0x10) ∧
      (max ≠ 1 → ∃ t, exec (.preemptT1Expiry p) s = .next t ∧ (t.part n).ladder = .save q max s.tai ∧
        (t.part n).pstate = 3 ∧ ∀ c ∈ (s.partRect n).cores, (t.core c).holder = none))) ∧
  (∀ (p : PartId) (s : State) (q : BitVec 6) (max : BitVec 2) (start : Nat), let n := p.toNat
    (s.part n).ladder = .save q max start →
    let w := (s.partRect n).cores.foldl State.haltCore s
    (s.tai ≤ start + 40000 → exec (.preemptT2Expiry p) s = .next s ∧
      ((∃ c ∈ (s.partRect n).cores, w.midAccess c = true) → exec (.preemptSaveComplete p) s = .next w) ∧
      ((∀ c ∈ (s.partRect n).cores, w.midAccess c = false) →
        ((∃ c ∈ (s.partRect n).cores, w.badContext c = true) →
          ∃ t, exec (.preemptSaveComplete p) s = .next t ∧ LadderEnded t n q.toNat true 3 0x0D ∧
            ∀ c ∈ (s.partRect n).cores, (t.core c).strands = [] ∧ (t.core c).queues = []) ∧
        ((∀ c ∈ (s.partRect n).cores, w.badContext c = false) →
          ∃ t, exec (.preemptSaveComplete p) s = .next t ∧ LadderEnded t n q.toNat true (if max = 3 then 3 else 2) 0 ∧
            ∀ c ∈ (s.partRect n).cores, t.saved.get none c = some (w.core c) ∧
              (max ≠ 3 → Emptied (w.core c) (t.core c) ∧ (t.core c).active = (w.core c).active) ∧
              (max = 3 → (t.core c).strands = [] ∧ (t.core c).queues = [] ∧ (t.core c).arrays = [])))) ∧
    (start + 40000 < s.tai → exec (.preemptSaveComplete p) s = .next s ∧
      ∃ t, exec (.preemptT2Expiry p) s = .next t ∧ LadderEnded t n q.toNat true 3 0x10 ∧
        ∀ c ∈ (s.partRect n).cores, (t.core c).strands = [] ∧ (t.core c).queues = [])) ∧
  (∀ (c : CoreId) (s : State), s.midAccess c.toNat = true ↔ (s.core c.toNat).fenced = false ∧
    ∃ e ∈ (s.core c.toNat).strands, e.2.far ≠ [] ∨ ∃ i < e.2.storeq.length, e.2.stuck i = false) ∧
  (∀ (p c : Nat) (s : State), let u := s.resetCore p c
    ((s.core c).active = none → u = s.setCore c (u.core c) ∧ Emptied (s.core c) (u.core c) ∧ (u.core c).active = none) ∧
    ∀ pl, (s.core c).active = some pl →
      (pl.group.isSome = true ∨ pl.rerun = true → Emptied (s.core c) (u.core c) ∧ (u.core c).active = some pl ∧
        u = (s.setCore c (u.core c)).setPart p { s.part p with relaunch := (s.part p).relaunch ++ [(c, pl.record)] }) ∧
      (pl.group = none → pl.rerun = false → s.coresOf pl.record = [c] → ∃ k, Emptied (s.core c) k ∧ k.active = none ∧
        u = (s.setCore c k).setAs0 (pl.record + 0xF8) 8 (1 + 2 ^ 8 * 0x10)) ∧
      (pl.group = none → pl.rerun = false → (∃ d ∈ s.coresOf pl.record, d ≠ c) → Emptied (s.core c) (u.core c) ∧
        (u.core c).active = none ∧ ∀ d, d ≠ c → u.core d =
          if d ∈ s.coresOf pl.record then { s.core d with opFault := 0x10 } else s.core d)) ∧
  (∀ (f : FSY) (s : State), s.isPorch = true → Issues s 2 (s.guard7 f.g) [f.a, f.d] → s.me.storeq = [] → s.me.far = [] →
    let p := (s.rx f.a).toNat % 8
    ((s.part p).saved = false → ∃ t, exec (.resumePartition f) s = .next t ∧ ScalarDone s t 2 f.d 0x07 0) ∧
    ((s.part p).saved = true → (s.part p).rung = 1 →
      let u := ((s.showSaved p false 0).setPstate p 1).refreshPstate p
      (u.successor 2).isSome = true → ∃ t, exec (.resumePartition f) s = .next t ∧ ScalarDone u t 2 f.d 0 0) ∧
    ((s.part p).saved = true → (s.part p).rung = 2 →
      let u := ((s.partRect p).cores.foldl State.restoreCore ((s.showSaved p false 0).setPstate p 1)).refreshPstate p
      (u.part p).saved = false ∧ (∀ c ∈ (s.partRect p).cores, u.saved.get none c = none) ∧
        ((u.successor 2).isSome = true → ∃ t, exec (.resumePartition f) s = .next t ∧ ScalarDone u t 2 f.d 0 0)) ∧
    ((s.part p).saved = true → (s.part p).rung = 3 →
      let u := (((s.showSaved p false 0).setPstate p 1).relaunchAll p).refreshPstate p
      (u.successor 2).isSome = true → ∃ t, exec (.resumePartition f) s = .next t ∧ ScalarDone u t 2 f.d 0 0)) ∧
  (∀ (c : CoreId) (s : State) (k : Core), s.saved.get none c.toNat = some k →
    s.contextOk c.toNat = false ∨ s.badContext c.toNat = true →
    exec (.coreFence c) { s with saved := s.saved.set none c.toNat none } = .next (s.restoreCore c.toNat)) ∧
  (∀ (c : Nat) (s : State) (k : Core), s.saved.get none c = some k → s.contextOk c = true → s.badContext c = false →
    let t := s.restoreCore c
    let m := s.readContext c
    let k' := k.ofContext s.clk m
    (∀ i, (t.core c).strand i = match (k'.strand i).run with
      | .memory _ | .parked _ => { k'.strand i with run := .ready, inflight := [] }
      | _ => k'.strand i) ∧
      (t.core c).scratch = k'.scratch ∧ (t.core c).rings = k'.rings ∧ (t.core c).queues = k'.queues ∧
      (t.core c).vfile = k'.vfile ∧ (t.core c).rows = k'.rows ∧ (t.core c).arrays = k'.arrays ∧
      (∀ a < 0x300000, (t.core c).scratch.get 0 a = m.get 0 a) ∧
      ∀ i < 8, let n := (t.core c).strand i
        let w (o : Nat) : Nat := bytesAt m (0x3E0000 + 32768 * i + o) 8
        (∀ r, n.rx r = if r = 0 then 0 else BitVec.ofNat 64 (w (0x4000 + 8 * r.toNat))) ∧
          n.line ++ n.slot = BitVec.ofNat 25 (w 0x4208) ∧ n.tpc = BitVec.ofNat 25 (w 0x42E0) ∧
          n.trapIn = (w 0x42D0).testBit 1)

/-- R341, R345, R346: the loss of a core. Its core is fenced, its partition recovers, its open steps are abandoned and the
porch has an event; when T1 is over, cores that have not drained are reset; with a spare rectangle the partition is
re-placed there, its requests whose pages could not be read FAULTED, its operators that had done their work retired and the
others started again or abandoned; without one, or with rows lost that no request names, it is given up. A core that is
fenced already changes nothing. Where the spec leaves a point open, the model’s choice is stated: log 28, 29, 75. -/
def Obligations.CoreLoss : Prop :=
  (∀ (c : CoreId) (s : State), (s.core c.toNat).fenced = true → exec (.coreFence c) s = .next s) ∧
  (∀ (c : CoreId) (s : State), let p := s.partHolding c.toNat
    (s.core c.toNat).fenced = false → (s.part p).pstate ≠ 5 →
    ∃ t r, exec (.coreFence c) s = .next t ∧ SameBytes s t ∧
      t = { s with cores := t.cores, parts := t.parts, groups := t.groups } ∧
      (∀ e, t.core e = if e = c.toNat then { s.core e with fenced := true, holder := none } else s.core e) ∧
      r = { FaultRecord.none with code := 0x0D, source := 15, place := r.place, time := BitVec.ofNat 64 s.tai } ∧
      t.part p = { s.part p with
        events := (s.part p).events ++ [⟨4, r⟩], pstate := 5,
        fencing := some (s.tai + drainTime (s.queueDesc ((s.partQueues p).headD 0))) } ∧
      (∀ o, o ≠ p → t.part o = s.part o) ∧
      ∀ g < 16, t.group g = if (s.group g).cfg.part.toNat = p ∧ (s.group g).phase = .open then
        { s.group g with phase := .abandoned, rerun := true } else s.group g) ∧
  (∀ (c : CoreId) (s : State), (s.core c.toNat).fenced = false → (s.part (s.partHolding c.toNat)).pstate = 5 →
    ∃ t, exec (.coreFence c) s = .next t ∧ t.stopped = true) ∧
  (∀ (p : PartId) (s : State) (due : Nat), let n := p.toNat
    (s.part n).fencing = some due →
    (s.tai < due → exec (.fenceDrainT1Expiry p) s = .next s) ∧
    (due ≤ s.tai → ∃ t, exec (.fenceDrainT1Expiry p) s = .next t ∧
      (t.part n).fencing = none ∧ ∀ c ∈ (s.partRect n).cores,
        ((s.core c).fenced = false → (∃ pl, (s.core c).active = some pl ∧ ¬ CoreDrained (s.core c) pl.group.isSome) →
          (t.core c).strands = [] ∧ (t.core c).queues = [] ∧ (t.core c).rows = [] ∧ (t.core c).arrays = []))) ∧
  (∀ (p : PartId) (s : State), let n := p.toNat
    (s.part n).pstate = 5 → (∀ c ∈ (s.partRect n).cores, (s.core c).fenced = true ∨ (s.core c).active = none ∨
      ∃ pl, (s.core c).active = some pl ∧ CoreDrained (s.core c) pl.group.isSome) →
    let old := Rect.ofBits (s.part n).rect.toNat
    let fits : Prop := ∀ img ∈ s.planeImages (old.cores.map (fun c => (s.core c).active)),
      ∀ e ∈ s.relocations img, (s.placement (Rect.ofBits (s.part n).spare.toNat) e).isSome = true
    let named : Prop := ∀ x ∈ s.lostRows old, ∃ r ∈ s.partRecords n, ∃ e ∈ s.recEntries r, s.entNames e x = true
    ((s.part n).spare ≠ 0 → named → fits → ∃ t, exec (.rePlacement p) s = .next t ∧
      (t.part n).rect = (s.part n).spare ∧ (t.part n).spare = (s.part n).rect ∧ (t.part n).pstate ≠ 5 ∧
      (t.part n).fencing = none ∧
      ∀ r, s.partRecords n = [r] → s.recField r 0 1 ∈ [2, 3] →
        (∃ x ∈ s.lostRows old, ∃ e ∈ s.recEntries r, s.entNames e x = true) →
        t.recField r 0x00 1 = 5 ∧ t.recField r 0x78 1 = 0x0D) ∧
    ((s.part n).spare = 0 ∨ ¬ named ∨ ¬ fits →
      (∀ g < 16, (s.group g).cfg.part.toNat = n → (s.group g).phase ≠ .abandoned) →
      exec (.rePlacement p) s = .next (s.setPart n { s.part n with fencing := none }))) ∧
  (∀ (p : Nat) (s : State) (pl : Plane),
    let cores := s.coresOf pl.record
    let lost : Prop := (∃ e ∈ (s.part p).relaunch, e.2 = pl.record) ∨ ∃ c ∈ cores, (s.core c).fenced = true
    (pl.group.isSome = true → s.endCode p pl = none) ∧
    (pl.group = none → (lost → s.endCode p pl = if pl.rerun then none else some 0x10) ∧
      ∀ f, ¬ lost → (∀ c ∈ cores, (s.core c).opFault = f) → cores ≠ [] → s.endCode p pl = some f) ∧
    ∀ c code, s.rebuild (c, some (pl, some code)) =
      if pl.launch = true ∨ code = 0x10 then s.setAs0 (pl.record + 0xF8) 8 (1 + 2 ^ 8 * code.toNat) else s) ∧
  (∀ (p : PartId) (s : State), (s.part p.toNat).pstate ≠ 5 → exec (.rePlacement p) s = .next s)

/-- R78, R325–R328, R332, R378: the porch's queues. The host publishes an entry; a run starts for a restart, an event or an
entry, in that order, with x1 to x4; a queue the host has overrun, or a run that exceeds its budget, stops with its fault;
QCTL clears stopped. Loading an image puts its lines in memory, copies its data chains, maps the copy with writes allowed
and extends the measurement; where the copy cannot be mapped at the place the porch chose, nothing is loaded (the model's
reading, log 25). An image that a check refuses is reported with the offset of its first bad field. Where the spec leaves a
point open, the model’s choice is stated: log 25, 50, 61, 87, 88. -/
def Obligations.PorchRuns : Prop :=
  (∀ (q : HostQueueId) (s : State) (img : Image) (line : Nat), let n := q.toNat
    let d := (s.queueDesc n).part.toNat
    let acc := hdrField s n 0x08 8
    let r := s.readAs0 (s.queueDesc n).hdr
    MayRun s n img line false →
    ((s.porchQueue n).restart = true → ∃ t, exec (.porchRunStart q) s = .next t ∧ RunBegun r t n line 5 (hostEntry r n acc)) ∧
    (∀ e rest, (s.porchQueue n).restart = false → s.eventQueue d = some n → (s.part d).events = e :: rest →
      ∃ u t, exec (.porchRunStart q) s = .next t ∧ RunBegun u t n line e.reason (s.cfg.eventArea + 64 * n) ∧
        u = (r.setPart d { r.part d with events := rest }).putAs0 (s.cfg.eventArea + 64 * n)
          (toBytes 64 (e.record.time ++ e.record.place ++ e.record.hi ++ e.record.lo ++ e.record.addr ++
            summaryOf e.record).toNat)) ∧
    ((s.porchQueue n).restart = false → s.eventQueue d ≠ some n ∨ (s.part d).events = [] → acc ≠ hdrField s n 0 8 →
      ∃ t, exec (.porchRunStart q) s = .next t ∧ RunBegun r t n line 0 (hostEntry r n acc))) ∧
  (∀ (q : HostQueueId) (s : State) (img : Image) (line : Nat), let n := q.toNat
    let r := s.readAs0 (s.queueDesc n).hdr
    let p := r.porchQueue n
    let u := r.setPorchQueue n { p with
      running := false, stopped := true, pfault := 0x08, strand := { p.strand with run := .absent } }
    MayRun s n img line true → hdrField s n 0x08 8 ≠ hdrField s n 0 8 →
      exec (.porchRunStart q) s = .next (u.setAs0 ((s.queueDesc n).hdr + 0x20) 8 (statusWord u n))) ∧
  (∀ (q : HostQueueId) (s : State), (s.porchQueue q.toNat).running = true ∨ (s.porchQueue q.toNat).stopped = true →
    exec (.porchRunStart q) s = .next s) ∧
  (∀ (q : HostQueueId) (s : State), let p := s.porchQueue q.toNat
    let u := s.setPorchQueue q.toNat { p with
      running := false, stopped := true, pfault := 0x10, strand := { p.strand with run := .absent } }
    (p.running = true → p.strand.run = .ready → issueBudget (s.queueDesc q.toNat) ≤ p.issued → exec (.porchBudgetExpiry q) s =
      .next (u.setAs0 ((s.queueDesc q.toNat).hdr + 0x20) 8 (statusWord u q.toNat))) ∧
    (p.issued < issueBudget (s.queueDesc q.toNat) → exec (.porchBudgetExpiry q) s = .next s)) ∧
  (∀ (q : HostQueueId) (entry : List Byte) (s : State), let n := q.toNat
    let wr := hdrField s n 0 8
    exec (.hostQueuePublish q entry) s = .next ((s.putAs0 (hostEntry s n wr) (entry.take (hdrField s n 0x1C 4))).setAs0
      (s.queueDesc n).hdr 8 ((wr + 1) % 2 ^ 64))) ∧
  (∀ (q : HostQueueId) (s : State), let n := q.toNat
    let u := s.setAs0 ((s.queueDesc n).hdr + 0x28) 8 0
    let w := u.setPorchQueue n { s.porchQueue n with stopped := false, restart := true }
    ((s.porchQueue n).stopped = false → exec (.qctlRestart q) s = .next u) ∧
    ((s.porchQueue n).stopped = true → exec (.qctlRestart q) s =
      .next (w.setAs0 ((s.queueDesc n).hdr + 0x20) 8 (statusWord w n)))) ∧
  (∀ (f : ImageFile) (s : State), let report (off : Nat) : State := { s with refused :=
      { FaultRecord.none with
        code := 0x02, info := BitVec.ofNat 40 off, source := 14, time := BitVec.ofNat 64 s.tai } :: s.refused }
    (∀ off, fileBadField f = some off → exec (.imageLoad f) s = .next (report off)) ∧
    (fileBadField f = none → fileDataOk f = false → exec (.imageLoad f) s = .next (report 0))) ∧
  (∀ (f : ImageFile) (s : State), fileBadField f = none → fileDataOk f = true → f.base % 64 = 0 → f.dataBase % 64 = 0 →
    f.dataBase % 65536 = f.dataPhys % 65536 → s.pooledOk f.base = true → s.pooledOk f.dataPhys = true →
    s.pooledOk (f.base + 64 * f.lines.length - 1) = true → s.pooledOk (f.dataPhys + fileDataSize f - 1) = true →
    let loaded (w t : State) : Prop :=
      t = { w with images := t.images, measure := t.measure, porch := t.porch } ∧
      ∃ img, t.images = s.images.filter (fun i => i.ident != f.ident) ++ [img] ∧
        img.ident = f.ident ∧ img.base = f.base ∧ img.nlines = f.lines.length ∧ img.dirLine = fileHeader f 0x10 ∧
        img.dirCount = fileHeader f 0x14 ∧ img.dataBase = f.dataBase ∧
        t.measure = digest512 (toBytes 64 s.measure.toNat ++ toBytes 64 (digest512
          ((List.range f.lines.length).flatMap (fun l => toBytes 64 (fileLine f l)))).toNat)
    (fileChains f = [] → ∃ u t : State, exec (.imageLoad f) s = .next t ∧ loaded u t ∧ ∀ l < f.lines.length, ∀ i < 64,
      u.peek (.pooled (f.base + 64 * l + i)) = BitVec.ofNat 8 (fileLine f l / 2 ^ (8 * i))) ∧
    (∀ c, fileChains f = [c] → fileHeader f 0x1C = 0 → f.base + 64 * f.lines.length ≤ f.dataPhys → ∃ u : State,
      (∀ i < 60 * c.length, u.peek (.pooled (f.dataPhys + i)) =
        BitVec.ofNat 8 (fileLine f (c.getD (i / 60) 0) / 2 ^ (8 * (4 + i % 60)))) ∧
      (u.mapData f (60 * c.length) = none → exec (.imageLoad f) s = .next s) ∧
      ∀ w, u.mapData f (60 * c.length) = some w → ∃ t, exec (.imageLoad f) s = .next t ∧ loaded w t)) ∧
  (∀ (f : ImageFile) (s : State) (n : Nat), let p := s.part f.part.toNat
    let page (a : Nat) : Nat := a / 65536 * 65536
    (n ≠ 0 → p.en = false → s.mapData f n = none) ∧
    (n ≠ 0 → p.en = true → s.mapData f n = State.mapPages p.root (page f.dataBase) (page f.dataPhys)
      ((f.dataBase + n - 1) / 65536 - f.dataBase / 65536 + 1) f.tables s)) ∧
  (∀ (va pa t : Nat) (s : State), let ea := t + 8 * (va / 65536 % 2 ^ 5)
    (s.pooledOk ea = false → State.mapPage va pa [(3, 16, 5)] t [] s = none) ∧
    (s.pooledOk ea = true → State.mapPage va pa [(3, 16, 5)] t [] s =
      some ([], s.storePhys ea 8 (pa / 65536 * 65536 + 7) (allBytes 8))))

/-! ## The fabric and the device -/

namespace Sys2Proof.Machine

/-- Only the fabric differs. -/
def OnlyRemote (s t : State) : Prop := t = { s with fabric := t.fabric }
/-- Flits of a packet with its header (R354). -/
def flitsOf (p : Packet) : Nat := p.header.toNat / 2 ^ 38 % 64 + 1
/-- Port p is v, every other port, buffer and window as it was. -/
def PortIs (s t : State) (p : Nat) (v : Port) : Prop :=
  OnlyRemote s t ∧ t.fabric = { s.fabric with ports := t.fabric.ports } ∧
    ∀ q, t.fabric.port q = if q = p then v else s.fabric.port q
/-- The head of an inbox taken out. -/
def takenFrom (s : State) (box : Nat) (rest : List Arrived) : State :=
  { s with fabric := { s.fabric with inbox := s.fabric.inbox.set [] box rest } }
/-- The packet at the head of the inbox of channel vc, of this kind, not seen before. -/
def AtHead (s : State) (vc kind : Nat) (r : Arrived) (rest : List Arrived) : Prop :=
  s.fabric.inbox.get [] vc = r :: rest ∧ r.pkt.header.toNat / 2 ^ 19 % 32 = kind ∧ s.seen r.pkt = false
/-- The local buffer of channel vc can take the first flit of a packet (R356). -/
def LocalRoom (s : State) (vc : Nat) : Prop := bufferFlits (s.fabric.buf 12 vc) < 128
/-- The input buffer of a port can: 128 flits a channel, 64 for each dateline class where the dimension is wrapped (R356). -/
def InputRoom (s : State) (port : Nat) (p : Packet) : Prop :=
  let l := s.fabric.buf port (pktVc p)
  if s.wrapped port = true then bufferFlits (l.filter (fun q => s.crossed port q == s.crossed port p)) < 64
  else bufferFlits l < 128
/-- What port p sent and was not acknowledged, a multicast packet as the copies of the destinations it was to reach, waits to be sent
again, ahead of what waits so already, which follows it in its
buffer; reduction packets, which leave on their own port only, stay in theirs (R363). -/
def Resent (s t : State) (p : Nat) : Prop :=
  let old := (s.fabric.port p).unacked.flatMap (fun q => if pktKind q = 10 then s.copiesFor q (s.left p q) else [q])
  ∀ i c, c < 6 → t.fabric.buf i c =
    if i = 13 + p then old.filter (fun k => pktVc k == c) ++ s.fabric.buf i c ++
      (List.range 12).flatMap (fun j => if j = p then [] else (s.fabric.buf (13 + j) c).filter (fun k => pktKind k != 6))
    else if 13 ≤ i ∧ i < 25 then (s.fabric.buf i c).filter (fun k => pktKind k == 6) else s.fabric.buf i c
/-- The load of the fabric that request `id` of strand k of core c is has failed with a code (R143–R145, R364): the oldest is a
precise fault at its load, its register free again and the strand's later stores that have not left given up (the model's choice, log
74); a younger one waits for those before it. -/
def LoadFails (w t : State) (c : CoreId) (k : StrandId) (id : Nat) (code : BitVec 8) : Prop :=
  let a := Agent.strand c k
  let m := w.strandOf a
  (∀ f, m.far = [f] → f.id = some id → m.trapEn = true → m.trapIn = false → m.run ≠ .halted → m.run ≠ .trapped →
    m.run ≠ .debugged → ∃ r : FaultRecord, r.code = code ∧ r.source = 15 ∧ r.cls = f.cls ∧ r.addr = BitVec.ofNat 64 f.addr ∧
      r.place = (c ++ k ++ f.pc).setWidth 64 ∧ r.time = BitVec.ofNat 64 w.tai ∧
      t = w.setStrandOf a (inHandler ({ m with
        far := [], pass := { m.pass with ended := none }
        storeq := m.storeq.filter (fun e => decide (e.order < f.order) || e.sent.isSome) }.returned f.dest) f.pc r)) ∧
  (∀ g rest, m.far = g :: rest → g.id ≠ some id → g.failed = none → t = w.setStrandOf a { m with
    far := g :: rest.map (fun f => if f.id = some id then { f with failed := some code } else f) })
/-- A packet with this header put into the local buffer of channel vc. -/
def Answered (s t : State) (p : Packet) (vc kind aux : Nat) (payload : List Byte) : Prop :=
  OnlyRemote s t ∧ t.fabric = { s.fabric with bufs := t.fabric.bufs } ∧ ∀ i v, v < 8 → t.fabric.buf i v =
    if i = 12 ∧ v = vc then s.fabric.buf 12 vc ++ [⟨mkHeader (pktSrc p) s.pkg vc kind aux payload.length (pktClass p) (pktWin p)
      (pktOffset p) 0 (pktSeq p), payload⟩] else s.fabric.buf i v
/-- The channel of an answer to a write (R355). -/
def answerVc (vc : Nat) : Nat := if vc = 2 ∨ vc = 4 then 4 else vc

/-- A host access that is tried: nothing outside its window, without the right or in P3; else, once every translation is present, the
bytes are read or written at L2. In park mode one that is not present makes the access wait: an event is posted with the first
walk of each 64 KiB, and 1 ms later the access is dropped (R283, R369; the drop and the event's form are the model's, log 55). What the
access goes on to wait for is r, the state then t. -/
def HostTried (s : State) (x : HostWait) (r : Option HostWait) (t : State) : Prop :=
  let w := s.hostIn.get ⟨0, 0, 0, 0, false, false⟩ x.win.toNat
  let asid := w.asid.toNat
  let n := match x.access with | .read n => n | .write data => data.length
  let right := match x.access with | .read _ => w.readable | .write _ => w.writable
  let inside : Prop := w.off ≤ x.offset.toNat ∧ x.offset.toNat - w.off + n ≤ w.size ∧ s.power.pstate ≠ 3
  let va := w.base + (x.offset.toNat - w.off)
  let pieces := linePieces (n + 1) va n
  let miss := s.hostMiss asid (if asid = 0 ∧ (s.registerRead va n).isSome = true then [] else pieces.map (fun p => p.1))
  (right = false ∨ ¬ inside → r = none ∧ t = s) ∧
  (right = true → inside →
    (∀ u, miss = (none, u) → r = none ∧
      (∀ v b, x.access = .read n → u.farReadG asid pieces = (.val v, b) → t = { b with hostReads := toBytes n v :: b.hostReads }) ∧
      (∀ y b, x.access = .read n → u.farReadG asid pieces = (y, b) → (∀ v, y ≠ .val v) → t = b) ∧
      (∀ data, x.access = .write data → t = (u.farWriteG asid pieces (ofBytes data)).2)) ∧
    (∀ a u, miss = (some a, u) →
      ((∀ m, x.missed = some m → m.1 / 2 ^ 16 ≠ a / 2 ^ 16) →
        r = some { x with missed := some (a, u.tai + 1000000) } ∧ t = u.ingestMiss (u.partWithAsid asid) a) ∧
      ∀ m, x.missed = some m → m.1 / 2 ^ 16 = a / 2 ^ 16 → r = (if m.2 ≤ u.tai then none else some x) ∧ t = u))

/-- How far the package is ahead of its master by four stamps (R372). -/
def aheadBy (t : TimeStamps) : Int :=
  (((t.t2.toNat : Int) - t.t1.toNat) - ((t.t4.toNat : Int) - t.t3.toNat)) / 2
/-- The servo and the time base after a measured offset of at most 1 ms behind (R372): slewed away, locked once it has stayed
below 100 ns for a second. -/
def Disciplined (s t : State) (ahead : Int) (parentMsg : Option Nat) : Prop :=
  let since := if -100 < ahead ∧ ahead < 100 then some (s.servo.goodSince.getD s.tai) else none
  t = { s with servo := { s.servo with
    status := match since with | some u => if u + 1000000000 ≤ s.tai then 1 else 3 | none => 3
    offset := ahead, lastMsg := s.tai, goodSince := since, slew := -ahead, parentMsg := parentMsg } }
/-- A time message leaves for a package on channel 0 when the local buffer has room (R355, R373). -/
def timeMessaged (u : State) (dst : Nat) : State :=
  if bufferFlits (u.fabric.buf 12 0) < 128 then u.inject dst 0 7 0 0 0 0 0 [0] else u

end Sys2Proof.Machine

/-- R350–R359, R361, R363, R365: ports and links. A packet that comes in waits in its channel's buffer, one of a reserved
kind or channel is dropped and counted; a grant takes a promoted head first, else the first channel from cur on that has
credit, credits being reloaded when no channel with a head has any, and in it the head of the lowest input; the heads that
lose grow older and are promoted at their thr-th loss; of a multicast packet the copies that take one output leave as one
(log 15); ports come up when both ends agree, lose lanes, go down and send again what was not acknowledged; replays are
counted. A buffer without room takes nothing; a package that loses the link to its time parent is in holdover. Where the
spec leaves a point open, the model’s choice is stated: log 15, 16, 40, 96. -/
def Obligations.FabricPorts : Prop :=
  (∀ (port : PortId) (pkt : Packet) (s : State), let p := port.toNat
    let v := s.fabric.port p
    let got := { v with flitsIn := (v.flitsIn + flitsOf pkt) % 2 ^ 64, unacked := [] }
    (12 ≤ p ∨ v.up = false → exec (.packetRoute port pkt) s = .next s) ∧
    (p < 12 → v.up = true → 10 < pktKind pkt ∨ 5 < pktVc pkt → ∃ t, exec (.packetRoute port pkt) s = .next t ∧
      PortIs s t p { got with drops := (v.drops + 1) % 2 ^ 64 }) ∧
    (p < 12 → v.up = true → pktKind pkt ≤ 10 → pktVc pkt ≤ 5 → ¬ InputRoom s p pkt →
      exec (.packetRoute port pkt) s = .next s) ∧
    (p < 12 → v.up = true → pktKind pkt ≤ 10 → pktVc pkt ≤ 5 → InputRoom s p pkt →
      ∃ t, exec (.packetRoute port pkt) s = .next t ∧
      OnlyRemote s t ∧ t.fabric = { s.fabric with ports := t.fabric.ports, bufs := t.fabric.bufs } ∧
      (∀ q, t.fabric.port q = if q = p then got else s.fabric.port q) ∧ ∀ i c, c < 8 → t.fabric.buf i c =
        if i = p ∧ c = pktVc pkt then s.fabric.buf i c ++ (if pktKind pkt = 10 then s.copies p pkt true else [pkt])
        else s.fabric.buf i c)) ∧
  (∀ (port : PortId) (s : State), let o := port.toNat
    let v := s.fabric.port o
    let sent (t : State) (h : Head) : Prop := let out := s.takeCopies (h.key / 8) o h.pkt (s.fabric.bufs.get [] h.key).tail
      OnlyRemote s t ∧
      (∀ k, t.fabric.bufs.get [] k = if k = h.key then out.2 else s.fabric.bufs.get [] k) ∧
      t.fabric.age.get 0 h.key = 0 ∧ t.fabric.promoted.get false h.key = false ∧
      (∀ g ∈ s.heads o, g.key ≠ h.key → t.fabric.age.get 0 g.key = s.fabric.age.get 0 g.key + 1 ∧
        t.fabric.promoted.get false g.key =
          (s.fabric.promoted.get false g.key || decide (s.fabric.age.get 0 g.key + 1 = v.thr))) ∧
      (o < 12 → t.fabric.sent.get [] o = s.fabric.sent.get [] o ++ [out.1] ∧
        (t.fabric.port o).flitsOut = (v.flitsOut + flitsOf out.1) % 2 ^ 64 ∧
        (t.fabric.port o).unacked = v.unacked ++ [out.1]) ∧
      (o = 12 → let box := if pktKind h.pkt = 6 then 16 + h.key / 8 else h.vc
        t.fabric.inbox.get [] box = s.fabric.inbox.get [] box ++ [⟨out.1, s.fwindow (pktWin out.1)⟩])
    (s.heads o = [] ∨ 12 < o ∨ (o < 12 ∧ v.up = false) → exec (.outputGrant port) s = .next s) ∧
    (∀ h, o ≤ 12 → o = 12 ∨ v.up = true → (s.heads o).find? (fun g => s.fabric.promoted.get false g.key) = some h →
      ∃ t, exec (.outputGrant port) s = .next t ∧ sent t h ∧
        (t.fabric.port o).cred = v.cred ∧ (t.fabric.port o).cur = v.cur) ∧
    (let cred := (if (s.heads o).any (fun g => decide (0 < v.cred.getD g.vc 0)) then v.cred
        else (List.range 6).map (fun i => v.wt.toNat / 16 ^ i % 16))
      ∀ h n, o ≤ 12 → o = 12 ∨ v.up = true → (∀ g ∈ s.heads o, s.fabric.promoted.get false g.key = false) →
      n < 6 → h.vc = (v.cur + n) % 6 → (s.heads o).find? (fun g => g.vc == h.vc) = some h → 0 < cred.getD h.vc 0 →
      (∀ m < n, ∀ g ∈ s.heads o, g.vc = (v.cur + m) % 6 → cred.getD g.vc 0 = 0) →
      ∃ t, exec (.outputGrant port) s = .next t ∧ sent t h ∧
        (t.fabric.port o).cred = cred.set h.vc (cred.getD h.vc 0 - 1) ∧ (t.fabric.port o).cur = (h.vc + 1) % 6) ∧
    (∀ h, o ≤ 12 → o = 12 ∨ v.up = true → s.heads o = [h] → s.fabric.promoted.get false h.key = false → h.vc < 6 →
      0 < v.cred.getD h.vc 0 → ∃ t, exec (.outputGrant port) s = .next t ∧ sent t h ∧
        (t.fabric.port o).cred = v.cred.set h.vc (v.cred.getD h.vc 0 - 1) ∧ (t.fabric.port o).cur = (h.vc + 1) % 6)) ∧
  (∀ (i o : Nat) (p : Packet) (run after : List Packet) (s : State),
    let goes (q : Packet) : Bool := s.outputOf i q == some o && !s.overtaken i q
    (pktKind p ≠ 10 → s.takeCopies i o p run = (p, run)) ∧
    (pktKind p = 10 → (∀ q ∈ run, retarget q 0 = retarget p 0) → (∀ q l, after = q :: l → retarget q 0 ≠ retarget p 0) →
      let out := s.takeCopies i o p (run ++ after)
      out.2 = run.filter (fun q => !goes q) ++ after ∧ (out.1 = p ∨ (out.1 ∈ run ∧ goes out.1 = true)) ∧
      ∀ q ∈ p :: run, q = p ∨ goes q = true → siblingsPassed o (pktDst q) ≤ siblingsPassed o (pktDst out.1))) ∧
  (∀ (port : PortId) (wx wy : BitVec 5) (wraps : BitVec 2) (s : State), let p := port.toNat
    let v := s.fabric.port p
    let agrees := wx.toNat = s.cfg.wx ∧ wy.toNat = s.cfg.wy ∧ wraps.getLsbD 0 = s.cfg.wrapX ∧ wraps.getLsbD 1 = s.cfg.wrapY
    (12 ≤ p ∨ v.en = false ∨ s.neighbour s.pkg (p / 3) = none → exec (.portComesUp port wx wy wraps) s = .next s) ∧
    (p < 12 → v.en = true → (s.neighbour s.pkg (p / 3)).isSome = true →
      (agrees → ∃ t, exec (.portComesUp port wx wy wraps) s = .next t ∧ PortIs s t p { v with up := true, lanes := 8 }) ∧
      (¬ agrees → ∃ t, exec (.portComesUp port wx wy wraps) s = .next t ∧
        PortIs s t p { v with up := false, drops := (v.drops + 1) % 2 ^ 64 }))) ∧
  (∀ (port : PortId) (lanes : BitVec 4) (s : State), let p := port.toNat
    let v := s.fabric.port p
    (12 ≤ p ∨ v.up = false ∨ v.lanes ≤ lanes.toNat → exec (.laneFailure port lanes) s = .next s) ∧
    (p < 12 → v.up = true → lanes.toNat < v.lanes →
      (4 ≤ lanes.toNat → ∃ t, exec (.laneFailure port lanes) s = .next t ∧ PortIs s t p { v with lanes := lanes.toNat }) ∧
      (lanes.toNat < 4 → ∃ t, exec (.laneFailure port lanes) s = .next t ∧ Resent s t p ∧
        (∀ q, t.fabric.port q = if q = p then { v with lanes := lanes.toNat, up := false, unacked := [] } else s.fabric.port q) ∧
        t = { s with fabric := { s.fabric with ports := t.fabric.ports, bufs := t.fabric.bufs }, servo := t.servo } ∧
        t.servo = if s.servo.parent = some p then
          { s.servo with status := 2, goodSince := none, slew := 0, parentMsg := none, lost := true } else s.servo))) ∧
  (∀ (port : PortId) (v : DWord) (s : State), let p := port.toNat
    let o := s.fabric.port p
    let w := v.toNat % 2 ^ 24
    (12 ≤ p → exec (.fabricPortControlWrite port v) s = .next s) ∧
    (p < 12 → v.getLsbD 24 = true ∨ o.up = false → ∃ t, exec (.fabricPortControlWrite port v) s = .next t ∧
      PortIs s t p { o with
        wt := if ∀ i < 6, w / 16 ^ i % 16 ≠ 0 then BitVec.ofNat 24 w else o.wt
        thr := if v.toNat / 2 ^ 25 % 2 ^ 12 = 0 then o.thr else v.toNat / 2 ^ 25 % 2 ^ 12
        en := v.getLsbD 24, up := o.up && v.getLsbD 24 }) ∧
    (p < 12 → v.getLsbD 24 = false → o.up = true → ∃ t, exec (.fabricPortControlWrite port v) s = .next t ∧ Resent s t p ∧
      (t.fabric.port p).en = false ∧ (t.fabric.port p).up = false ∧ (t.fabric.port p).unacked = [] ∧
      ∀ q, q ≠ p → t.fabric.port q = s.fabric.port q)) ∧
  (∀ (port : PortId) (s : State), port.toNat < 12 → ∃ t, exec (.corruptedFlitReplay port) s = .next t ∧
    PortIs s t port.toNat { s.fabric.port port.toNat with replays := ((s.fabric.port port.toNat).replays + 1) % 2 ^ 64 }) ∧
  (∀ (win : BitVec 4) (base size attr srect : DWord) (s : State),
    ∃ t, exec (.inboundWindowWrite win base size attr srect) s = .next t ∧ OnlyRemote s t ∧
      t.fabric = { s.fabric with inbound := t.fabric.inbound } ∧ ∀ w, t.fwindow w = if w = win.toNat then
        ⟨base, size &&& 0xFFFFFF0000, attr &&& 0x7FFF, srect &&& 0xFFFF⟩ else s.fwindow w)

/-- R355, R360–R363, R365–R367: packets at their destination. A write, multicast write, read or atomic that passes the
checks is performed and answered; one refused is answered with the code; one already accepted is discarded; a reduction
packet of a child enters its window; a management packet is received on channel 5. A row in error marks the entries of its
page (R319). Where the spec leaves a point open, the model’s choice is stated: log 12, 15, 41, 74, 97, 98. -/
def Obligations.FabricRequests : Prop :=
  (∀ (vc : BitVec 3) (s : State) (r : Arrived) (rest : List Arrived), let c := vc.toNat
    let p := r.pkt
    let u := takenFrom s c rest
    let a := u.accepted p
    let n := p.payload.length
    let half := if pktAux p = 16 then n / 2 else n
    let room := LocalRoom s (pktVc p) ∧ LocalRoom s (answerVc (pktVc p))
    (AtHead s c 0 r rest → room → u.targetCheck r 1 n = none → ∃ t, exec (.write vc) s = .next t ∧
      Answered (a.targetWrite r n (ofBytes p.payload)) t p (answerVc (pktVc p)) 1 0 [0]) ∧
    (AtHead s c 10 r rest → room → u.targetCheck r 1 n = none → ∃ t, exec (.multicastWrite vc) s = .next t ∧
      Answered (a.targetWrite r n (ofBytes p.payload)) t p (answerVc (pktVc p)) 1 0 [0]) ∧
    (AtHead s c 2 r rest → room → u.targetCheck r 0 n = none → ∃ t, exec (.readRequest vc) s = .next t ∧
      Answered (a.targetRead r n).2 t p (pktVc p) 3 0 (toBytes n (a.targetRead r n).1)) ∧
    (AtHead s c 4 r rest → room → u.targetCheck r 2 half = none →
      let old := (a.targetRead r half).1
      let w := (a.targetRead r half).2
      (pktAux p < 16 → ∃ t, exec (.atomicRequest vc) s = .next t ∧
        Answered (w.targetWrite r n (amoF (pktAux p) n old (ofBytes p.payload))) t p (pktVc p) 5 0 (toBytes n old)) ∧
      (pktAux p = 16 → ∃ t, exec (.atomicRequest vc) s = .next t ∧
        Answered (if old = ofBytes (p.payload.take half) then w.targetWrite r half (ofBytes (p.payload.drop half)) else w)
          t p (pktVc p) 5 0 (toBytes half old))) ∧
    (∀ e ∈ [(Instr.write, 0, 1, n), (.multicastWrite, 10, 1, n), (.readRequest, 2, 0, n), (.atomicRequest, 4, 2, half)],
      (s.fabric.inbox.get [] c = r :: rest → pktKind p = e.2.1 → u.seen p = true → exec (e.1 vc) s = .next u) ∧
      (s.fabric.inbox.get [] c = [] → exec (e.1 vc) s = .next s) ∧
      (AtHead s c e.2.1 r rest → ¬ room → exec (e.1 vc) s = .next s) ∧
      ∀ code, AtHead s c e.2.1 r rest → room → u.targetCheck r e.2.2.1 e.2.2.2 = some code →
        ∃ t, exec (e.1 vc) s = .next t ∧ Answered (if code = 0x0D ∧ winPlaced r.win = true then
          u.poison ((r.win.base.toNat + pktOffset p) % 2 ^ 64) e.2.2.2 else u) t p (pktVc p) 9 code.toNat [0]) ∧
    (AtHead s c 8 r rest → exec (.management vc) s =
      .next (if c = 5 then { a with managed := p.payload :: s.managed } else u))) ∧
  (∀ (s : State) (r : Arrived) (n v : Nat), winPlaced r.win = true →
    let addr := (r.win.base.toNat + pktOffset r.pkt) % 2 ^ 64
    s.targetRead r n = (leValue (fun x => s.peek (.placed x)) addr n, s) ∧
    StoredBytes s (s.targetWrite r n v) s.cur 1 addr n (v % 2 ^ (8 * n))) ∧
  (∀ (s : State) (r : Arrived) (right n : Nat), let w := r.win
    let off := pktOffset r.pkt
    let addr := (w.base.toNat + off) % 2 ^ 64
    (w.size.toNat < off + n ∨ w.size = 0 ∨ pktSrc r.pkt ∉ rectPackages w.srect.toNat ∨
      (right ≠ 0 ∧ w.attr.toNat.testBit right = false) → s.targetCheck r right n = some 0x07) ∧
    (off + n ≤ w.size.toNat → w.size ≠ 0 → pktSrc r.pkt ∈ rectPackages w.srect.toNat →
      right = 0 ∨ w.attr.toNat.testBit right = true → winPlaced w = true →
      (s.present (addr / 2 ^ 27) = false → s.targetCheck r right n = some 0x0F) ∧
      (s.present (addr / 2 ^ 27) = true → 2 ^ 40 ≤ addr ∨ s.placedBytes < addr % 2 ^ 27 + n →
        s.targetCheck r right n = some 0x06) ∧
      (s.present (addr / 2 ^ 27) = true → addr < 2 ^ 40 → addr % 2 ^ 27 + n ≤ s.placedBytes →
        s.targetCheck r right n = if s.badPlaced (addr / 2 ^ 27) (addr % 2 ^ 27) n then some 0x0D else none))) ∧
  (∀ (s : State) (vc : BitVec 3) (port : Nat) (r : Arrived) (rest : List Arrived), let q := r.pkt
    port < 12 →
    s.fabric.inbox.get [] (16 + port) = r :: rest → pktKind q = 6 → pktVc q = vc.toNat → s.takesReduction q = true →
    (∀ i < port, s.fabric.inbox.get [] (16 + i) = []) → s.seen q = false →
    let u := (takenFrom s (16 + port) rest).accepted q
    let w := s.rwindow (pktWin q)
    let chunk := pktOffset q / w.per
    (w.children.getLsbD port = false ∨ chunk ∈ w.doneChunks → exec (.reduction vc) s = .next u) ∧
    (w.children.getLsbD port = true → chunk ∉ w.doneChunks → exec (.reduction vc) s =
      .next (u.setRwindow (pktWin q) { w with fromChild := w.fromChild.set [] (16 * chunk + port) q.payload })))

/-- R143–R145, R147, R355, R360, R362, R364: answers at their source. The answer to a load gives x[d], with the bytes of a
store that was held when it left, and a strand that waited for it goes on; that to a store takes its entry from the store
queue; what a management read returns is the porch's; an error response or a timer that runs out is a fault of the request,
0x0E for the timer; an answer to nothing is discarded. Where the spec leaves a point open, the model’s choice is stated: log
12, 65, 74. -/
def Obligations.FabricAnswers : Prop :=
  (∀ (vc : BitVec 3) (s : State) (r : Arrived) (rest : List Arrived) (x : Pending), let p := r.pkt
    let u := takenFrom s vc.toNat rest
    let w := { u with fabric := { u.fabric with pending := u.fabric.pending.filter (fun y => y.id != x.id) } }
    s.fabric.inbox.get [] vc.toNat = r :: rest → u.pendingOf p = some x →
    (∀ (c : CoreId) (k : StrandId), let ag := Agent.strand c k
      let m := w.strandOf ag
      x.waiter = .load ag → (s.core c.toNat).fenced = false →
      (∀ l₁ f l₂, m.far = l₁ ++ f :: l₂ → (∀ g ∈ l₁, g.id ≠ some x.id) → f.id = some x.id → (∀ g ∈ m.far, g.failed = none) →
        ∀ value, (f.own = [] ∧ value = ofBytes p.payload % 2 ^ (8 * f.size) ∨
          ∃ h, f.own = [h] ∧ h.kind = .store ∧ h.addr = f.addr ∧ h.size = f.size ∧ h.keep = 2 ^ f.size - 1 ∧
            h.data < 2 ^ (8 * f.size) ∧ value = h.data) →
        let n := ({ m with far := l₁ ++ l₂ }.wx f.dest (BitVec.ofNat 64 value)).returned f.dest
        let v := w.setStrandOf ag n
        ∀ e ∈ [(Instr.readResponse, 3), (.atomicResponse, 5)], pktKind p = e.2 →
          exec (e.1 vc) s = .next (if f.acquire then ((v.by ag).acquire f.wide).by s.cur else v)) ∧
      (pktKind p = 9 → ∃ t, exec (.errorResponse vc) s = .next t ∧ LoadFails w t c k x.id (BitVec.ofNat 8 (pktAux p)))) ∧
    (x.waiter = .manage → (pktKind p = 3 → exec (.readResponse vc) s = .next { w with managed := p.payload :: s.managed }) ∧
      (pktKind p = 9 → exec (.errorResponse vc) s = .next w)) ∧
    (∀ (ag : Agent), x.waiter = .store ag →
      let kept (f : StoreEntry → Option StoreEntry) : State :=
        w.setStrandOf ag { w.strandOf ag with storeq := (w.strandOf ag).storeq.filterMap f }
      (pktKind p = 1 → exec (.writeAcknowledgement vc) s =
        .next (kept (fun e => if e.sent = some x.id then none else some e))) ∧
      (pktKind p = 9 → exec (.errorResponse vc) s = .next (kept (fun e => some (if e.sent = some x.id then
        { e with sent := none, fault := some (BitVec.ofNat 8 (pktAux p)) } else e))))) ∧
    (∀ (c : BitVec 5), x.waiter = .chunk c → pktKind p = 1 → exec (.writeAcknowledgement vc) s = .next w) ∧
    (∀ (c : BitVec 5), x.waiter = .engine c → pktKind p = 1 → exec (.writeAcknowledgement vc) s =
      .next ((w.modQueue c.toNat 13 (fun q => { q with late := q.late.filter (fun e => e.1 != x.id) })).fxSettle c.toNat))) ∧
  (∀ (vc : BitVec 3) (s : State) (r : Arrived) (rest : List Arrived), let p := r.pkt
    let u := takenFrom s vc.toNat rest
    s.fabric.inbox.get [] vc.toNat = r :: rest → u.pendingOf p = none →
    ∀ e ∈ [(Instr.writeAcknowledgement, 1), (.readResponse, 3), (.atomicResponse, 5), (.errorResponse, 9)],
      pktKind p = e.2 → exec (e.1 vc) s = .next u) ∧
  (∀ (n : Nat) (s : State) (x : Pending), s.fabric.pending.find? (fun y => y.id == n) = some x →
    (s.tai < x.deadline → exec (.fabricTimeout n) s = .next s) ∧
    (∀ (ag : Agent) (o : Nat), x.deadline ≤ s.tai → x.waiter = .store ag → s.route x.dst.toNat = some o → o < 12 →
      ∃ t, exec (.fabricTimeout n) s = .next t ∧ (t.fabric.port o).timeouts = ((s.fabric.port o).timeouts + 1) % 2 ^ 64 ∧
        t.fabric.pending = s.fabric.pending.filter (fun y => y.id != n) ∧
        (t.strandOf ag).storeq = (s.strandOf ag).storeq.map (fun e =>
          if e.sent = some n then { e with sent := none, fault := some 0x0E } else e)) ∧
    (∀ (c : CoreId) (k : StrandId), x.deadline ≤ s.tai → x.waiter = .load (.strand c k) → (s.core c.toNat).fenced = false →
      ∃ w t, exec (.fabricTimeout n) s = .next t ∧ w = { s with fabric := { s.fabric with
        ports := w.fabric.ports, pending := s.fabric.pending.filter (fun y => y.id != n) } } ∧ LoadFails w t c k n 0x0E)) ∧
  (∀ (n : Nat) (s : State), (∀ y ∈ s.fabric.pending, y.id ≠ n) → exec (.fabricTimeout n) s = .next s)

/-- R368, R369, R372, R373, R379, R380, R250: the device. The servo follows its master by the measured offset, stepping
forward when more than 1 ms behind, and holds over after two seconds; power states, throttling, mitigation windows, edge
modules and host lanes change as their events say. Where the spec leaves a point open, the model’s choice is stated: log 52,
53, 56. -/
def Obligations.DeviceEvents : Prop :=
  (∀ (t : TimeStamps) (s : State), -1000000 ≤ aheadBy t - s.cfg.asym → s.servo.parent = none →
    ∃ u, exec (.ptpSync t) s = .next u ∧ Disciplined s u (aheadBy t - s.cfg.asym) s.servo.parentMsg) ∧
  (∀ (t : TimeStamps) (s : State) (p : Nat), -1000000 ≤ aheadBy t → s.servo.parent = some p → s.servo.lost = false →
    (s.fabric.port p).up = true →
    let sent (u : State) : State := match s.neighbour s.pkg (p / 3) with
      | some d => timeMessaged u d
      | none => u
    (s.fabric.inbox.get [] 0 = [] → ∃ u, exec (.time t) s = .next (sent u) ∧ Disciplined s u (aheadBy t) (some s.tai)) ∧
    ∀ r rest, AtHead s 0 7 r rest → let v := (takenFrom s 0 rest).accepted r.pkt
      (s.neighbour s.pkg (p / 3) = some (pktSrc r.pkt) →
        ∃ u, exec (.time t) s = .next (sent u) ∧ Disciplined v u (aheadBy t) (some s.tai)) ∧
      (s.neighbour s.pkg (p / 3) ≠ some (pktSrc r.pkt) → exec (.time t) s = .next (timeMessaged v (pktSrc r.pkt)))) ∧
  (∀ (t : TimeStamps) (s : State), aheadBy t - s.cfg.asym < -1000000 → s.servo.parent = none → s.groups = [] →
    let now := ((s.tai : Int) - (aheadBy t - s.cfg.asym)).toNat
    exec (.ptpSync t) s = .next { s with
      tai := now
      servo := { s.servo with
        status := 3, offset := aheadBy t - s.cfg.asym, slew := 0, goodSince := none, lastMsg := now } }) ∧
  (∀ (t : TimeStamps) (s : State) (p : Nat), s.servo.parent = some p →
    s.servo.lost = true ∨ (∃ m, s.servo.parentMsg = some m ∧ s.tai ≤ m + 2000000000) → exec (.ptpSync t) s = .next s) ∧
  (∀ (t : TimeStamps) (s : State), (∀ p, s.servo.parent = some p → (s.fabric.port p).up = false ∨ s.servo.lost = true) →
    s.fabric.inbox.get [] 0 = [] → exec (.time t) s = .next s) ∧
  (∀ s : State, exec .holdoverTimeout s = .next (if s.servo.status ≠ 0 ∧ s.servo.lastMsg + 2000000000 ≤ s.tai then
    { s with servo := { s.servo with status := 2, goodSince := none, slew := 0 } } else s)) ∧
  (∀ (st : BitVec 2) (s : State),
    let quiet := (∀ e ∈ s.parts, e.2.pstate ≠ 1) ∧ ∀ e ∈ s.groups, e.2.ticking = false
    (st = 1 ∨ (st ≠ 0 ∧ ¬ quiet) → exec (.pstateWrite st) s = .next s) ∧
    (quiet → st = 2 ∨ (st = 3 ∧ ∀ p < 12, (s.fabric.port p).en = false) →
      exec (.pstateWrite st) s = .next { s with power := { s.power with pstate := st, returning := false } }) ∧
    (st = 0 → exec (.pstateWrite st) s = .next (if s.power.pstate = 2 ∨ s.power.pstate = 3 then
      { s with power := { s.power with returning := true } } else s))) ∧
  (∀ s : State, exec .powerStateReturn s = .next (if s.power.returning then { s with power := { s.power with
    pstate := if s.power.level = 0 then 0 else 1, returning := false } } else s)) ∧
  (∀ (level : BitVec 3) (s : State),
    let hot := (List.range 4).any (fun d => decide (s.cfg.tempLimit ≤ s.power.sensed.get 0 (2 + d)))
    let draw := decide (s.cfg.powerLimit < s.power.sensed.get 0 0)
    (∀ temperature pw, (temperature, pw) ≠ (hot, draw) → exec (.throttleChange level temperature pw) s = .next s) ∧
    ∃ t, exec (.throttleChange level hot draw) s = .next t ∧
    t = { s with power := { s.power with
      temperature := hot, powerCause := draw, level := t.power.level, pstate := t.power.pstate } } ∧
    t.power.level.toNat = (if hot || draw then max s.power.level.toNat level.toNat else min s.power.level.toNat level.toNat) ∧
    t.power.pstate = (if s.power.pstate = 2 ∨ s.power.pstate = 3 then s.power.pstate
      else if t.power.level = 0 then 0 else 1)) ∧
  (∀ (p : Place) (s : State), let n := 512 * (2 * (p.toNat / 2 ^ 7 % 2 ^ 6 / 16) + p.toNat % 2 ^ 7 / 32) +
      32 * (p.toNat / 2 ^ 7 % 2 ^ 6 % 16) + p.toNat % 2 ^ 7 % 32
    let ns := s.up / 72
    (s.present p.toNat = true → (s.shaft n).open_ = false → (s.shaft n).grid < ns / 64000 →
      (∀ f, s.fillOf n = some f → f.beats = []) →
      ∃ t, exec (.mitigationWindow p) s = .next t ∧ t = { s with shafts := t.shafts } ∧ ∀ m, t.shaft m = if m = n then
        { s.shaft n with open_ := true, windows := (s.shaft n).windows + 1, grid := (s.shaft n).grid + 1, since := ns }
        else s.shaft m) ∧
    (s.present p.toNat = false ∨ (s.shaft n).open_ = true ∨ ns / 64000 ≤ (s.shaft n).grid ∨
        (∃ f, s.fillOf n = some f ∧ f.beats ≠ []) →
      exec (.mitigationWindow p) s = .next s) ∧
    (∃ t, exec (.mitigationWindowEnd p) s = .next t ∧ t = { s with shafts := t.shafts } ∧
      ∀ m, t.shaft m = if m = n then { s.shaft n with open_ := false } else s.shaft m)) ∧
  (∀ (s : State) (clks m : Nat), let v := s.shaft m
    let period := 5 * (8 + s.power.level.toNat)
    let left := 72 * (v.since + 350) - s.up
    (s.windowClks clks).shaft m = if v.open_ then { v with
        open_ := decide (clks * period < left)
        lost := v.lost + if (s.fillOf m).isSome then BitVec.ofNat 32 (min clks ((left + period - 1) / period)) else 0 }
      else v) ∧
  (∀ (edge : BitVec 2) (module : BitVec 6) (s : State), module.toNat < 48 →
    ∃ t, exec (.edgeModuleFailure edge module) s = .next t ∧
      t = { s with power := { s.power with edges := t.power.edges } } ∧ ∀ e, t.power.edges.get 0 e =
        if e = edge.toNat then s.power.edges.get 0 e ||| (1#48 <<< module.toNat) else s.power.edges.get 0 e) ∧
  (∀ (lanes : BitVec 5) (s : State), ∃ t, exec (.hostLinkLaneFailure lanes) s = .next t ∧
    t = { s with power := { s.power with hostLanes := t.power.hostLanes } } ∧ t.power.hostLanes ∈ [0, 4, 8, 16] ∧
    t.power.hostLanes ≤ min s.power.hostLanes lanes.toNat ∧
    ∀ k ∈ [0, 4, 8, 16], k ≤ min s.power.hostLanes lanes.toNat → k ≤ t.power.hostLanes)

/-! ## Encoding, steps, reset, invariants -/

namespace Sys2Proof.Machine

/-- Words as the spec's encodings lay them out, with what they stand for (R81–R85 and the chapters of the forms). -/
def specWords : List (Word × Word × Instr) :=
  [(0x02000000, 0, .nop), (0x04308800, 0, .add ⟨3, 1, 2, 0⟩), (0x04632A40, 0, .add ⟨6, 6, 10, 9⟩),
   (0x10528088, 0, .addi ⟨5, 5, 8, 8⟩), (0x1A900030, 0, .widf ⟨9, 0, 3, 0⟩), (0x24000083, 0, .bloop ⟨8, 3⟩),
   (0x38A2E080, 0, .ldG ⟨10, 5, 3, 0, 0, 8, 0⟩), (0x40300080, 0, .rclaim ⟨3, 0, 2, 0⟩),
   (0x80002020, 0x000000C3, .bne ⟨0, 1, 0, 12, 3⟩), (0x86000700, 0x00010000, .loopset ⟨0, 0, 7, 0, 0x10000⟩),
   (0xB0008280, 0x00000100, .vld ⟨0, 8, 5, 0, 0, 0, 0x100⟩)]

/-- The package runs, its main clock too. -/
def Runs (s : State) : Prop := s.stopped = false ∧ s.booted = true ∧ s.power.pstate ≠ 2 ∧ s.power.pstate ≠ 3
/-- The package runs, and the current strand holds the issue slot of a core which no save has stopped. -/
def HoldsSlot (s : State) (c : CoreId) (k : StrandId) : Prop :=
  Runs s ∧ s.cur = .strand c k ∧ (s.core c.toNat).fenced = false ∧ s.coreStopped c.toNat = false ∧ s.me.run = .ready ∧ (s.core c.toNat).holder = some k
/-- A debugger is attached and an enabled breakpoint is at the pc, which is not the one that the strand was released at (R243). -/
def AtBreakpoint (s : State) (c : CoreId) : Prop :=
  (s.core c.toNat).dbg = true ∧ s.me.pass.bpt ≠ some (s.me.line ++ s.me.slot) ∧ s.me.pass.ended ≠ some (s.me.line ++ s.me.slot) ∧
    ∃ i < 4, (s.me.bpt.get 0 i).getLsbD 63 = true ∧ (s.me.bpt.get 0 i).extractLsb' 0 25 = s.me.line ++ s.me.slot
/-- The current strand may issue its next instruction: neither its watchdog nor a breakpoint stands in the way. -/
def MayIssue (s : State) (c : CoreId) (k : StrandId) : Prop :=
  HoldsSlot s c k ∧ s.me.wcount.toNat < 2 ^ s.me.wlim.toNat ∧ ¬ AtBreakpoint s c
/-- The agent's turn is the step that comes, which leaves state v when what can be performed of its loads has been (R134, R143). -/
def TurnOf (s v : State) (a : Agent) : Prop := s.agenda = [] ∧ Runs s ∧ s.cur = a ∧ s.fencedOff a = false ∧ v = s.settleLoads
/-- A strand is to issue its next instruction in the step that comes. -/
def OnTurn (s v : State) (c : CoreId) (k : StrandId) : Prop := TurnOf s v (.strand c k) ∧ MayIssue v c k
/-- Its next instruction is still to be executed (R75). -/
def StillToRun (s : State) : Prop := s.me.pass.ended ≠ some (s.me.line ++ s.me.slot)
/-- A porch run is to issue its next instruction, within its budget (R332). -/
def OnPorchTurn (s v : State) (q : HostQueueId) : Prop :=
  TurnOf s v (.porch q) ∧ v.cur = .porch q ∧ (v.porchQueue q.toNat).running = true ∧ v.me.run = .ready ∧ StillToRun v ∧
    (v.porchQueue q.toNat).issued < issueBudget (v.queueDesc q.toNat)
/-- Word `slot` of line `line` of an image, from memory (R73). -/
def lineWord (s : State) (img : Image) (line slot : Nat) : Word :=
  BitVec.ofNat 32 (leValue (fun a => s.peek (.pooled a)) (img.base + 64 * line + 4 * slot) 4)
/-- The words at the pc: the second is zero where the line ends. -/
def pcWords (s : State) (img : Image) : Word × Word :=
  (lineWord s img s.me.line.toNat s.me.slot.toNat,
   if s.me.slot = 15 then 0 else lineWord s img s.me.line.toNat (s.me.slot.toNat + 1))
/-- The line may be executed by a strand: it is in the image and of owner 0 (R73, R75). -/
def OwnLine (s : State) (img : Image) : Prop :=
  s.imageOf s.cur = some img ∧ s.me.line.toNat < img.nlines ∧ (lineWord s img s.me.line.toNat 0).toNat / 2 ^ 28 = 0

/-- What still reaches a package that is stopped: a reset and what comes by the Mynto Link (R349, R371, R376). -/
def OverLink (s : State) (a : Agendum) : Prop :=
  a = .event .packageReset ∨ a = .event .debugAttach ∨ a = .event .debugDetach ∨ a = .input .hostReplay ∨
    (∃ x y, a = .event (.attestationRequest x y)) ∨ (∃ x y, a = .event (.debugRelease x y)) ∨
    (∃ x, a = .event (.hostLinkLaneFailure x)) ∨
    (s.booted = true ∧ (s.power.pstate ≠ 3 ∧ (∃ x y z, a = .event (.hostAccess x y z)) ∨ ∃ x, a = .input (.hostRetry x))) ∨
    (∃ c k o n, a = .input (.debugRead c k o n)) ∨ (∃ c k o n v, a = .input (.debugWrite c k o n v)) ∨
    (∃ c k o n, a = .input (.debugCore c k o n))

/-- The macros that an engine queue runs, the queue named by the event or by the macro (R205). -/
def queueEvents : List (CoreId → QueueId → Instr) := [Instr.alatch, .aswap, .amac, .adist, .azero, .latchSwap, .cpy]
def engineEvents : List ((CoreId → Instr) × Nat) :=
  [(Instr.achain, 0), (.abypass, 0), (.vapply, 8), (.edrain, 9), (.eexp, 9), (.esmaxPass, 9), (.esmaxMerge, 9), (.esmaxFinish, 9),
   (.esmaxReset, 9), (.etopk, 9), (.efold, 9), (.eturn, 9), (.escale, 9), (.kvappend, 12), (.kvpos, 12), (.kvevictWindow, 12),
   (.kvevictMask, 12), (.kvpin, 12), (.kvfreeList, 12), (.kvfreePage, 12), (.kvpromotePromotion, 12), (.kvpromoteDemotion, 12),
   (.fxsend, 13), (.fxmcast, 13), (.fxred, 13), (.fxwin, 13)]
/-- Event i has place p of core c in the order of R28, the strands before the engine queues: it runs in the clk that has begun, or
in a new one when another of the core with a later place has run in that; with the main clock gated it does not run (R379). -/
def RunsInTurn (i : Instr) (c p : Nat) : Prop :=
  ∀ (s : State) (rest : List Agendum), s.agenda = .event i :: rest →
    let u := { s with agenda := rest }
    (Runs s → (∀ x ∈ s.units, x.1 = c → x.2 ≤ p) → step s = exec i { u with units := (c, p) :: s.units }) ∧
    (Runs s → (∃ x ∈ s.units, x.1 = c ∧ p < x.2) → step s = exec i { u.elapse 1 with units := [(c, p)] }) ∧
    (s.stopped = false → s.booted = true → s.power.pstate = 2 ∨ s.power.pstate = 3 → step s = .next u)

/-- The instruction waits for a register (R143): the strand gives up the issue slot and will be ready when the registers
that it names have returned. -/
def Interlocks (s : State) (i : Instr) (uses : List (BitVec 5)) : Prop :=
  (∃ r ∈ uses, r ∈ s.me.inflight) → exec i s = .next (s.setMe { s.me with
    run := .memory (uses.filter (fun r => decide (r ∈ s.me.inflight))) }).giveSlot

/-- The current agent is a strand. -/
def OnStrand (s : State) : Prop := ∃ c k, s.cur = .strand c k

end Sys2Proof.Machine

/-- R237, R308, R309: the time instructions and the tick. TNEXT gives the next tick; TCFG sets period and lag at once while
ticks are stopped, else from the tick after the next; TARM starts and stops ticks; a tick that is due is counted, the next
is one period later, and it counts as an overrun when the step before it is not done. When time has passed, or TARM has
named a time that has passed, no tick is left whose time has come. R3, R23, R127, R332, R372, R379: n clks pass, as one does
with each issue of an instruction. The time since reset grows by the clk period of the throttle level, the time base by the
whole ns of it while nothing is slewed; a gated clock does not count and moves no core; a core whose clock runs counts down
its clk waits, and the strand that holds its issue slot counts them. An instruction that begins to issue counts in the
budget of a porch run. Where the spec leaves a point open, the model’s choice is stated: log 1, 21, 82, 83. -/
def Obligations.Ticks : Prop :=
  ((∀ (f : FSY) (s : State), Issues s 2 (s.guard7 f.g) [f.a, f.b, f.d] →
     let n := groupNamed s f
     let g := s.group n
     let period := (s.rx f.b).toNat
     let passed (v : Group) (t : State) : Prop := Passed (s.setGroup n v) t 2
     (s.isPorch = true ∨ (f.a = 0 ∧ s.myGroup.isSome = true) → ∃ t, exec (.tnext f) s = .next t ∧
       ScalarDone s t 2 f.d (if g.ticking then BitVec.ofNat 64 g.nextTick else 0) 0) ∧
     (s.isPorch = false → ∀ i ∈ [Instr.tcfg, .tarm], exec (i f) s = .next (s.faulted (raise 0x07))) ∧
     (s.isPorch = true →
       (period < 10 ^ 6 ∨ 10 ^ 9 < period → exec (.tcfg f) s = .next (s.faulted (raise 0x02))) ∧
       (10 ^ 6 ≤ period → period ≤ 10 ^ 9 → ∃ t, exec (.tcfg f) s = .next t ∧
         ScalarDone (s.setGroup n (if g.ticking then { g with
             pending := g.pending.filter (fun e => e.2.2 != g.tickNo + 2) ++ [(period, f.imm.toNat, g.tickNo + 2)] }
           else { g with period := period, lag := f.imm.toNat })) t 2 f.d (BitVec.ofNat 64 g.period) 0) ∧
       (f.imm.getLsbD 0 = true → g.period = 0 → exec (.tarm f) s = .next (s.faulted (raise 0x02))) ∧
       (f.imm.getLsbD 0 = true → g.period ≠ 0 → period = 0 → ∃ t, exec (.tarm f) s = .next t ∧
         passed { g with ticking := true, stopping := false, nextTick := (s.tai / g.period + 1) * g.period } t) ∧
       (f.imm.getLsbD 0 = true → g.period ≠ 0 → period ≠ 0 → period ≤ s.tai → s.tai < period + g.period → g.pending = [] →
         ∃ t, exec (.tarm f) s = .next t ∧
           passed { g with
             ticking := true, stopping := false, nextTick := period + g.period, tickNo := g.tickNo + 1, tickTime := period
             waiting := true, overrun := if g.phase ≠ .idle ∨ g.waiting = true then g.overrun + 1 else g.overrun } t) ∧
       (f.imm.getLsbD 0 = true → g.period ≠ 0 → s.tai < period → ∃ t, exec (.tarm f) s = .next t ∧
         passed { g with ticking := true, stopping := false, nextTick := period } t) ∧
       (f.imm.getLsbD 0 = false → g.phase = .idle → g.pending = [] → ∃ t, exec (.tarm f) s = .next t ∧
         passed { g with ticking := false, stopping := false, waiting := false } t) ∧
       (f.imm.getLsbD 0 = false → g.phase ≠ .idle → ∃ t, exec (.tarm f) s = .next t ∧
         passed { g with stopping := g.ticking } t))) ∧
   (∀ (f : FSY) (s : State), s.isPorch = false →
     (f.a ≠ 0 → exec (.tnext f) s = .next (s.faulted (raise 0x02))) ∧
     (f.a = 0 → s.myGroup = none → exec (.tnext f) s = .next (s.faulted (raise 0x07))) ∧
     (s.myGroup = none → exec (.tstamp f) s = .next (s.faulted (raise 0x07)))) ∧
   (∀ (g : GroupId) (s : State), let v := s.group g.toNat
     (v.ticking = false ∨ s.tai < v.nextTick → exec (.tick g) s = .next s) ∧
     (v.ticking = true → v.nextTick ≤ s.tai → ∃ w, exec (.tick g) s = .next (s.setGroup g.toNat w) ∧
       w.tickNo = v.tickNo + 1 ∧ w.tickTime = v.nextTick ∧ w.waiting = true ∧
       w.overrun = (if v.phase ≠ .idle ∨ v.waiting = true then v.overrun + 1 else v.overrun) ∧
       (v.pending = [] → w = { v with
         tickNo := w.tickNo, tickTime := w.tickTime, waiting := true, overrun := w.overrun, nextTick := v.nextTick + v.period }) ∧
       ∀ p l, (v.pending = [(p, l, v.tickNo + 2)] → w.nextTick = v.nextTick + p ∧ w.period = v.period ∧ w.pending = v.pending) ∧
         (v.pending = [(p, l, v.tickNo + 1)] → w.nextTick = v.nextTick + p ∧ w.period = p ∧ w.lag = l ∧ w.pending = []))) ∧
   (∀ (s : State) (n g : Nat), Cells.wf Group.reset s.groups = true →
     (∀ e ∈ s.groups, 10 ^ 6 ≤ e.2.period ∧ ∀ p ∈ e.2.pending, 10 ^ 6 ≤ p.1) →
     let t := s.elapse n
     (t.group g).ticking = true → t.tai < (t.group g).nextTick)) ∧
  ((∀ (s : State) (n : Nat),
     let t := s.elapse n
     t.acted = (if n = 0 then s.acted else []) ∧ t.units = (if n = 0 then s.units else []) ∧ t.cur = s.cur ∧
     let gated : Prop := s.power.pstate = 2 ∨ s.power.pstate = 3
     t.up = s.up + n * (5 * (8 + s.power.level.toNat)) ∧ (s.servo.slew = 0 → t.tai = s.tai + (t.up / 72 - s.up / 72)) ∧
     (gated → t.clk = s.clk ∧ t.cores = s.cores ∧ t.swait = s.swait) ∧
     (¬ gated → t.clk = s.clk + n ∧ ∀ c, (s.core c).fenced = false → s.coreStopped c = false →
       (∀ i m, ((s.core c).strand i).run = .parked (.clk m) → ((t.core c).strand i).run = .parked (.clk (m - n))) ∧
       (∀ k, (s.core c).holder = some k →
         ((t.core c).strand k.toNat).wcount = ((s.core c).strand k.toNat).wcount + BitVec.ofNat 33 n))) ∧
   (∀ (s : State) (n : Nat), let t := s.elapse n
     let u := { t with acted := s.cur :: t.acted }
     (∀ c k, s.cur = .strand c k → s.beginIssue n = { u with units := (c.toNat, k.toNat) :: t.units }) ∧
     (∀ q, s.cur = .porch q → s.beginIssue n =
       u.setPorchQueue q.toNat { t.porchQueue q.toNat with issued := (t.porchQueue q.toNat).issued + 1 })))

/-- R46, R349, R369, R370, R376, R378: the host and the life of the package. A host access inside its window reads or writes
the coherent bytes, others do nothing; it waits for a translation in park mode, and behind those of its window that do
(R283); an attestation report goes out where a writable outbound window maps it; a package reset leaves the machine of
State.boot under the same image, with the host's memory as it was; a fatal error halts every strand and stops the package.
R25, R144, R243, R340, R355, R369, R371, R373, R380, R381: what enters the machine from outside: rows that can no longer be
read, host link replays, the porch’s host windows, management packets and time parent, sensor values, and the debugger’s
reads and writes of a halted strand at the offsets of the strand context table, here the general registers, and of its
core's ring descriptors; of a strand that is not halted nothing is read or written. Where the spec leaves a point open, the
model’s choice is stated: log 31, 51, 54, 55, 58. -/
def Obligations.HostAndReset : Prop :=
  ((∀ (win : BitVec 3) (off : DWord) (op : HostOp) (s : State), let x : HostWait := ⟨win, off, op, none⟩
     ((∃ y ∈ s.hostWaits, y.win = win) → exec (.hostAccess win off op) s = .next { s with hostWaits := s.hostWaits ++ [x] }) ∧
     ((∀ y ∈ s.hostWaits, y.win ≠ win) → ∃ r t, exec (.hostAccess win off op) s =
       .next { t with hostWaits := s.hostWaits ++ r.toList } ∧ HostTried s x r t)) ∧
   (∀ (win : BitVec 3) (s : State), let others := s.hostWaits.filter (fun y => y.win != win)
     ((∀ y ∈ s.hostWaits, y.win ≠ win) → s.input (.hostRetry win) = s) ∧
     ∀ x rest, s.hostWaits.filter (fun y => y.win == win) = x :: rest → ∃ r t, HostTried s x r t ∧
       (r.isSome = true ∨ rest = [] →
         s.input (.hostRetry win) = { t with hostWaits := others ++ (r.toList ++ rest) })) ∧
   (∀ (nonce : BitVec 256) (dest : DWord) (s : State), ∃ t, exec (.attestationRequest nonce dest) s = .next t ∧
     t = { s with host := t.host } ∧ ∀ (w : HostOut), w.writable = true →
       (∀ i < (s.attestReport nonce).length, s.hostWindow (dest.toNat + i) 1 = some w) → w.hbase ≤ dest.toNat →
       ∀ i < (s.attestReport nonce).length,
         t.peek (.host (w.target + (dest.toNat + i - w.hbase))) = (s.attestReport nonce).getD i 0) ∧
   (∀ s : State, let good (i : Nat) : Bool := flashVerifies (s.cfg.flash.get FlashCopy.blank i)
     ∃ t, exec .packageReset s = .next t ∧
     t = { State.boot s.cfg with
       host := s.host, hostReads := s.hostReads, debugReads := s.debugReads, copyB := t.copyB, booted := t.booted,
       bootFail := t.bootFail } ∧
     t.bootFail = (if (good 0 = false ∧ good 1 = false) ∨ imageAccepted s.cfg = false then 1
       else if good 2 = false ∧ good 3 = false then 2 else 0) ∧
     t.booted = decide (t.bootFail = 0) ∧
     t.copyB.getLsbD 0 = (!good 0 && good 1) ∧ t.copyB.getLsbD 1 = (!good 2 && good 3)) ∧
   (∀ (die : DieId) (core code : BitVec 8) (s : State),
     (s.stopped = true → exec (.fatalError die core code) s = .next s) ∧
     (s.stopped = false → let r := s.sumpSources.foldl State.readAs0 s
       ∃ t, exec (.fatalError die core code) s = .next t ∧ t.stopped = true ∧
       t = { r with host := t.host, stopped := true, cores := t.cores } ∧
       (∀ a, (∀ w ∈ s.cfg.hostOut, w.writable = true → a < w.target ∨ w.target + w.size ≤ a) →
         t.peek (.host a) = s.peek (.host a)) ∧
       (∀ w, s.cfg.hostOut = [w] → w.writable = true → w.hbase ≤ s.cfg.sumpBase → 0x14 ≤ s.cfg.sumpSize →
         s.cfg.sumpBase + s.cfg.sumpSize ≤ w.hbase + w.size →
         let word (i n : Nat) := leValue (fun x => t.peek (.host (w.target + (s.cfg.sumpBase - w.hbase) + x))) i n
         word 0 4 = 0x504D5553 ∧ word 8 8 = s.tai % 2 ^ 64 ∧ word 0x10 4 = code.toNat) ∧
       ∀ c k, (t.core c).holder = none ∧ (t.core c).strand k = if ((r.core c).strand k).run = .absent then (r.core c).strand k
         else { (r.core c).strand k with run := .halted }))) ∧
  ((∀ (s : State) (n row : Nat) (b : Bool), let t := s.input (.rowError n row b)
     t = { s with bad := t.bad } ∧ ∀ i, t.bad.get false i = if i = n * 2 ^ 17 + row then b else s.bad.get false i) ∧
   (∀ s : State, s.input .hostReplay =
     { s with power := { s.power with hostReplays := (s.power.hostReplays + 1) % 2 ^ 32 } }) ∧
   (∀ (s : State) (n : BitVec 3) (w : HostIn), let t := s.input (.hostWindow n w)
     t = { s with hostIn := t.hostIn } ∧
     ∀ i, t.hostIn.get ⟨0, 0, 0, 0, false, false⟩ i = if i = n.toNat then w else s.hostIn.get ⟨0, 0, 0, 0, false, false⟩ i) ∧
   (∀ (s : State) (p : Option (BitVec 4)), let t := s.input (.timeParent p)
     t = { s with servo := t.servo } ∧ t.servo.parent = p.map BitVec.toNat ∧ t.servo.slew = s.servo.slew ∧
       t.servo.status = s.servo.status) ∧
   (∀ (s : State) (n v : Nat), let t := s.input (.sense n v)
     t = { s with power := { s.power with sensed := t.power.sensed } } ∧
     ∀ i, t.power.sensed.get 0 i = if i = n then v else s.power.sensed.get 0 i) ∧
   (∀ (s : State) (c : BitVec 5) (k : BitVec 3) (o n v : Nat), let m := s.strandOf (.strand c k)
     ((s.core c.toNat).dbg = false ∨ (m.run ≠ .debugged ∧ m.run ≠ .halted ∧ m.run ≠ .trapped) →
       s.input (.debugRead c k o n) = s ∧ s.input (.debugWrite c k o n v) = s) ∧
     ((s.core c.toNat).dbg = true → m.run = .debugged ∨ m.run = .halted ∨ m.run = .trapped → Cells.wf 0 m.x = true →
       (∀ e ∈ m.x, e.1 < 32) → (∀ e ∈ m.p, e.1 < 128) → ∀ r : BitVec 5, r ≠ 0 →
       s.input (.debugRead c k (0x4000 + 8 * r.toNat) 8) = { s with debugReads := toBytes 8 (m.rx r).toNat :: s.debugReads } ∧
       ∃ t, s.input (.debugWrite c k (0x4000 + 8 * r.toNat) 8 v) = s.setStrandOf (.strand c k) t ∧
         ∀ q, t.rx q = if q = r then BitVec.ofNat 64 v else m.rx q)) ∧
   (∀ (s : State) (c : BitVec 5) (k : BitVec 3) (o n : Nat), let m := s.strandOf (.strand c k)
     ((s.core c.toNat).dbg = false ∨ (m.run ≠ .debugged ∧ m.run ≠ .halted ∧ m.run ≠ .trapped) →
       s.input (.debugCore c k o n) = s) ∧
     ((s.core c.toNat).dbg = true → m.run = .debugged ∨ m.run = .halted ∨ m.run = .trapped →
       ∀ q < 32, s.input (.debugCore c k (0x427200 + 16 * q) 16) =
         { s with debugReads := toBytes 16 ((s.core c.toNat).ring q).desc :: s.debugReads })) ∧
   (∀ (s : State) (d : BitVec 8) (data : List Byte), let t := s.input (.manage d data)
     (¬ LocalRoom s 5 ∨ data = [] → t = s) ∧
     (LocalRoom s 5 → data ≠ [] → OnlyRemote s t ∧ t.fabric.pending = s.fabric.pending ∧
       t.fabric.buf 12 5 = s.fabric.buf 12 5 ++ [⟨mkHeader d.toNat s.pkg 5 8 0 (data.take 4096).length 0 0 0 0
         (s.fabric.seqOut.get 0 (8 * d.toNat + 5)).toNat, data.take 4096⟩])) ∧
   (∀ (s : State) (d : BitVec 8) (w : BitVec 4) (o n : Nat), let t := s.input (.manageRead d w o n)
     (¬ LocalRoom s 5 ∨ n = 0 ∨ 4096 < n → t = s) ∧
     (LocalRoom s 5 → n ≠ 0 → n ≤ 4096 → OnlyRemote s t ∧
       t.fabric.buf 12 5 = s.fabric.buf 12 5 ++ [⟨mkHeader d.toNat s.pkg 5 2 0 n 0 w.toNat o 0
         (s.fabric.seqOut.get 0 (8 * d.toNat + 5)).toNat, List.replicate n 0⟩] ∧
       ∃ x, t.fabric.pending = s.fabric.pending ++ [x] ∧ x.waiter = .manage ∧ x.vc = 5 ∧ x.deadline = s.tai + s.cfg.timer)))

/-- R74, R81–R85: the decoder reads these words as the instructions the spec encodes so. -/
def Obligations.DecodeWords : Prop := ∀ e ∈ specWords, decode e.1 e.2.1 = .ok e.2.2

/-- R74, R82–R86: every well-formed instruction of one or two words, with every operand its fields hold, is what the decoder
reads from its encoding; and what the decoder reads is well formed. -/
def Obligations.DecodeOfEncode : Prop :=
  (∀ i : Instr, wordCount i ≠ 0 → i.wf = true → decode (encode i).1 (encode i).2 = .ok i) ∧
  (∀ (w0 w1 : Word) (i : Instr), decode w0 w1 = .ok i → i.wf = true ∧ wordCount i = if isLong w0 then 2 else 1)

/-- R17, R51, R88: sat, sext and zext, and what a write leaves in a rotating base. -/
def Obligations.BasicDefinitions : Prop :=
  (∀ x lo hi : Int, (x < lo → sat x lo hi = lo) ∧ (¬ x < lo → hi < x → sat x lo hi = hi) ∧
    (¬ x < lo → ¬ hi < x → sat x lo hi = x)) ∧
  (∀ v n : Nat, 0 < n → bits v 0 n = v % 2 ^ n ∧
    sextNat v n = if v.testBit (n - 1) then ((v % 2 ^ n : Nat) : Int) - 2 ^ n else ((v % 2 ^ n : Nat) : Int)) ∧
  (∀ (f : FS) (s : State), Issues s 1 (s.guard4 f.g) [f.d] → s.guard4 f.g = true →
    (f.sreg = 4 → ∃ t, exec (.mts f) s = .next t ∧ OnlyMe s t ∧ t.me = { s.me with
      vbase := if s.me.vn = 0 then 0 else BitVec.ofNat 5 ((s.rx f.d).toNat % s.me.vn)
      line := t.me.line, slot := t.me.slot, pass := Passing.none }) ∧
    (f.sreg = 5 → ∃ t, exec (.mts f) s = .next t ∧ OnlyMe s t ∧ t.me = { s.me with
      pbase := if s.me.pn = 0 then 0 else BitVec.ofNat 6 ((s.rx f.d).toNat % s.me.pn)
      line := t.me.line, slot := t.me.slot, pass := Passing.none }))

/-- R15, R24, R39, R42, R43, R46, R290, R295, R372: the package after reset. No strand is resident, rings, queues and
request records are zero, no operator, tick, request of the fabric or event is there, the counters of admissions are 1 and
the time is unaligned. The memories are in their canonical form. Where the spec leaves a point open, the model’s choice is
stated: log 4, 6, 7. -/
def Obligations.ResetState : Prop :=
  let s := State.reset
  s.memoryWf = true ∧ (∀ c k, ((s.core c).strand k).run = .absent) ∧
    (∀ c q, (s.core c).ring q = ⟨0, 0, 0, false, 0, 0, 0, 0, 0, 0, 0, 0, 0, 0⟩) ∧
    (∀ c q, ((s.core c).queue q).entries = [] ∧ ((s.core c).queue q).mpc = 0) ∧
    (∀ a, s.peek (.record a) = 0) ∧ (∀ r, s.recField r 0 1 = 0) ∧
    (∀ c, (s.core c).active = none ∧ (s.core c).shadow = none ∧ (s.core c).dbg = false ∧ (s.core c).lstat = 0) ∧
    (∀ g, (s.group g).ticking = false ∧ (s.group g).cstep = 0 ∧ (s.group g).phase = .idle ∧ (s.group g).overrun = 0) ∧
    s.arrSeq = 1 ∧ s.admSeq = 1 ∧ s.servo.status = 0 ∧ s.stopped = false ∧ s.fabric.pending = [] ∧ s.l2 = []

/-- R3, R20, R28, R73–R77, R85, R86, R243, R349, R371, R376, R379: a step. The loads of the agent on turn that can be
performed are. The words at its pc decode to an instruction, and the step is that instruction's effect, once its clk has
begun; a strand of another core may issue in the same clk; a strand whose watchdog has run out or that stands at a
breakpoint issues nothing; past the end of its chain it takes fault 0x01; what fetch and decoding refuse is the fault of
R86, in its order. What the agenda holds comes first: an event is run, those of one core in one clk in the order of strands
and queues, an input enters the machine, a number of clks passes, another agent takes its turn. With the main clock gated
its events do not happen. A package that a fatal error or a failed boot has stopped runs nothing but what comes by the Mynto
Link. Where the spec leaves a point open, the model’s choice is stated: log 1, 19, 55, 58, 90. -/
def Obligations.Step : Prop :=
  (∀ (s v : State) (c : CoreId) (k : StrandId) (img : Image) (i : Instr), OnTurn s v c k → StillToRun v → OwnLine v img →
    v.me.slot ≠ 0 → ¬ (isLong (pcWords v img).1 = true ∧ v.me.slot = 15) → (pcWords v img).1.toNat / 2 ^ 25 ≠ 0x63 →
    decode (pcWords v img).1 (pcWords v img).2 = .ok i →
    step s = exec i (v.beginIssue 1)) ∧
  (∀ s : State, (∀ f ∈ s.me.far, f.id ≠ none ∧ f.failed = none) → s.settleLoads = s) ∧
  (∀ (s v : State) (c : CoreId) (k : StrandId), OnTurn s v c k →
    let pc := v.me.line ++ v.me.slot
    let u := v.beginIssue 1
    (v.me.pass.ended = some pc → let w := u.setMe { u.me with pass := Passing.none }
      (v.me.far = [] → step s = .next (w.takeFault (raise 0x01 pc.toNat))) ∧
      (v.me.far ≠ [] → step s = .next (w.setMe { w.me with pass := ⟨none, some pc⟩ }))) ∧
    (StillToRun v → v.imageOf v.cur = none → step s = .next (u.faulted (raise 0x06 pc.toNat))) ∧
    (∀ img, StillToRun v → v.imageOf v.cur = some img →
      (img.nlines ≤ v.me.line.toNat → step s = .next (u.faulted (raise 0x06 pc.toNat))) ∧
      (v.me.line.toNat < img.nlines → (lineWord v img v.me.line.toNat 0).toNat / 2 ^ 28 ≠ 0 →
        step s = .next (u.faulted (raise 0x07 pc.toNat)))) ∧
    (∀ img, StillToRun v → OwnLine v img →
      let w := pcWords v img
      (v.me.slot = 0 → step s = .next (u.faulted (raise 0x02 pc.toNat))) ∧
      (v.me.slot = 15 → isLong w.1 = true → step s = .next (u.faulted (raise 0x02))) ∧
      (v.me.slot ≠ 0 → ¬ (isLong w.1 = true ∧ v.me.slot = 15) →
        (w.1.toNat / 2 ^ 25 = 0x63 → step s = .next (u.faulted (raise 0x01))) ∧
        (w.1.toNat / 2 ^ 25 ≠ 0x63 → decode w.1 w.2 = .error .reserved → step s = .next (u.faulted (raise 0x01))) ∧
        (w.1.toNat / 2 ^ 25 ≠ 0x63 → decode w.1 w.2 = .error .field → step s = .next (u.faulted (raise 0x02)))))) ∧
  (∀ s : State, s.stopped = true ∨ s.booted = false →
    (s.agenda = [] → step s = .fault .packageStopped) ∧
    (∀ a rest, s.agenda = a :: rest → ¬ OverLink s a → step s = .next { s with agenda := rest }) ∧
    (∀ i rest, s.agenda = .event i :: rest → OverLink s (.event i) → step s = exec i { s with agenda := rest }) ∧
    (∀ x rest, s.agenda = .input x :: rest → OverLink s (.input x) →
      step s = .next (State.input { s with agenda := rest } x))) ∧
  (∀ (s : State) (rest : List Agendum), s.stopped = false → s.booted = true →
    (∀ i, s.agenda = .event i :: rest → wordCount i = 0 → ringPlace i = none → s.asleep i = false →
      (∀ w0 w1, i ≠ .reservedEncoding w0 w1) → step s = exec i { s with agenda := rest }) ∧
    (∀ n, s.agenda = .clocks n :: rest → step s = .next (State.elapse { s with agenda := rest } n)) ∧
    (∀ a, s.agenda = .turn a :: rest → step s = .next { s with agenda := rest, cur := a }) ∧
    (∀ x, s.agenda = .input x :: rest → step s = .next (State.input { s with agenda := rest } x))) ∧
  (∀ e ∈ engineEvents, ∀ c : CoreId, RunsInTurn (e.1 c) c.toNat (8 + e.2)) ∧
  (∀ i ∈ queueEvents, ∀ (c : CoreId) (q : QueueId), RunsInTurn (i c q) c.toNat (8 + q.toNat)) ∧
  (∀ (c : CoreId) (k : StrandId), RunsInTurn (.ringWaitWake c k) c.toNat k.toNat) ∧
  (∀ (s : State) (i : Instr), (Runs s → s.asleep i = false) ∧ (s.power.pstate = 2 ∨ s.power.pstate = 3 →
    (∃ q, i = .porchRunStart q) ∨ (∃ m, i = .planeSwap m) ∨ (∃ r, i = .planeCompletion r) ∨ (∃ c, i = .operatorRetire c) ∨
      (∃ c m, i = .landingArrival c m) ∨ (∃ c a n, i = .latchFillComplete c a n) ∨ (∃ g, i = .stepOpen g) ∨
      (∃ g, i = .stepCommit g) ∨ (∃ a n, i = .storePerform a n) → s.asleep i = true)) ∧
  (∀ (s : State) (rest : List Agendum) (i : Instr), s.stopped = false → s.booted = true → s.agenda = .event i :: rest →
    s.asleep i = true → step s = .next { s with agenda := rest }) ∧
  (∀ (s v : State) (q : HostQueueId) (img : Image) (i : Instr), OnPorchTurn s v q → v.imageOf v.cur = some img →
    v.me.line.toNat < img.nlines → (lineWord v img v.me.line.toNat 0).toNat / 2 ^ 28 = 1 → v.me.slot ≠ 0 →
    ¬ (isLong (pcWords v img).1 = true ∧ v.me.slot = 15) → v.porchPermits img (pcWords v img).1 (pcWords v img).2 = true →
    decode (pcWords v img).1 (pcWords v img).2 = .ok i →
    step s = exec i (v.beginIssue 1)) ∧
  (∀ (s v : State) (c : CoreId) (k : StrandId), TurnOf s v (.strand c k) → HoldsSlot v c k →
    (2 ^ v.me.wlim.toNat ≤ v.me.wcount.toNat →
      (v.me.far = [] → step s = exec (.watchdogExpiry c k) v) ∧ (v.me.far ≠ [] → step s = .next (v.elapse 1))) ∧
    (v.me.wcount.toNat < 2 ^ v.me.wlim.toNat → AtBreakpoint v c →
      step s = .next (v.setMe { v.me with run := .debugged }).giveSlot)) ∧
  (∀ (s : State) (c : CoreId) (k : StrandId) (rest : List Agendum), Runs s → s.agenda = .also (.strand c k) :: rest →
    let u := { s with agenda := rest, cur := .strand c k }
    let v := u.settleLoads
    ((∃ j, Agent.strand c j ∈ s.acted) ∨ (∃ x ∈ s.units, x.1 = c.toNat ∧ k.toNat < x.2) →
      step s = .next { s with agenda := rest }) ∧
    ∀ (img : Image) (i : Instr), (∀ j, Agent.strand c j ∉ s.acted) → (∀ x ∈ s.units, x.1 = c.toNat → x.2 ≤ k.toNat) →
      (s.core c.toNat).fenced = false → MayIssue v c k → StillToRun v → OwnLine v img → v.me.slot ≠ 0 →
      ¬ (isLong (pcWords v img).1 = true ∧ v.me.slot = 15) → (pcWords v img).1.toNat / 2 ^ 25 ≠ 0x63 →
      decode (pcWords v img).1 (pcWords v img).2 = .ok i → step s = exec i (v.beginIssue 0))

namespace Sys2Proof.Machine

/-- The three-register integer forms (R108–R113). -/
def arithmeticInstrs : List (FA → Instr) :=
  [Instr.add, .sub, .and, .or, .xor, .andn, .orn, .xnor, .sll, .srl, .sra, .ror, .mul, .mulh, .mulhu, .mulhsu, .div,
    .divu, .rem, .remu, .addw, .subw, .mulw, .adds, .subs, .addus, .subus, .rol, .seq, .sne, .slt, .sltu, .sge, .sgeu, .min,
    .minu, .max, .maxu, .cmovnz, .cmovz, .tstnz, .tstz, .selb, .cmps, .clz, .ctz, .popc, .bswap, .bext, .bexts, .bins,
    .sh1add, .sh2add, .sh3add, .sh4add, .sh6add, .plw, .qaddr, .faddr, .alignup]
/-- The vector loads and stores with their minors (R196). -/
def vectorMemoryInstrs : List ((FVM → Instr) × Nat) :=
  [(.vld, 0), (.vldT, 1), (.vldRowb, 2), (.vldColb, 3), (.vldN8, 4), (.vldN16, 5), (.vldN8s, 6), (.vldN16s, 7),
   (.vst, 0), (.vstT, 1), (.vstRow0, 2), (.vstCol0, 3), (.vstN8, 4), (.vstN16, 5), (.vstN8s, 6), (.vstN16s, 7)]
/-- The forms of AMO and of RED (R153, R154). -/
def amoInstrs : List (FAT → Instr) := [Instr.amoSwap, .amoAdd, .amoAnd, .amoOr, .amoXor, .amoMin, .amoMax, .amoMinu,
    .amoMaxu, .amoFadd, .amoFmax,
    .amoFmin, .amoIncw, .amoDecw, .amoAddus, .amoSubus]
def redInstrs : List (FAT → Instr) := [Instr.redSwap, .redAdd, .redAnd, .redOr, .redXor, .redMin, .redMax, .redMinu,
    .redMaxu, .redFadd, .redFmax,
    .redFmin, .redIncw, .redDecw, .redAddus, .redSubus]

end Sys2Proof.Machine

/-- R13, R81, R86: an instruction whose guard bit is 0 does nothing, whatever its registers hold, and control flows on; the
checks of its fields, its ring, its place and its system register come first. The PORCH forms are those of a porch run.
R143: a strand that is to execute an instruction naming a register whose load has not returned gives up the issue slot until
the registers it names have returned; nothing else happens. Where the spec leaves a point open, the model’s choice is
stated: log 9, 13, 45. -/
def Obligations.GuardsAndInterlocks : Prop :=
  ((∀ i ∈ arithmeticInstrs, ∀ (f : FA) (s : State), s.guard4 f.g = false → (s.successor 1).isSome = true →
     ∃ t, exec (i f) s = .next t ∧ Passed s t 1) ∧
   (∀ i ∈ [Instr.br, .callr, .ret], ∀ (f : FA) (s : State), s.guard4 f.g = false → (s.successor 1).isSome = true →
     ∃ t, exec (i f) s = .next t ∧ Passed s t 1) ∧
   (∀ i ∈ [Instr.fadd, .fmul, .fma], ∀ (f : FF) (s : State), s.guard4 f.g = false → (s.successor 1).isSome = true →
     ∃ t, exec (i f) s = .next t ∧ Passed s t 1) ∧
   (∀ i ∈ [Instr.fmax, .fmin], ∀ (f : FMinMax) (s : State), s.guard4 f.g = false → (s.successor 1).isSome = true →
     ∃ t, exec (i f) s = .next t ∧ Passed s t 1) ∧
   (∀ i ∈ [Instr.fcvtF32I64, .fcvtF32U64, .fcvtI64F32, .fcvtI32F32], ∀ (f : FCvt) (s : State), s.guard4 f.g = false →
     (s.successor 1).isSome = true →
     ∃ t, exec (i f) s = .next t ∧ Passed s t 1) ∧
   (∀ i ∈ [Instr.addi, .andi, .ori, .xori], ∀ (f : FI) (s : State), s.guard4 f.g = false → (s.successor 1).isSome = true →
     ∃ t, exec (i f) s = .next t ∧ Passed s t 1) ∧
   (∀ i ∈ [Instr.slli, .srli, .srai, .rori], ∀ (f : FShift) (s : State), s.guard4 f.g = false → (s.successor 1).isSome = true →
     ∃ t, exec (i f) s = .next t ∧ Passed s t 1) ∧
   (∀ (f : FWid) (s : State), s.guard4 f.g = false → (s.successor 1).isSome = true →
     ∃ t, exec (.widf f) s = .next t ∧ Passed s t 1) ∧
   (∀ i ∈ [Instr.ldS, .stS, .ldW, .stW, .ldG, .stG, .ldQ, .stQ], ∀ (f : FM) (s : State), s.guard4 f.g = false → (s.successor
     1).isSome = true →
     ∃ t, exec (i f) s = .next t ∧ Passed s t 1) ∧
   (∀ i ∈ [Instr.mfs, .mts], ∀ (f : FS) (s : State), s.guard4 f.g = false → (s.successor 1).isSome = true →
     ∃ t, exec (i f) s = .next t ∧ Passed s t 1) ∧
   (∀ (f : FFence) (s : State), s.guard4 f.g = false → (s.successor 1).isSome = true →
     ∃ t, exec (.fenceShort f) s = .next t ∧ Passed s t 1) ∧
   (∀ i ∈ [Instr.halt, .mark], ∀ (f : FW) (s : State), s.guard4 f.g = false → (s.successor 1).isSome = true →
     ∃ t, exec (i f) s = .next t ∧ Passed s t 1) ∧
   (∀ (f : FE) (s : State), s.guard4 f.g = false → (s.successor 1).isSome = true →
     ∃ t, exec (.push f) s = .next t ∧ Passed s t 1) ∧
   (∀ i ∈ [Instr.rclaim, .rrelease], ∀ (f : FQ) (s : State), s.guard4 f.g = false → (s.successor 1).isSome = true →
     s.ringCheck f.q false = none →
     ∃ t, exec (i f) s = .next t ∧ Passed s t 1) ∧
   (∀ i ∈ [Instr.rcommit, .rstat], ∀ (f : FQ) (s : State), s.guard4 f.g = false → (s.successor 1).isSome = true →
     s.ringCheck f.q true = none →
     ∃ t, exec (i f) s = .next t ∧ Passed s t 1) ∧
   (∀ i ∈ [Instr.lih, .addiWide, .andiWide, .oriWide, .xoriWide], ∀ (f : FL) (s : State), s.guard7 f.g = false →
     (s.successor 2).isSome = true →
     ∃ t, exec (i f) s = .next t ∧ Passed s t 2) ∧
   (∀ (f : FL) (s : State), s.guard7 f.g = false → (s.successor 2).isSome = true →
     ∃ t, exec (.li f) s = .next t ∧ Passed s t 2) ∧
   (∀ i ∈ [Instr.kli, .kliw], ∀ (f : FL) (s : State), s.guard7 f.g = false → (s.successor 2).isSome = true →
     ∃ t, exec (i f) s = .next t ∧ Passed s t 2) ∧
   (∀ (f : FL) (s : State), s.guard7 f.g = false → (s.successor 2).isSome = true →
     ∃ t, exec (.kmvx f) s = .next t ∧ Passed s t 2) ∧
   (∀ (f : FL) (s : State), s.guard7 f.g = false → (s.successor 2).isSome = true → f.d.toNat + (f.imm.toNat % 4 + 1) ≤ 16 →
     ∃ t, exec (.kclr f) s = .next t ∧ Passed s t 2) ∧
   (∀ (f : FP) (s : State), s.guard7 f.g = false → (s.successor 2).isSome = true → f.place = 0 ∨ s.placeCheck f.place 0 0 =
     none →
     ∃ t, exec (.lip f) s = .next t ∧ Passed s t 2) ∧
   (∀ (f : FP) (s : State), s.guard7 f.g = false → (s.successor 2).isSome = true → s.placeCheck f.place 0 0 = none →
     ∃ t, exec (.liw f) s = .next t ∧ Passed s t 2) ∧
   (∀ (f : FP) (s : State), s.guard7 f.g = false → (s.successor 2).isSome = true → s.placeCheck f.place f.rows.toNat
     f.cols.toNat = none →
     ∃ t, exec (.lir f) s = .next t ∧ Passed s t 2) ∧
   (∀ (f : FP) (s : State), s.guard7 f.g = false → (s.successor 2).isSome = true → f.pos.toNat + 13 ≤ 128 * (16 - f.d.toNat)
     ∧ s.placeCheck f.place 0 0 = none →
     ∃ t, exec (.kpl f) s = .next t ∧ Passed s t 2) ∧
   (∀ (f : FP) (s : State), s.guard7 f.g = false → (s.successor 2).isSome = true → f.pos.toNat + 25 ≤ 128 * (16 - f.d.toNat) ∧
     s.placeCheck f.place f.rows.toNat f.cols.toNat = none →
     ∃ t, exec (.krl f) s = .next t ∧ Passed s t 2) ∧
   (∀ i ∈ [Instr.bGuarded, .beq, .bne, .blt, .bge, .bltu, .bgeu], ∀ (f : FBC) (s : State), s.guard7 f.g = false →
     (s.successor 2).isSome = true → f.slot ≠ 0 →
     ∃ t, exec (i f) s = .next t ∧ Passed s t 2) ∧
   (∀ (f : FSY) (s : State), s.guard7 f.g = false → (s.successor 2).isSome = true → f.b.toNat ≠ 0 →
     ∃ t, exec (.callGuarded f) s = .next t ∧ Passed s t 2) ∧
   (∀ i ∈ [Instr.muli, .slti, .sltiu, .seqi, .mini, .maxi, .bexti, .bextsi, .binsi, .addhi], ∀ (f : FSY) (s : State),
     s.guard7 f.g = false → (s.successor 2).isSome = true →
     ∃ t, exec (i f) s = .next t ∧ Passed s t 2) ∧
   (∀ (f : FSY) (s : State), s.guard7 f.g = false → (s.successor 2).isSome = true →
     ∃ t, exec (.selp f) s = .next t ∧ Passed s t 2) ∧
   (∀ i ∈ [Instr.mpx, .rdesc, .rdfr], ∀ (f : FSY) (s : State), s.guard7 f.g = false → (s.successor 2).isSome = true →
     ∃ t, exec (i f) s = .next t ∧ Passed s t 2) ∧
   (∀ i ∈ [Instr.loopset, .mxp, .cpref, .cprefw, .cclean, .cflush, .cinv, .qres], ∀ (f : FSY) (s : State), s.guard7 f.g =
     false → (s.successor 2).isSome = true →
     ∃ t, exec (i f) s = .next t ∧ Passed s t 2) ∧
   (∀ i ∈ [Instr.pcmp, .ccleanr, .cflushr, .cinvr, .rcfg, .tarm], ∀ (f : FSY) (s : State), s.guard7 f.g = false →
     (s.successor 2).isSome = true →
     ∃ t, exec (i f) s = .next t ∧ Passed s t 2) ∧
   (∀ i ∈ [Instr.rsubmit, .rpark, .rresume, .rcancel, .rfree, .rrec, .qmpc], ∀ (f : FSY) (s : State), s.guard7 f.g = false →
     (s.successor 2).isSome = true →
     ∃ t, exec (i f) s = .next t ∧ Passed s t 2) ∧
   (∀ i ∈ [Instr.remit, .tcfg], ∀ (f : FSY) (s : State), s.guard7 f.g = false → (s.successor 2).isSome = true →
     ∃ t, exec (i f) s = .next t ∧ Passed s t 2) ∧
   (∀ i ∈ [Instr.fence, .fenceAcq, .fenceRel, .ccleana, .cflusha, .brk], ∀ (f : FSY) (s : State), s.guard7 f.g = false →
     (s.successor 2).isSome = true →
     ∃ t, exec (i f) s = .next t ∧ Passed s t 2) ∧
   (∀ i ∈ [Instr.raddr, .rclaima], ∀ (f : FSY) (s : State), s.guard7 f.g = false → (s.successor 2).isSome = true →
     s.ringCheck (ringOf f) false = none →
     ∃ t, exec (i f) s = .next t ∧ Passed s t 2) ∧
   (∀ (f : FSY) (s : State), s.guard7 f.g = false → (s.successor 2).isSome = true → s.ringCheck (ringOf f) true = none →
     ∃ t, exec (.rown f) s = .next t ∧ Passed s t 2) ∧
   (∀ i ∈ [Instr.rld, .rst], ∀ (f : FSY) (s : State), s.guard7 f.g = false → (s.successor 2).isSome = true →
     s.ringAccessCheck f = none →
     ∃ t, exec (i f) s = .next t ∧ Passed s t 2) ∧
   (∀ (f : FSY) (s : State), s.guard7 f.g = false → (s.successor 2).isSome = true → f.imm.toNat % 256 ≠ 0 →
     ∃ t, exec (.rflt f) s = .next t ∧ Passed s t 2) ∧
   (∀ (f : FSY) (s : State), s.guard7 f.g = false → (s.successor 2).isSome = true → s.ownGroup f true = none →
     ∃ t, exec (.tnext f) s = .next t ∧ Passed s t 2) ∧
   (∀ (f : FSY) (s : State), s.guard7 f.g = false → (s.successor 2).isSome = true → s.ownGroup f false = none →
     ∃ t, exec (.tstamp f) s = .next t ∧ Passed s t 2) ∧
   (∀ (f : FSY) (s : State), s.guard7 f.g = false → (s.successor 2).isSome = true → 0x80 ≤ f.imm.toNat ∧ f.imm.toNat ≤ 0xFF →
     ∃ t, exec (.trap f) s = .next t ∧ Passed s t 2) ∧
   (∀ (f : FSY) (s : State), s.guard7 f.g = false → (s.successor 2).isSome = true → f.imm.toNat ≤ 2 →
     ∃ t, exec (.rtt f) s = .next t ∧ Passed s t 2) ∧
   (∀ (f : FSY) (s : State), s.guard7 f.g = false → (s.successor 2).isSome = true → sysregDefined f.imm = true →
     ∃ t, exec (.mfsr f) s = .next t ∧ Passed s t 2) ∧
   (∀ (f : FSY) (s : State), s.guard7 f.g = false → (s.successor 2).isSome = true → sysregDefined f.imm = true →
     ∃ t, exec (.mtsr f) s = .next t ∧ Passed s t 2) ∧
   (∀ i ∈ [Instr.ld, .lda, .st, .stl], ∀ (f : FML) (s : State), s.guard7 f.g = false → (s.successor 2).isSome = true →
     ∃ t, exec (i f) s = .next t ∧ Passed s t 2) ∧
   (∀ i ∈ amoInstrs, ∀ (f : FAT) (s : State), s.guard7 f.g = false → (s.successor 2).isSome = true →
     ∃ t, exec (i f) s = .next t ∧ Passed s t 2) ∧
   (∀ (f : FAT) (s : State), s.guard7 f.g = false → (s.successor 2).isSome = true →
     ∃ t, exec (.cas f) s = .next t ∧ Passed s t 2) ∧
   (∀ i ∈ redInstrs, ∀ (f : FAT) (s : State), s.guard7 f.g = false → (s.successor 2).isSome = true →
     ∃ t, exec (i f) s = .next t ∧ Passed s t 2) ∧
   (∀ i ∈ [Instr.launch, .plane, .swapt, .preempt, .resumePartition, .resumeQueue, .commit], ∀ (f : FSY) (s : State),
     s.isPorch = true → s.guard7 f.g = false → (s.successor 2).isSome = true → ∃ t, exec (i f) s = .next t ∧ Passed s t 2)) ∧
  ((∀ i ∈ arithmeticInstrs, ∀ (f : FA) (s : State), OnStrand s → s.guard4 f.g = true → Interlocks s (i f) [f.d, f.a, f.b]) ∧
   (∀ i ∈ [Instr.br, .ret], ∀ (f : FA) (s : State), OnStrand s → s.guard4 f.g = true → Interlocks s (i f) [f.a]) ∧
   (∀ (f : FA) (s : State), OnStrand s → s.guard4 f.g = true → Interlocks s (.callr f) [f.a, 31]) ∧
   (∀ (f : FJ) (s : State), OnStrand s → f.slot ≠ 0 → Interlocks s (.call f) [31]) ∧
   (∀ (f : FSY) (s : State), OnStrand s → s.guard7 f.g = true → f.b.toNat ≠ 0 → Interlocks s (.callGuarded f) [31]) ∧
   (∀ i ∈ [Instr.fadd, .fmul, .fma], ∀ (f : FF) (s : State), OnStrand s → s.guard4 f.g = true → Interlocks s (i f) [f.d,
     f.a, f.b]) ∧
   (∀ i ∈ [Instr.fmax, .fmin], ∀ (f : FMinMax) (s : State), OnStrand s → s.guard4 f.g = true → Interlocks s (i f) [f.d, f.a,
     f.b]) ∧
   (∀ i ∈ [Instr.fcvtF32I64, .fcvtF32U64, .fcvtI64F32, .fcvtI32F32], ∀ (f : FCvt) (s : State), OnStrand s → s.guard4 f.g =
     true → Interlocks s (i f) [f.d, f.a]) ∧
   (∀ i ∈ [Instr.addi, .andi, .ori, .xori], ∀ (f : FI) (s : State), OnStrand s → s.guard4 f.g = true → Interlocks s (i f)
     [f.d, f.a]) ∧
   (∀ i ∈ [Instr.slli, .srli, .srai, .rori], ∀ (f : FShift) (s : State), OnStrand s → s.guard4 f.g = true → Interlocks s (i
     f) [f.d, f.a]) ∧
   (∀ (f : FWid) (s : State), OnStrand s → s.guard4 f.g = true → Interlocks s (.widf f) [f.d, f.a]) ∧
   (∀ i ∈ [Instr.ldS, .stS, .ldW, .stW, .ldG, .stG, .ldQ, .stQ], ∀ (f : FM) (s : State), OnStrand s → s.guard4 f.g = true →
     Interlocks s (i f) [f.d, f.a]) ∧
   (∀ i ∈ [Instr.mfs, .mts], ∀ (f : FS) (s : State), OnStrand s → s.guard4 f.g = true → Interlocks s (i f) [f.d]) ∧
   (∀ i ∈ [Instr.rclaim, .rrelease], ∀ (f : FQ) (s : State), OnStrand s → s.guard4 f.g = true → s.ringCheck f.q false = none
     → Interlocks s (i f) [f.a]) ∧
   (∀ i ∈ [Instr.rcommit, .rstat], ∀ (f : FQ) (s : State), OnStrand s → s.guard4 f.g = true → s.ringCheck f.q true = none →
     Interlocks s (i f) [f.a]) ∧
   (∀ i ∈ [Instr.lih, .addiWide, .andiWide, .oriWide, .xoriWide], ∀ (f : FL) (s : State), OnStrand s → s.guard7 f.g = true →
     Interlocks s (i f) [f.d, f.a]) ∧
   (∀ (f : FL) (s : State), OnStrand s → s.guard7 f.g = true → Interlocks s (.li f) [f.d]) ∧
   (∀ (f : FL) (s : State), OnStrand s → s.guard7 f.g = true → Interlocks s (.kmvx f) [f.a]) ∧
   (∀ (f : FP) (s : State), OnStrand s → s.guard7 f.g = true → f.place = 0 ∨ s.placeCheck f.place 0 0 = none → Interlocks s
     (.lip f) [f.d]) ∧
   (∀ (f : FP) (s : State), OnStrand s → s.guard7 f.g = true → s.placeCheck f.place 0 0 = none → Interlocks s (.liw f) [f.d,
     f.a]) ∧
   (∀ (f : FP) (s : State), OnStrand s → s.guard7 f.g = true → s.placeCheck f.place f.rows.toNat f.cols.toNat = none →
     Interlocks s (.lir f) [f.d]) ∧
   (∀ i ∈ [Instr.bGuarded, .beq, .bne, .blt, .bge, .bltu, .bgeu], ∀ (f : FBC) (s : State), OnStrand s → s.guard7 f.g = true
     → f.slot ≠ 0 → Interlocks s (i f) [f.a, f.b]) ∧
   (∀ i ∈ [Instr.muli, .slti, .sltiu, .seqi, .mini, .maxi, .bexti, .bextsi, .binsi, .addhi], ∀ (f : FSY) (s : State),
     OnStrand s → s.guard7 f.g = true → Interlocks s (i f) [f.d, f.a]) ∧
   (∀ (f : FSY) (s : State), OnStrand s → s.guard7 f.g = true → Interlocks s (.selp f) [f.d, f.a, f.b]) ∧
   (∀ i ∈ [Instr.mpx, .rdesc, .rdfr], ∀ (f : FSY) (s : State), OnStrand s → s.guard7 f.g = true → Interlocks s (i f) [f.d]) ∧
   (∀ i ∈ [Instr.loopset, .mxp, .cpref, .cprefw, .cclean, .cflush, .cinv, .qres], ∀ (f : FSY) (s : State), OnStrand s →
     s.guard7 f.g = true → Interlocks s (i f) [f.a]) ∧
   (∀ i ∈ [Instr.pcmp, .ccleanr, .cflushr, .cinvr, .rcfg, .tarm], ∀ (f : FSY) (s : State), OnStrand s → s.guard7 f.g = true
     → Interlocks s (i f) [f.a, f.b]) ∧
   (∀ i ∈ [Instr.rsubmit, .rpark, .rresume, .rcancel, .rfree, .rrec, .qmpc], ∀ (f : FSY) (s : State), OnStrand s → s.guard7
     f.g = true → Interlocks s (i f) [f.a, f.d]) ∧
   (∀ i ∈ [Instr.remit, .tcfg], ∀ (f : FSY) (s : State), OnStrand s → s.guard7 f.g = true → Interlocks s (i f) [f.a, f.b, f.d]) ∧
   (∀ i ∈ [Instr.raddr, .rclaima], ∀ (f : FSY) (s : State), OnStrand s → s.guard7 f.g = true → s.ringCheck (ringOf f) false
     = none → Interlocks s (i f) [f.d, f.b]) ∧
   (∀ (f : FSY) (s : State), OnStrand s → s.guard7 f.g = true → s.ringCheck (ringOf f) true = none → Interlocks s (.rown f)
     [f.d, f.b]) ∧
   (∀ i ∈ [Instr.rld, .rst], ∀ (f : FSY) (s : State), OnStrand s → s.guard7 f.g = true → s.ringAccessCheck f = none →
     Interlocks s (i f) [f.d, f.a, f.b]) ∧
   (∀ (f : FSY) (s : State), OnStrand s → s.guard7 f.g = true → f.imm.toNat % 256 ≠ 0 → Interlocks s (.rflt f) [f.a]) ∧
   (∀ (f : FSY) (s : State), OnStrand s → s.guard7 f.g = true → s.ownGroup f true = none → Interlocks s (.tnext f) [f.a, f.d]) ∧
   (∀ (f : FSY) (s : State), OnStrand s → s.guard7 f.g = true → s.ownGroup f false = none → Interlocks s (.tstamp f) [f.a,
     f.d]) ∧
   (∀ (f : FSY) (s : State), OnStrand s → s.guard7 f.g = true → sysregDefined f.imm = true → Interlocks s (.mfsr f) [f.d]) ∧
   (∀ (f : FSY) (s : State), OnStrand s → s.guard7 f.g = true → sysregDefined f.imm = true → Interlocks s (.mtsr f) [f.a]) ∧
   (∀ i ∈ [Instr.ld, .lda, .st, .stl], ∀ (f : FML) (s : State), OnStrand s → s.guard7 f.g = true → Interlocks s (i f) [f.d,
     f.a]) ∧
   (∀ i ∈ amoInstrs, ∀ (f : FAT) (s : State), OnStrand s → s.guard7 f.g = true → Interlocks s (i f) [f.d, f.a, f.b]) ∧
   (∀ (f : FAT) (s : State), OnStrand s → s.guard7 f.g = true → Interlocks s (.cas f) [f.d, f.a, f.b, f.c]) ∧
   (∀ i ∈ redInstrs, ∀ (f : FAT) (s : State), OnStrand s → s.guard7 f.g = true → Interlocks s (i f) [f.a, f.b]) ∧
   (∀ (f : FK) (s : State), OnStrand s → f.pos.toNat + (f.width.toNat + 1) ≤ 128 * (16 - f.k.toNat) →
     Interlocks s (.kins f) [f.a]) ∧
   (∀ e ∈ vectorMemoryInstrs, ∀ (f : FVM) (s : State), OnStrand s → s.vmemCheck f e.2 = none → Interlocks s (e.1 f) [f.a]) ∧
   (∀ (f : FW) (s : State), OnStrand s → s.guard4 f.g = true → s.blockEnd = none → Interlocks s (.waitTime f) [waitReg f]) ∧
   (∀ i ∈ [Instr.mwaitS, .mwaitG, .mwaitQ], ∀ (f : FW) (s : State), OnStrand s → s.guard4 f.g = true → s.blockEnd = none →
     Interlocks s (i f) [waitReg f, BitVec.ofNat 5 (f.arg.toNat / 2 ^ 5)]) ∧
   (∀ i ∈ [Instr.mwaittS, .mwaittG, .mwaittQ], ∀ (f : FSY) (s : State), OnStrand s → s.guard7 f.g = true → s.blockEnd = none →
     Interlocks s (i f) [f.d, f.a, f.b]))

/-- The canonical form of placed, pooled, host and record memory, which every step keeps. -/
def Obligations.MemoryCanonical : Prop := ∀ s t : State, s.memoryWf = true → step s = .next t → t.memoryWf = true

end
end

