-- ==== Sys2Proof/Laws/Cells.lean ====
section
/-! SUPPORT. Laws of sparse tables: reading after setting, setting twice, and the canonical form that every operation
keeps. -/

namespace Sys2Proof.Machine

variable {α : Type}

theorem Cells.get_erase_ne (d : α) (c : Cells α) {i j : Nat} (h : i ≠ j) : (c.erase i).get d j = c.get d j := by
  induction c with
  | nil => rfl
  | cons e c ih =>
    obtain ⟨n, v⟩ := e
    by_cases hn : n = i
    · subst hn; simp [Cells.erase, Cells.get, h, ih]
    · simp only [Cells.erase, hn, if_false, Cells.get, ih]

theorem Cells.get_erase_same (d : α) (c : Cells α) (i : Nat) : (c.erase i).get d i = d := by
  induction c with
  | nil => rfl
  | cons e c ih =>
    obtain ⟨n, v⟩ := e
    by_cases hn : n = i <;> simp [Cells.erase, Cells.get, hn, ih]

theorem Cells.get_insert_ne (d : α) (c : Cells α) {i j : Nat} (v : α) (h : i ≠ j) : (c.insert i v).get d j = c.get d j := by
  induction c with
  | nil => simp [Cells.insert, Cells.get, h]
  | cons e c ih =>
    obtain ⟨n, w⟩ := e
    by_cases hn : i < n
    · simp only [Cells.insert, hn, if_true, Cells.get, h, if_false]
    · simp only [Cells.insert, hn, if_false, Cells.get, ih]

theorem Cells.get_insert_same (d : α) (c : Cells α) (i : Nat) (v : α) (h : ∀ w, (i, w) ∉ c) :
    (c.insert i v).get d i = v := by
  induction c with
  | nil => simp [Cells.insert, Cells.get]
  | cons e c ih =>
    obtain ⟨n, w⟩ := e
    have hn : n ≠ i := fun e => h w (by simp [e])
    by_cases hi : i < n
    · simp [Cells.insert, Cells.get, hi]
    · simp only [Cells.insert, hi, if_false, Cells.get, hn]
      exact ih (fun w hw => h w (List.mem_cons_of_mem _ hw))

theorem Cells.not_mem_erase (c : Cells α) (i : Nat) (v : α) : (i, v) ∉ c.erase i := by
  induction c with
  | nil => simp [Cells.erase]
  | cons e c ih =>
    obtain ⟨n, w⟩ := e
    by_cases hn : n = i
    · simp [Cells.erase, hn, ih]
    · simp [Cells.erase, hn, ih, Ne.symm hn]

theorem Cells.erase_insert (c : Cells α) (i : Nat) (v : α) (h : ∀ w, (i, w) ∉ c) : (c.insert i v).erase i = c := by
  induction c with
  | nil => simp [Cells.insert, Cells.erase]
  | cons e c ih =>
    obtain ⟨n, w⟩ := e
    have hn : n ≠ i := fun e => h w (by simp [e])
    have hc : ∀ w, (i, w) ∉ c := fun w hw => h w (List.mem_cons_of_mem _ hw)
    have he : ∀ c : Cells α, (∀ w, (i, w) ∉ c) → c.erase i = c := by
      intro c
      induction c with
      | nil => intro _; rfl
      | cons e c ih =>
        obtain ⟨m, u⟩ := e
        intro h
        have hm : m ≠ i := fun e => h u (by simp [e])
        simp [Cells.erase, hm, ih (fun w hw => h w (List.mem_cons_of_mem _ hw))]
    by_cases hi : i < n
    · simp [Cells.insert, Cells.erase, hi, hn, he c hc]
    · simp [Cells.insert, Cells.erase, hi, hn, ih hc]

theorem Cells.erase_erase (c : Cells α) (i : Nat) : (c.erase i).erase i = c.erase i := by
  induction c with
  | nil => rfl
  | cons e c ih =>
    obtain ⟨n, v⟩ := e
    by_cases hn : n = i <;> simp [Cells.erase, hn, ih]

/-! ## Rising indices -/

theorem Cells.rising_lower {lo lo' : Option Nat} {c : Cells α} (h : ∀ n, lo' = some n → ∃ m, lo = some m ∧ n ≤ m)
    (hr : Cells.rising lo c = true) : Cells.rising lo' c = true := by
  cases c with
  | nil => rfl
  | cons e c =>
    obtain ⟨j, v⟩ := e
    cases lo' with
    | none => simp_all [Cells.rising]
    | some n =>
      obtain ⟨m, rfl, hm⟩ := h n rfl
      simp only [Cells.rising, Bool.and_eq_true, decide_eq_true_eq] at hr ⊢
      exact ⟨by omega, hr.2⟩

theorem Cells.rising_erase (lo : Option Nat) (c : Cells α) (i : Nat) (h : Cells.rising lo c = true) :
    Cells.rising lo (c.erase i) = true := by
  induction c generalizing lo with
  | nil => rfl
  | cons e c ih =>
    obtain ⟨j, v⟩ := e
    simp only [Cells.rising, Bool.and_eq_true] at h
    by_cases hj : j = i
    · simp only [Cells.erase, hj, if_true]
      refine ih lo (Cells.rising_lower ?_ h.2)
      intro n hn
      subst hn
      exact ⟨j, rfl, by simpa using Nat.le_of_lt (of_decide_eq_true h.1)⟩
    · simp only [Cells.erase, hj, if_false, Cells.rising, Bool.and_eq_true]
      exact ⟨h.1, ih _ h.2⟩

theorem Cells.rising_insert (lo : Option Nat) (c : Cells α) (i : Nat) (v : α) (h : Cells.rising lo c = true)
    (hl : ∀ n, lo = some n → n < i) (hm : ∀ w, (i, w) ∉ c) : Cells.rising lo (c.insert i v) = true := by
  induction c generalizing lo with
  | nil => cases lo <;> simp_all [Cells.insert, Cells.rising]
  | cons e c ih =>
    obtain ⟨j, w⟩ := e
    simp only [Cells.rising, Bool.and_eq_true] at h
    have hj : j ≠ i := fun e => hm w (by simp [e])
    by_cases hi : i < j
    · simp only [Cells.insert, hi, if_true, Cells.rising, Bool.and_eq_true, decide_true, true_and]
      exact ⟨by cases lo <;> simp_all, h.2⟩
    · simp only [Cells.insert, hi, if_false, Cells.rising, Bool.and_eq_true]
      refine ⟨h.1, ih _ h.2 ?_ (fun w hw => hm w (List.mem_cons_of_mem _ hw))⟩
      intro n hn
      cases hn
      omega

theorem Cells.mem_of_mem_erase {c : Cells α} {i : Nat} {e : Nat × α} (h : e ∈ c.erase i) : e ∈ c := by
  induction c with
  | nil => simp [Cells.erase] at h
  | cons f c ih =>
    obtain ⟨j, v⟩ := f
    by_cases hj : j = i
    · simp only [Cells.erase, hj, if_true] at h; exact List.mem_cons_of_mem _ (ih h)
    · simp only [Cells.erase, hj, if_false, List.mem_cons] at h
      rcases h with h | h
      · simp [h]
      · exact List.mem_cons_of_mem _ (ih h)

theorem Cells.mem_of_mem_insert {c : Cells α} {i : Nat} {v : α} {e : Nat × α} (h : e ∈ c.insert i v) :
    e = (i, v) ∨ e ∈ c := by
  induction c with
  | nil => simpa [Cells.insert] using h
  | cons f c ih =>
    obtain ⟨j, w⟩ := f
    by_cases hi : i < j
    · simpa [Cells.insert, hi] using h
    · simp only [Cells.insert, hi, if_false, List.mem_cons] at h ⊢
      rcases h with h | h
      · simp [h]
      · rcases ih h with h | h <;> simp [h]

variable [DecidableEq α]

/-- A read after a set of the same index. -/
@[simp] theorem Cells.get_set_same (d : α) (c : Cells α) (i : Nat) (v : α) : (c.set d i v).get d i = v := by
  unfold Cells.set
  split
  · rename_i h; rw [h, Cells.get_erase_same]
  · exact Cells.get_insert_same _ _ _ _ (fun w => Cells.not_mem_erase c i w)

/-- A read of another index. -/
theorem Cells.get_set_ne (d : α) (c : Cells α) {i j : Nat} (v : α) (h : i ≠ j) : (c.set d i v).get d j = c.get d j := by
  unfold Cells.set
  split
  · exact Cells.get_erase_ne d c h
  · rw [Cells.get_insert_ne d _ v h, Cells.get_erase_ne d c h]

theorem Cells.get_set (d : α) (c : Cells α) (i j : Nat) (v : α) :
    (c.set d i v).get d j = if i = j then v else c.get d j := by
  split
  · rename_i h; subst h; simp
  · rename_i h; exact Cells.get_set_ne d c v h

/-- The later of two sets of one index counts. -/
@[simp] theorem Cells.set_set (d : α) (c : Cells α) (i : Nat) (v w : α) : (c.set d i v).set d i w = c.set d i w := by
  have h : (c.set d i v).erase i = c.erase i := by
    unfold Cells.set
    split
    · exact Cells.erase_erase c i
    · exact Cells.erase_insert _ _ _ (fun w => Cells.not_mem_erase c i w)
  unfold Cells.set at h ⊢
  simp only [h]

/-! ## The canonical form of tables and memories -/

/-- A set keeps the canonical form. -/
theorem Cells.wf_set (d : α) (c : Cells α) (i : Nat) (v : α) (h : Cells.wf d c = true) : Cells.wf d (c.set d i v) = true := by
  simp only [Cells.wf, Bool.and_eq_true, List.all_eq_true, decide_eq_true_eq] at h ⊢
  unfold Cells.set
  split
  · exact ⟨Cells.rising_erase _ _ _ h.1, fun e he => h.2 e (Cells.mem_of_mem_erase he)⟩
  · rename_i hv
    refine ⟨Cells.rising_insert _ _ _ _ (Cells.rising_erase _ _ _ h.1) (by simp) (fun w => Cells.not_mem_erase c i w), ?_⟩
    intro e he
    rcases Cells.mem_of_mem_insert he with rfl | he
    · exact hv
    · exact h.2 e (Cells.mem_of_mem_erase he)

/-- Storing bytes keeps memory's canonical form. -/
theorem setBytes_wf (m : Cells Byte) (a n v : Nat) (h : Cells.wf 0 m = true) : Cells.wf 0 (setBytes m a n v) = true := by
  induction n generalizing m a v with
  | zero => exact h
  | succ n ih => exact ih _ _ _ (Cells.wf_set 0 m a _ h)

theorem setBytesMasked_wf (m : Cells Byte) (a n v keep : Nat) (h : Cells.wf 0 m = true) :
    Cells.wf 0 (setBytesMasked m a n v keep) = true := by
  induction n generalizing m a v keep with
  | zero => exact h
  | succ n ih =>
    refine ih _ _ _ _ ?_
    split
    · exact Cells.wf_set 0 m a _ h
    · exact h

/-- Bytes outside the stored range keep their value. -/
theorem get_setBytes_ne (m : Cells Byte) (a n v x : Nat) (h : x < a ∨ a + n ≤ x) : (setBytes m a n v).get 0 x = m.get 0 x := by
  induction n generalizing m a v with
  | zero => rfl
  | succ n ih => rw [setBytes, ih _ _ _ (by omega), Cells.get_set_ne _ _ _ (by omega)]

theorem get_setBytesMasked_ne (m : Cells Byte) (a n v keep x : Nat) (h : x < a ∨ a + n ≤ x) :
    (setBytesMasked m a n v keep).get 0 x = m.get 0 x := by
  induction n generalizing m a v keep with
  | zero => rfl
  | succ n ih =>
    rw [setBytesMasked, ih _ _ _ _ (by omega)]
    split
    · rw [Cells.get_set_ne _ _ _ (by omega)]
    · rfl

/-- The bytes stored, read back. -/
theorem bytesAt_setBytes (m : Cells Byte) (a n v : Nat) : bytesAt (setBytes m a n v) a n = v % 256 ^ n := by
  induction n generalizing m a v with
  | zero => simp [bytesAt, Nat.mod_one]
  | succ n ih =>
    rw [setBytes, bytesAt, ih, get_setBytes_ne _ _ _ _ _ (by omega)]
    rw [Cells.get_set_same, BitVec.toNat_ofNat, show (256 : Nat) ^ (n + 1) = 2 ^ 8 * 256 ^ n from pow_succ' 256 n, Nat.mod_mul]
    norm_num

end Sys2Proof.Machine
end

