-- ==== Sys2Proof/Laws/State.lean ====
section
/-! SUPPORT. Field laws of the state's updates: what each leaves alone and what reading the updated part gives. -/

namespace Sys2Proof.Machine

variable (s : State)

/-! ## setCore -/

@[simp] theorem State.setCore_cfg (c : Nat) (k : Core) : (s.setCore c k).cfg = s.cfg := rfl
@[simp] theorem State.setCore_cur (c : Nat) (k : Core) : (s.setCore c k).cur = s.cur := rfl
@[simp] theorem State.setCore_agenda (c : Nat) (k : Core) : (s.setCore c k).agenda = s.agenda := rfl
@[simp] theorem State.setCore_clk (c : Nat) (k : Core) : (s.setCore c k).clk = s.clk := rfl
@[simp] theorem State.setCore_tai (c : Nat) (k : Core) : (s.setCore c k).tai = s.tai := rfl
@[simp] theorem State.setCore_placed (c : Nat) (k : Core) : (s.setCore c k).placed = s.placed := rfl
@[simp] theorem State.setCore_pooled (c : Nat) (k : Core) : (s.setCore c k).pooled = s.pooled := rfl
@[simp] theorem State.setCore_host (c : Nat) (k : Core) : (s.setCore c k).host = s.host := rfl
@[simp] theorem State.setCore_records (c : Nat) (k : Core) : (s.setCore c k).records = s.records := rfl
@[simp] theorem State.setCore_l2 (c : Nat) (k : Core) : (s.setCore c k).l2 = s.l2 := rfl
@[simp] theorem State.setCore_walked (c : Nat) (k : Core) : (s.setCore c k).walked = s.walked := rfl
@[simp] theorem State.setCore_images (c : Nat) (k : Core) : (s.setCore c k).images = s.images := rfl
@[simp] theorem State.setCore_parts (c : Nat) (k : Core) : (s.setCore c k).parts = s.parts := rfl
@[simp] theorem State.setCore_porch (c : Nat) (k : Core) : (s.setCore c k).porch = s.porch := rfl
@[simp] theorem State.setCore_jobs (c : Nat) (k : Core) : (s.setCore c k).jobs = s.jobs := rfl
@[simp] theorem State.setCore_groups (c : Nat) (k : Core) : (s.setCore c k).groups = s.groups := rfl
@[simp] theorem State.setCore_pendingActs (c : Nat) (k : Core) : (s.setCore c k).pendingActs = s.pendingActs := rfl
@[simp] theorem State.setCore_kept (c : Nat) (k : Core) : (s.setCore c k).kept = s.kept := rfl
@[simp] theorem State.setCore_arrSeq (c : Nat) (k : Core) : (s.setCore c k).arrSeq = s.arrSeq := rfl
@[simp] theorem State.setCore_admSeq (c : Nat) (k : Core) : (s.setCore c k).admSeq = s.admSeq := rfl
@[simp] theorem State.setCore_saved (c : Nat) (k : Core) : (s.setCore c k).saved = s.saved := rfl
@[simp] theorem State.setCore_fabric (c : Nat) (k : Core) : (s.setCore c k).fabric = s.fabric := rfl
@[simp] theorem State.setCore_servo (c : Nat) (k : Core) : (s.setCore c k).servo = s.servo := rfl
@[simp] theorem State.setCore_power (c : Nat) (k : Core) : (s.setCore c k).power = s.power := rfl
@[simp] theorem State.setCore_shafts (c : Nat) (k : Core) : (s.setCore c k).shafts = s.shafts := rfl
@[simp] theorem State.setCore_swait (c : Nat) (k : Core) : (s.setCore c k).swait = s.swait := rfl
@[simp] theorem State.setCore_debugger (c : Nat) (k : Core) : (s.setCore c k).debugger = s.debugger := rfl
@[simp] theorem State.setCore_booted (c : Nat) (k : Core) : (s.setCore c k).booted = s.booted := rfl
@[simp] theorem State.setCore_copyB (c : Nat) (k : Core) : (s.setCore c k).copyB = s.copyB := rfl
@[simp] theorem State.setCore_bootFail (c : Nat) (k : Core) : (s.setCore c k).bootFail = s.bootFail := rfl
@[simp] theorem State.setCore_measure (c : Nat) (k : Core) : (s.setCore c k).measure = s.measure := rfl
@[simp] theorem State.setCore_stopped (c : Nat) (k : Core) : (s.setCore c k).stopped = s.stopped := rfl
@[simp] theorem State.setCore_hostReads (c : Nat) (k : Core) : (s.setCore c k).hostReads = s.hostReads := rfl
@[simp] theorem State.setCore_up (c : Nat) (k : Core) : (s.setCore c k).up = s.up := rfl
@[simp] theorem State.setCore_bad (c : Nat) (k : Core) : (s.setCore c k).bad = s.bad := rfl
@[simp] theorem State.setCore_swaps (c : Nat) (k : Core) : (s.setCore c k).swaps = s.swaps := rfl
@[simp] theorem State.setCore_refused (c : Nat) (k : Core) : (s.setCore c k).refused = s.refused := rfl
@[simp] theorem State.setCore_hostIn (c : Nat) (k : Core) : (s.setCore c k).hostIn = s.hostIn := rfl
@[simp] theorem State.setCore_debugReads (c : Nat) (k : Core) : (s.setCore c k).debugReads = s.debugReads := rfl
@[simp] theorem State.setCore_acted (c : Nat) (k : Core) : (s.setCore c k).acted = s.acted := rfl
@[simp] theorem State.setCore_units (c : Nat) (k : Core) : (s.setCore c k).units = s.units := rfl
@[simp] theorem State.setCore_hostWaits (c : Nat) (k : Core) : (s.setCore c k).hostWaits = s.hostWaits := rfl
@[simp] theorem State.setCore_managed (c : Nat) (k : Core) : (s.setCore c k).managed = s.managed := rfl

/-! ## modCore -/

@[simp] theorem State.modCore_cfg (c : Nat) (f : Core → Core) : (s.modCore c f).cfg = s.cfg := rfl
@[simp] theorem State.modCore_cur (c : Nat) (f : Core → Core) : (s.modCore c f).cur = s.cur := rfl
@[simp] theorem State.modCore_agenda (c : Nat) (f : Core → Core) : (s.modCore c f).agenda = s.agenda := rfl
@[simp] theorem State.modCore_clk (c : Nat) (f : Core → Core) : (s.modCore c f).clk = s.clk := rfl
@[simp] theorem State.modCore_tai (c : Nat) (f : Core → Core) : (s.modCore c f).tai = s.tai := rfl
@[simp] theorem State.modCore_placed (c : Nat) (f : Core → Core) : (s.modCore c f).placed = s.placed := rfl
@[simp] theorem State.modCore_pooled (c : Nat) (f : Core → Core) : (s.modCore c f).pooled = s.pooled := rfl
@[simp] theorem State.modCore_host (c : Nat) (f : Core → Core) : (s.modCore c f).host = s.host := rfl
@[simp] theorem State.modCore_records (c : Nat) (f : Core → Core) : (s.modCore c f).records = s.records := rfl
@[simp] theorem State.modCore_l2 (c : Nat) (f : Core → Core) : (s.modCore c f).l2 = s.l2 := rfl
@[simp] theorem State.modCore_walked (c : Nat) (f : Core → Core) : (s.modCore c f).walked = s.walked := rfl
@[simp] theorem State.modCore_images (c : Nat) (f : Core → Core) : (s.modCore c f).images = s.images := rfl
@[simp] theorem State.modCore_parts (c : Nat) (f : Core → Core) : (s.modCore c f).parts = s.parts := rfl
@[simp] theorem State.modCore_porch (c : Nat) (f : Core → Core) : (s.modCore c f).porch = s.porch := rfl
@[simp] theorem State.modCore_jobs (c : Nat) (f : Core → Core) : (s.modCore c f).jobs = s.jobs := rfl
@[simp] theorem State.modCore_groups (c : Nat) (f : Core → Core) : (s.modCore c f).groups = s.groups := rfl
@[simp] theorem State.modCore_pendingActs (c : Nat) (f : Core → Core) : (s.modCore c f).pendingActs = s.pendingActs := rfl
@[simp] theorem State.modCore_kept (c : Nat) (f : Core → Core) : (s.modCore c f).kept = s.kept := rfl
@[simp] theorem State.modCore_arrSeq (c : Nat) (f : Core → Core) : (s.modCore c f).arrSeq = s.arrSeq := rfl
@[simp] theorem State.modCore_admSeq (c : Nat) (f : Core → Core) : (s.modCore c f).admSeq = s.admSeq := rfl
@[simp] theorem State.modCore_saved (c : Nat) (f : Core → Core) : (s.modCore c f).saved = s.saved := rfl
@[simp] theorem State.modCore_fabric (c : Nat) (f : Core → Core) : (s.modCore c f).fabric = s.fabric := rfl
@[simp] theorem State.modCore_servo (c : Nat) (f : Core → Core) : (s.modCore c f).servo = s.servo := rfl
@[simp] theorem State.modCore_power (c : Nat) (f : Core → Core) : (s.modCore c f).power = s.power := rfl
@[simp] theorem State.modCore_shafts (c : Nat) (f : Core → Core) : (s.modCore c f).shafts = s.shafts := rfl
@[simp] theorem State.modCore_swait (c : Nat) (f : Core → Core) : (s.modCore c f).swait = s.swait := rfl
@[simp] theorem State.modCore_debugger (c : Nat) (f : Core → Core) : (s.modCore c f).debugger = s.debugger := rfl
@[simp] theorem State.modCore_booted (c : Nat) (f : Core → Core) : (s.modCore c f).booted = s.booted := rfl
@[simp] theorem State.modCore_copyB (c : Nat) (f : Core → Core) : (s.modCore c f).copyB = s.copyB := rfl
@[simp] theorem State.modCore_bootFail (c : Nat) (f : Core → Core) : (s.modCore c f).bootFail = s.bootFail := rfl
@[simp] theorem State.modCore_measure (c : Nat) (f : Core → Core) : (s.modCore c f).measure = s.measure := rfl
@[simp] theorem State.modCore_stopped (c : Nat) (f : Core → Core) : (s.modCore c f).stopped = s.stopped := rfl
@[simp] theorem State.modCore_hostReads (c : Nat) (f : Core → Core) : (s.modCore c f).hostReads = s.hostReads := rfl
@[simp] theorem State.modCore_up (c : Nat) (f : Core → Core) : (s.modCore c f).up = s.up := rfl
@[simp] theorem State.modCore_bad (c : Nat) (f : Core → Core) : (s.modCore c f).bad = s.bad := rfl
@[simp] theorem State.modCore_swaps (c : Nat) (f : Core → Core) : (s.modCore c f).swaps = s.swaps := rfl
@[simp] theorem State.modCore_refused (c : Nat) (f : Core → Core) : (s.modCore c f).refused = s.refused := rfl
@[simp] theorem State.modCore_hostIn (c : Nat) (f : Core → Core) : (s.modCore c f).hostIn = s.hostIn := rfl
@[simp] theorem State.modCore_debugReads (c : Nat) (f : Core → Core) : (s.modCore c f).debugReads = s.debugReads := rfl
@[simp] theorem State.modCore_acted (c : Nat) (f : Core → Core) : (s.modCore c f).acted = s.acted := rfl
@[simp] theorem State.modCore_units (c : Nat) (f : Core → Core) : (s.modCore c f).units = s.units := rfl
@[simp] theorem State.modCore_hostWaits (c : Nat) (f : Core → Core) : (s.modCore c f).hostWaits = s.hostWaits := rfl
@[simp] theorem State.modCore_managed (c : Nat) (f : Core → Core) : (s.modCore c f).managed = s.managed := rfl

/-! ## setPorchQueue -/

@[simp] theorem State.setPorchQueue_cfg (q : Nat) (p : PorchQueue) : (s.setPorchQueue q p).cfg = s.cfg := rfl
@[simp] theorem State.setPorchQueue_cur (q : Nat) (p : PorchQueue) : (s.setPorchQueue q p).cur = s.cur := rfl
@[simp] theorem State.setPorchQueue_agenda (q : Nat) (p : PorchQueue) : (s.setPorchQueue q p).agenda = s.agenda := rfl
@[simp] theorem State.setPorchQueue_clk (q : Nat) (p : PorchQueue) : (s.setPorchQueue q p).clk = s.clk := rfl
@[simp] theorem State.setPorchQueue_tai (q : Nat) (p : PorchQueue) : (s.setPorchQueue q p).tai = s.tai := rfl
@[simp] theorem State.setPorchQueue_cores (q : Nat) (p : PorchQueue) : (s.setPorchQueue q p).cores = s.cores := rfl
@[simp] theorem State.setPorchQueue_placed (q : Nat) (p : PorchQueue) : (s.setPorchQueue q p).placed = s.placed := rfl
@[simp] theorem State.setPorchQueue_pooled (q : Nat) (p : PorchQueue) : (s.setPorchQueue q p).pooled = s.pooled := rfl
@[simp] theorem State.setPorchQueue_host (q : Nat) (p : PorchQueue) : (s.setPorchQueue q p).host = s.host := rfl
@[simp] theorem State.setPorchQueue_records (q : Nat) (p : PorchQueue) : (s.setPorchQueue q p).records = s.records := rfl
@[simp] theorem State.setPorchQueue_l2 (q : Nat) (p : PorchQueue) : (s.setPorchQueue q p).l2 = s.l2 := rfl
@[simp] theorem State.setPorchQueue_walked (q : Nat) (p : PorchQueue) : (s.setPorchQueue q p).walked = s.walked := rfl
@[simp] theorem State.setPorchQueue_images (q : Nat) (p : PorchQueue) : (s.setPorchQueue q p).images = s.images := rfl
@[simp] theorem State.setPorchQueue_parts (q : Nat) (p : PorchQueue) : (s.setPorchQueue q p).parts = s.parts := rfl
@[simp] theorem State.setPorchQueue_jobs (q : Nat) (p : PorchQueue) : (s.setPorchQueue q p).jobs = s.jobs := rfl
@[simp] theorem State.setPorchQueue_groups (q : Nat) (p : PorchQueue) : (s.setPorchQueue q p).groups = s.groups := rfl
@[simp] theorem State.setPorchQueue_pendingActs (q : Nat) (p : PorchQueue) : (s.setPorchQueue q p).pendingActs = s.pendingActs := rfl
@[simp] theorem State.setPorchQueue_kept (q : Nat) (p : PorchQueue) : (s.setPorchQueue q p).kept = s.kept := rfl
@[simp] theorem State.setPorchQueue_arrSeq (q : Nat) (p : PorchQueue) : (s.setPorchQueue q p).arrSeq = s.arrSeq := rfl
@[simp] theorem State.setPorchQueue_admSeq (q : Nat) (p : PorchQueue) : (s.setPorchQueue q p).admSeq = s.admSeq := rfl
@[simp] theorem State.setPorchQueue_saved (q : Nat) (p : PorchQueue) : (s.setPorchQueue q p).saved = s.saved := rfl
@[simp] theorem State.setPorchQueue_fabric (q : Nat) (p : PorchQueue) : (s.setPorchQueue q p).fabric = s.fabric := rfl
@[simp] theorem State.setPorchQueue_servo (q : Nat) (p : PorchQueue) : (s.setPorchQueue q p).servo = s.servo := rfl
@[simp] theorem State.setPorchQueue_power (q : Nat) (p : PorchQueue) : (s.setPorchQueue q p).power = s.power := rfl
@[simp] theorem State.setPorchQueue_shafts (q : Nat) (p : PorchQueue) : (s.setPorchQueue q p).shafts = s.shafts := rfl
@[simp] theorem State.setPorchQueue_swait (q : Nat) (p : PorchQueue) : (s.setPorchQueue q p).swait = s.swait := rfl
@[simp] theorem State.setPorchQueue_debugger (q : Nat) (p : PorchQueue) : (s.setPorchQueue q p).debugger = s.debugger := rfl
@[simp] theorem State.setPorchQueue_booted (q : Nat) (p : PorchQueue) : (s.setPorchQueue q p).booted = s.booted := rfl
@[simp] theorem State.setPorchQueue_copyB (q : Nat) (p : PorchQueue) : (s.setPorchQueue q p).copyB = s.copyB := rfl
@[simp] theorem State.setPorchQueue_bootFail (q : Nat) (p : PorchQueue) : (s.setPorchQueue q p).bootFail = s.bootFail := rfl
@[simp] theorem State.setPorchQueue_measure (q : Nat) (p : PorchQueue) : (s.setPorchQueue q p).measure = s.measure := rfl
@[simp] theorem State.setPorchQueue_stopped (q : Nat) (p : PorchQueue) : (s.setPorchQueue q p).stopped = s.stopped := rfl
@[simp] theorem State.setPorchQueue_hostReads (q : Nat) (p : PorchQueue) : (s.setPorchQueue q p).hostReads = s.hostReads := rfl
@[simp] theorem State.setPorchQueue_up (q : Nat) (p : PorchQueue) : (s.setPorchQueue q p).up = s.up := rfl
@[simp] theorem State.setPorchQueue_bad (q : Nat) (p : PorchQueue) : (s.setPorchQueue q p).bad = s.bad := rfl
@[simp] theorem State.setPorchQueue_swaps (q : Nat) (p : PorchQueue) : (s.setPorchQueue q p).swaps = s.swaps := rfl
@[simp] theorem State.setPorchQueue_refused (q : Nat) (p : PorchQueue) : (s.setPorchQueue q p).refused = s.refused := rfl
@[simp] theorem State.setPorchQueue_hostIn (q : Nat) (p : PorchQueue) : (s.setPorchQueue q p).hostIn = s.hostIn := rfl
@[simp] theorem State.setPorchQueue_debugReads (q : Nat) (p : PorchQueue) : (s.setPorchQueue q p).debugReads = s.debugReads := rfl
@[simp] theorem State.setPorchQueue_acted (q : Nat) (p : PorchQueue) : (s.setPorchQueue q p).acted = s.acted := rfl
@[simp] theorem State.setPorchQueue_units (q : Nat) (p : PorchQueue) : (s.setPorchQueue q p).units = s.units := rfl
@[simp] theorem State.setPorchQueue_hostWaits (q : Nat) (p : PorchQueue) : (s.setPorchQueue q p).hostWaits = s.hostWaits := rfl
@[simp] theorem State.setPorchQueue_managed (q : Nat) (p : PorchQueue) : (s.setPorchQueue q p).managed = s.managed := rfl

/-! ## setPart -/

@[simp] theorem State.setPart_cfg (p : Nat) (v : Part) : (s.setPart p v).cfg = s.cfg := rfl
@[simp] theorem State.setPart_cur (p : Nat) (v : Part) : (s.setPart p v).cur = s.cur := rfl
@[simp] theorem State.setPart_agenda (p : Nat) (v : Part) : (s.setPart p v).agenda = s.agenda := rfl
@[simp] theorem State.setPart_clk (p : Nat) (v : Part) : (s.setPart p v).clk = s.clk := rfl
@[simp] theorem State.setPart_tai (p : Nat) (v : Part) : (s.setPart p v).tai = s.tai := rfl
@[simp] theorem State.setPart_cores (p : Nat) (v : Part) : (s.setPart p v).cores = s.cores := rfl
@[simp] theorem State.setPart_placed (p : Nat) (v : Part) : (s.setPart p v).placed = s.placed := rfl
@[simp] theorem State.setPart_pooled (p : Nat) (v : Part) : (s.setPart p v).pooled = s.pooled := rfl
@[simp] theorem State.setPart_host (p : Nat) (v : Part) : (s.setPart p v).host = s.host := rfl
@[simp] theorem State.setPart_records (p : Nat) (v : Part) : (s.setPart p v).records = s.records := rfl
@[simp] theorem State.setPart_l2 (p : Nat) (v : Part) : (s.setPart p v).l2 = s.l2 := rfl
@[simp] theorem State.setPart_walked (p : Nat) (v : Part) : (s.setPart p v).walked = s.walked := rfl
@[simp] theorem State.setPart_images (p : Nat) (v : Part) : (s.setPart p v).images = s.images := rfl
@[simp] theorem State.setPart_porch (p : Nat) (v : Part) : (s.setPart p v).porch = s.porch := rfl
@[simp] theorem State.setPart_jobs (p : Nat) (v : Part) : (s.setPart p v).jobs = s.jobs := rfl
@[simp] theorem State.setPart_groups (p : Nat) (v : Part) : (s.setPart p v).groups = s.groups := rfl
@[simp] theorem State.setPart_pendingActs (p : Nat) (v : Part) : (s.setPart p v).pendingActs = s.pendingActs := rfl
@[simp] theorem State.setPart_kept (p : Nat) (v : Part) : (s.setPart p v).kept = s.kept := rfl
@[simp] theorem State.setPart_arrSeq (p : Nat) (v : Part) : (s.setPart p v).arrSeq = s.arrSeq := rfl
@[simp] theorem State.setPart_admSeq (p : Nat) (v : Part) : (s.setPart p v).admSeq = s.admSeq := rfl
@[simp] theorem State.setPart_saved (p : Nat) (v : Part) : (s.setPart p v).saved = s.saved := rfl
@[simp] theorem State.setPart_fabric (p : Nat) (v : Part) : (s.setPart p v).fabric = s.fabric := rfl
@[simp] theorem State.setPart_servo (p : Nat) (v : Part) : (s.setPart p v).servo = s.servo := rfl
@[simp] theorem State.setPart_power (p : Nat) (v : Part) : (s.setPart p v).power = s.power := rfl
@[simp] theorem State.setPart_shafts (p : Nat) (v : Part) : (s.setPart p v).shafts = s.shafts := rfl
@[simp] theorem State.setPart_swait (p : Nat) (v : Part) : (s.setPart p v).swait = s.swait := rfl
@[simp] theorem State.setPart_debugger (p : Nat) (v : Part) : (s.setPart p v).debugger = s.debugger := rfl
@[simp] theorem State.setPart_booted (p : Nat) (v : Part) : (s.setPart p v).booted = s.booted := rfl
@[simp] theorem State.setPart_copyB (p : Nat) (v : Part) : (s.setPart p v).copyB = s.copyB := rfl
@[simp] theorem State.setPart_bootFail (p : Nat) (v : Part) : (s.setPart p v).bootFail = s.bootFail := rfl
@[simp] theorem State.setPart_measure (p : Nat) (v : Part) : (s.setPart p v).measure = s.measure := rfl
@[simp] theorem State.setPart_stopped (p : Nat) (v : Part) : (s.setPart p v).stopped = s.stopped := rfl
@[simp] theorem State.setPart_hostReads (p : Nat) (v : Part) : (s.setPart p v).hostReads = s.hostReads := rfl
@[simp] theorem State.setPart_up (p : Nat) (v : Part) : (s.setPart p v).up = s.up := rfl
@[simp] theorem State.setPart_bad (p : Nat) (v : Part) : (s.setPart p v).bad = s.bad := rfl
@[simp] theorem State.setPart_swaps (p : Nat) (v : Part) : (s.setPart p v).swaps = s.swaps := rfl
@[simp] theorem State.setPart_refused (p : Nat) (v : Part) : (s.setPart p v).refused = s.refused := rfl
@[simp] theorem State.setPart_hostIn (p : Nat) (v : Part) : (s.setPart p v).hostIn = s.hostIn := rfl
@[simp] theorem State.setPart_debugReads (p : Nat) (v : Part) : (s.setPart p v).debugReads = s.debugReads := rfl
@[simp] theorem State.setPart_acted (p : Nat) (v : Part) : (s.setPart p v).acted = s.acted := rfl
@[simp] theorem State.setPart_units (p : Nat) (v : Part) : (s.setPart p v).units = s.units := rfl
@[simp] theorem State.setPart_hostWaits (p : Nat) (v : Part) : (s.setPart p v).hostWaits = s.hostWaits := rfl
@[simp] theorem State.setPart_managed (p : Nat) (v : Part) : (s.setPart p v).managed = s.managed := rfl

/-! ## setGroup -/

@[simp] theorem State.setGroup_cfg (g : Nat) (v : Group) : (s.setGroup g v).cfg = s.cfg := rfl
@[simp] theorem State.setGroup_cur (g : Nat) (v : Group) : (s.setGroup g v).cur = s.cur := rfl
@[simp] theorem State.setGroup_agenda (g : Nat) (v : Group) : (s.setGroup g v).agenda = s.agenda := rfl
@[simp] theorem State.setGroup_clk (g : Nat) (v : Group) : (s.setGroup g v).clk = s.clk := rfl
@[simp] theorem State.setGroup_tai (g : Nat) (v : Group) : (s.setGroup g v).tai = s.tai := rfl
@[simp] theorem State.setGroup_cores (g : Nat) (v : Group) : (s.setGroup g v).cores = s.cores := rfl
@[simp] theorem State.setGroup_placed (g : Nat) (v : Group) : (s.setGroup g v).placed = s.placed := rfl
@[simp] theorem State.setGroup_pooled (g : Nat) (v : Group) : (s.setGroup g v).pooled = s.pooled := rfl
@[simp] theorem State.setGroup_host (g : Nat) (v : Group) : (s.setGroup g v).host = s.host := rfl
@[simp] theorem State.setGroup_records (g : Nat) (v : Group) : (s.setGroup g v).records = s.records := rfl
@[simp] theorem State.setGroup_l2 (g : Nat) (v : Group) : (s.setGroup g v).l2 = s.l2 := rfl
@[simp] theorem State.setGroup_walked (g : Nat) (v : Group) : (s.setGroup g v).walked = s.walked := rfl
@[simp] theorem State.setGroup_images (g : Nat) (v : Group) : (s.setGroup g v).images = s.images := rfl
@[simp] theorem State.setGroup_parts (g : Nat) (v : Group) : (s.setGroup g v).parts = s.parts := rfl
@[simp] theorem State.setGroup_porch (g : Nat) (v : Group) : (s.setGroup g v).porch = s.porch := rfl
@[simp] theorem State.setGroup_jobs (g : Nat) (v : Group) : (s.setGroup g v).jobs = s.jobs := rfl
@[simp] theorem State.setGroup_pendingActs (g : Nat) (v : Group) : (s.setGroup g v).pendingActs = s.pendingActs := rfl
@[simp] theorem State.setGroup_kept (g : Nat) (v : Group) : (s.setGroup g v).kept = s.kept := rfl
@[simp] theorem State.setGroup_arrSeq (g : Nat) (v : Group) : (s.setGroup g v).arrSeq = s.arrSeq := rfl
@[simp] theorem State.setGroup_admSeq (g : Nat) (v : Group) : (s.setGroup g v).admSeq = s.admSeq := rfl
@[simp] theorem State.setGroup_saved (g : Nat) (v : Group) : (s.setGroup g v).saved = s.saved := rfl
@[simp] theorem State.setGroup_fabric (g : Nat) (v : Group) : (s.setGroup g v).fabric = s.fabric := rfl
@[simp] theorem State.setGroup_servo (g : Nat) (v : Group) : (s.setGroup g v).servo = s.servo := rfl
@[simp] theorem State.setGroup_power (g : Nat) (v : Group) : (s.setGroup g v).power = s.power := rfl
@[simp] theorem State.setGroup_shafts (g : Nat) (v : Group) : (s.setGroup g v).shafts = s.shafts := rfl
@[simp] theorem State.setGroup_swait (g : Nat) (v : Group) : (s.setGroup g v).swait = s.swait := rfl
@[simp] theorem State.setGroup_debugger (g : Nat) (v : Group) : (s.setGroup g v).debugger = s.debugger := rfl
@[simp] theorem State.setGroup_booted (g : Nat) (v : Group) : (s.setGroup g v).booted = s.booted := rfl
@[simp] theorem State.setGroup_copyB (g : Nat) (v : Group) : (s.setGroup g v).copyB = s.copyB := rfl
@[simp] theorem State.setGroup_bootFail (g : Nat) (v : Group) : (s.setGroup g v).bootFail = s.bootFail := rfl
@[simp] theorem State.setGroup_measure (g : Nat) (v : Group) : (s.setGroup g v).measure = s.measure := rfl
@[simp] theorem State.setGroup_stopped (g : Nat) (v : Group) : (s.setGroup g v).stopped = s.stopped := rfl
@[simp] theorem State.setGroup_hostReads (g : Nat) (v : Group) : (s.setGroup g v).hostReads = s.hostReads := rfl
@[simp] theorem State.setGroup_up (g : Nat) (v : Group) : (s.setGroup g v).up = s.up := rfl
@[simp] theorem State.setGroup_bad (g : Nat) (v : Group) : (s.setGroup g v).bad = s.bad := rfl
@[simp] theorem State.setGroup_swaps (g : Nat) (v : Group) : (s.setGroup g v).swaps = s.swaps := rfl
@[simp] theorem State.setGroup_refused (g : Nat) (v : Group) : (s.setGroup g v).refused = s.refused := rfl
@[simp] theorem State.setGroup_hostIn (g : Nat) (v : Group) : (s.setGroup g v).hostIn = s.hostIn := rfl
@[simp] theorem State.setGroup_debugReads (g : Nat) (v : Group) : (s.setGroup g v).debugReads = s.debugReads := rfl
@[simp] theorem State.setGroup_acted (g : Nat) (v : Group) : (s.setGroup g v).acted = s.acted := rfl
@[simp] theorem State.setGroup_units (g : Nat) (v : Group) : (s.setGroup g v).units = s.units := rfl
@[simp] theorem State.setGroup_hostWaits (g : Nat) (v : Group) : (s.setGroup g v).hostWaits = s.hostWaits := rfl
@[simp] theorem State.setGroup_managed (g : Nat) (v : Group) : (s.setGroup g v).managed = s.managed := rfl

/-! ## Cores -/

@[simp] theorem State.core_setCore_same (c : Nat) (k : Core) : (s.setCore c k).core c = k := by
  simp [State.core, State.setCore]
theorem State.core_setCore (c d : Nat) (k : Core) : (s.setCore c k).core d = if c = d then k else s.core d := by
  simp [State.core, State.setCore, Cells.get_set]
theorem State.core_setCore_ne {c d : Nat} (k : Core) (h : c ≠ d) : (s.setCore c k).core d = s.core d := by
  simp [State.core_setCore, h]
@[simp] theorem State.core_modCore_same (c : Nat) (f : Core → Core) : (s.modCore c f).core c = f (s.core c) := by
  simp [State.modCore]
theorem State.core_modCore (c d : Nat) (f : Core → Core) : (s.modCore c f).core d = if c = d then f (s.core c) else s.core d := by
  simp [State.modCore, State.core_setCore]
@[simp] theorem State.setCore_setCore (c : Nat) (k l : Core) : (s.setCore c k).setCore c l = s.setCore c l := by
  simp [State.setCore]
@[simp] theorem State.modCore_modCore (c : Nat) (f g : Core → Core) : (s.modCore c f).modCore c g = s.modCore c (fun k => g (f k)) := by
  simp [State.modCore]
@[simp] theorem State.setCore_modCore (c : Nat) (k : Core) (g : Core → Core) : (s.setCore c k).modCore c g = s.setCore c (g k) := by
  simp [State.modCore]
@[simp] theorem State.porchQueue_set_same (q : Nat) (p : PorchQueue) : (s.setPorchQueue q p).porchQueue q = p := by
  simp [State.porchQueue, State.setPorchQueue]
@[simp] theorem State.setPorchQueue_setPorchQueue (q : Nat) (p r : PorchQueue) :
    (s.setPorchQueue q p).setPorchQueue q r = s.setPorchQueue q r := by
  simp [State.setPorchQueue]
@[simp] theorem State.part_set_same (q : Nat) (p : Part) : (s.setPart q p).part q = p := by simp [State.part, State.setPart]
@[simp] theorem State.group_set_same (g : Nat) (v : Group) : (s.setGroup g v).group g = v := by
  simp [State.group, State.setGroup]

@[simp] theorem State.porchQueue_setCore (c q : Nat) (k : Core) : (s.setCore c k).porchQueue q = s.porchQueue q := rfl
@[simp] theorem State.porchQueue_modCore (c q : Nat) (f : Core → Core) : (s.modCore c f).porchQueue q = s.porchQueue q := rfl
@[simp] theorem State.part_setCore (c q : Nat) (k : Core) : (s.setCore c k).part q = s.part q := rfl
@[simp] theorem State.part_modCore (c q : Nat) (f : Core → Core) : (s.modCore c f).part q = s.part q := rfl
@[simp] theorem State.core_setPorchQueue (q c : Nat) (p : PorchQueue) : (s.setPorchQueue q p).core c = s.core c := rfl
@[simp] theorem State.core_setPart (q c : Nat) (p : Part) : (s.setPart q p).core c = s.core c := rfl
@[simp] theorem State.core_setGroup (q c : Nat) (p : Group) : (s.setGroup q p).core c = s.core c := rfl
@[simp] theorem State.porchQueue_setPart (q c : Nat) (p : Part) : (s.setPart q p).porchQueue c = s.porchQueue c := rfl
@[simp] theorem State.group_setCore (c q : Nat) (k : Core) : (s.setCore c k).group q = s.group q := rfl
@[simp] theorem State.group_modCore (c q : Nat) (f : Core → Core) : (s.modCore c f).group q = s.group q := rfl

@[simp] theorem Core.strand_set_same (k : Core) (i : Nat) (t : Strand) : (k.setStrand i t).strand i = t := by
  simp [Core.strand, Core.setStrand]
theorem Core.strand_set_ne (k : Core) {i j : Nat} (t : Strand) (h : i ≠ j) : (k.setStrand i t).strand j = k.strand j := by
  simp [Core.strand, Core.setStrand, Cells.get_set, h]
@[simp] theorem Core.setStrand_setStrand (k : Core) (i : Nat) (t u : Strand) : (k.setStrand i t).setStrand i u = k.setStrand i u := by
  simp [Core.setStrand]
@[simp] theorem Core.ring_set_same (k : Core) (q : Nat) (r : Ring) : (k.setRing q r).ring q = r := by
  simp [Core.ring, Core.setRing]
theorem Core.ring_set_ne (k : Core) {q p : Nat} (r : Ring) (h : q ≠ p) : (k.setRing q r).ring p = k.ring p := by
  simp [Core.ring, Core.setRing, Cells.get_set, h]
@[simp] theorem Core.queue_set_same (k : Core) (q : Nat) (u : Queue) : (k.setQueue q u).queue q = u := by
  simp [Core.queue, Core.setQueue]
theorem Core.queue_set_ne (k : Core) {q p : Nat} (u : Queue) (h : q ≠ p) : (k.setQueue q u).queue p = k.queue p := by
  simp [Core.queue, Core.setQueue, Cells.get_set, h]
@[simp] theorem Core.setQueue_setQueue (k : Core) (i : Nat) (t u : Queue) : (k.setQueue i t).setQueue i u = k.setQueue i u := by
  simp [Core.setQueue]
@[simp] theorem Core.array_set_same (k : Core) (a : Nat) (u : ArrayUnit) : (k.setArray a u).array a = u := by
  simp [Core.array, Core.setArray]
theorem Core.array_set_ne (k : Core) {a b : Nat} (u : ArrayUnit) (h : a ≠ b) : (k.setArray a u).array b = k.array b := by
  simp [Core.array, Core.setArray, Cells.get_set, h]

@[simp] theorem Core.setStrand_holder (k : Core) (i : Nat) (t : Strand) : (k.setStrand i t).holder = k.holder := rfl
@[simp] theorem Core.setStrand_rr (k : Core) (i : Nat) (t : Strand) : (k.setStrand i t).rr = k.rr := rfl
@[simp] theorem Core.setStrand_vfile (k : Core) (i : Nat) (t : Strand) : (k.setStrand i t).vfile = k.vfile := rfl
@[simp] theorem Core.setStrand_rings (k : Core) (i : Nat) (t : Strand) : (k.setStrand i t).rings = k.rings := rfl
@[simp] theorem Core.setStrand_queues (k : Core) (i : Nat) (t : Strand) : (k.setStrand i t).queues = k.queues := rfl
@[simp] theorem Core.setStrand_scratch (k : Core) (i : Nat) (t : Strand) : (k.setStrand i t).scratch = k.scratch := rfl
@[simp] theorem Core.setStrand_arrays (k : Core) (i : Nat) (t : Strand) : (k.setStrand i t).arrays = k.arrays := rfl
@[simp] theorem Core.setStrand_rows (k : Core) (i : Nat) (t : Strand) : (k.setStrand i t).rows = k.rows := rfl
@[simp] theorem Core.setStrand_stage (k : Core) (i : Nat) (t : Strand) : (k.setStrand i t).stage = k.stage := rfl
@[simp] theorem Core.setStrand_arrivals (k : Core) (i : Nat) (t : Strand) : (k.setStrand i t).arrivals = k.arrivals := rfl
@[simp] theorem Core.setStrand_smax (k : Core) (i : Nat) (t : Strand) : (k.setStrand i t).smax = k.smax := rfl
@[simp] theorem Core.setStrand_pass (k : Core) (i : Nat) (t : Strand) : (k.setStrand i t).pass = k.pass := rfl
@[simp] theorem Core.setStrand_deliveries (k : Core) (i : Nat) (t : Strand) : (k.setStrand i t).deliveries = k.deliveries := rfl
@[simp] theorem Core.setStrand_lstat (k : Core) (i : Nat) (t : Strand) : (k.setStrand i t).lstat = k.lstat := rfl
@[simp] theorem Core.setStrand_lempty (k : Core) (i : Nat) (t : Strand) : (k.setStrand i t).lempty = k.lempty := rfl
@[simp] theorem Core.setStrand_vstat (k : Core) (i : Nat) (t : Strand) : (k.setStrand i t).vstat = k.vstat := rfl
@[simp] theorem Core.setStrand_fxstat (k : Core) (i : Nat) (t : Strand) : (k.setStrand i t).fxstat = k.fxstat := rfl
@[simp] theorem Core.setStrand_dbg (k : Core) (i : Nat) (t : Strand) : (k.setStrand i t).dbg = k.dbg := rfl
@[simp] theorem Core.setStrand_l1 (k : Core) (i : Nat) (t : Strand) : (k.setStrand i t).l1 = k.l1 := rfl
@[simp] theorem Core.setStrand_active (k : Core) (i : Nat) (t : Strand) : (k.setStrand i t).active = k.active := rfl
@[simp] theorem Core.setStrand_shadow (k : Core) (i : Nat) (t : Strand) : (k.setStrand i t).shadow = k.shadow := rfl
@[simp] theorem Core.setStrand_token (k : Core) (i : Nat) (t : Strand) : (k.setStrand i t).token = k.token := rfl
@[simp] theorem Core.setStrand_fenced (k : Core) (i : Nat) (t : Strand) : (k.setStrand i t).fenced = k.fenced := rfl
@[simp] theorem Core.setStrand_opFault (k : Core) (i : Nat) (t : Strand) : (k.setStrand i t).opFault = k.opFault := rfl
@[simp] theorem Core.setRing_strands (k : Core) (q : Nat) (r : Ring) : (k.setRing q r).strands = k.strands := rfl
@[simp] theorem Core.setRing_holder (k : Core) (q : Nat) (r : Ring) : (k.setRing q r).holder = k.holder := rfl
@[simp] theorem Core.setRing_rr (k : Core) (q : Nat) (r : Ring) : (k.setRing q r).rr = k.rr := rfl
@[simp] theorem Core.setRing_vfile (k : Core) (q : Nat) (r : Ring) : (k.setRing q r).vfile = k.vfile := rfl
@[simp] theorem Core.setRing_queues (k : Core) (q : Nat) (r : Ring) : (k.setRing q r).queues = k.queues := rfl
@[simp] theorem Core.setRing_scratch (k : Core) (q : Nat) (r : Ring) : (k.setRing q r).scratch = k.scratch := rfl
@[simp] theorem Core.setRing_arrays (k : Core) (q : Nat) (r : Ring) : (k.setRing q r).arrays = k.arrays := rfl
@[simp] theorem Core.setRing_rows (k : Core) (q : Nat) (r : Ring) : (k.setRing q r).rows = k.rows := rfl
@[simp] theorem Core.setRing_stage (k : Core) (q : Nat) (r : Ring) : (k.setRing q r).stage = k.stage := rfl
@[simp] theorem Core.setRing_arrivals (k : Core) (q : Nat) (r : Ring) : (k.setRing q r).arrivals = k.arrivals := rfl
@[simp] theorem Core.setRing_smax (k : Core) (q : Nat) (r : Ring) : (k.setRing q r).smax = k.smax := rfl
@[simp] theorem Core.setRing_pass (k : Core) (q : Nat) (r : Ring) : (k.setRing q r).pass = k.pass := rfl
@[simp] theorem Core.setRing_deliveries (k : Core) (q : Nat) (r : Ring) : (k.setRing q r).deliveries = k.deliveries := rfl
@[simp] theorem Core.setRing_lstat (k : Core) (q : Nat) (r : Ring) : (k.setRing q r).lstat = k.lstat := rfl
@[simp] theorem Core.setRing_lempty (k : Core) (q : Nat) (r : Ring) : (k.setRing q r).lempty = k.lempty := rfl
@[simp] theorem Core.setRing_vstat (k : Core) (q : Nat) (r : Ring) : (k.setRing q r).vstat = k.vstat := rfl
@[simp] theorem Core.setRing_fxstat (k : Core) (q : Nat) (r : Ring) : (k.setRing q r).fxstat = k.fxstat := rfl
@[simp] theorem Core.setRing_dbg (k : Core) (q : Nat) (r : Ring) : (k.setRing q r).dbg = k.dbg := rfl
@[simp] theorem Core.setRing_l1 (k : Core) (q : Nat) (r : Ring) : (k.setRing q r).l1 = k.l1 := rfl
@[simp] theorem Core.setRing_active (k : Core) (q : Nat) (r : Ring) : (k.setRing q r).active = k.active := rfl
@[simp] theorem Core.setRing_shadow (k : Core) (q : Nat) (r : Ring) : (k.setRing q r).shadow = k.shadow := rfl
@[simp] theorem Core.setRing_token (k : Core) (q : Nat) (r : Ring) : (k.setRing q r).token = k.token := rfl
@[simp] theorem Core.setRing_fenced (k : Core) (q : Nat) (r : Ring) : (k.setRing q r).fenced = k.fenced := rfl
@[simp] theorem Core.setRing_opFault (k : Core) (q : Nat) (r : Ring) : (k.setRing q r).opFault = k.opFault := rfl
@[simp] theorem Core.setQueue_strands (k : Core) (q : Nat) (u : Queue) : (k.setQueue q u).strands = k.strands := rfl
@[simp] theorem Core.setQueue_holder (k : Core) (q : Nat) (u : Queue) : (k.setQueue q u).holder = k.holder := rfl
@[simp] theorem Core.setQueue_rr (k : Core) (q : Nat) (u : Queue) : (k.setQueue q u).rr = k.rr := rfl
@[simp] theorem Core.setQueue_vfile (k : Core) (q : Nat) (u : Queue) : (k.setQueue q u).vfile = k.vfile := rfl
@[simp] theorem Core.setQueue_rings (k : Core) (q : Nat) (u : Queue) : (k.setQueue q u).rings = k.rings := rfl
@[simp] theorem Core.setQueue_scratch (k : Core) (q : Nat) (u : Queue) : (k.setQueue q u).scratch = k.scratch := rfl
@[simp] theorem Core.setQueue_arrays (k : Core) (q : Nat) (u : Queue) : (k.setQueue q u).arrays = k.arrays := rfl
@[simp] theorem Core.setQueue_rows (k : Core) (q : Nat) (u : Queue) : (k.setQueue q u).rows = k.rows := rfl
@[simp] theorem Core.setQueue_stage (k : Core) (q : Nat) (u : Queue) : (k.setQueue q u).stage = k.stage := rfl
@[simp] theorem Core.setQueue_arrivals (k : Core) (q : Nat) (u : Queue) : (k.setQueue q u).arrivals = k.arrivals := rfl
@[simp] theorem Core.setQueue_smax (k : Core) (q : Nat) (u : Queue) : (k.setQueue q u).smax = k.smax := rfl
@[simp] theorem Core.setQueue_pass (k : Core) (q : Nat) (u : Queue) : (k.setQueue q u).pass = k.pass := rfl
@[simp] theorem Core.setQueue_deliveries (k : Core) (q : Nat) (u : Queue) : (k.setQueue q u).deliveries = k.deliveries := rfl
@[simp] theorem Core.setQueue_lstat (k : Core) (q : Nat) (u : Queue) : (k.setQueue q u).lstat = k.lstat := rfl
@[simp] theorem Core.setQueue_lempty (k : Core) (q : Nat) (u : Queue) : (k.setQueue q u).lempty = k.lempty := rfl
@[simp] theorem Core.setQueue_vstat (k : Core) (q : Nat) (u : Queue) : (k.setQueue q u).vstat = k.vstat := rfl
@[simp] theorem Core.setQueue_fxstat (k : Core) (q : Nat) (u : Queue) : (k.setQueue q u).fxstat = k.fxstat := rfl
@[simp] theorem Core.setQueue_dbg (k : Core) (q : Nat) (u : Queue) : (k.setQueue q u).dbg = k.dbg := rfl
@[simp] theorem Core.setQueue_l1 (k : Core) (q : Nat) (u : Queue) : (k.setQueue q u).l1 = k.l1 := rfl
@[simp] theorem Core.setQueue_active (k : Core) (q : Nat) (u : Queue) : (k.setQueue q u).active = k.active := rfl
@[simp] theorem Core.setQueue_shadow (k : Core) (q : Nat) (u : Queue) : (k.setQueue q u).shadow = k.shadow := rfl
@[simp] theorem Core.setQueue_token (k : Core) (q : Nat) (u : Queue) : (k.setQueue q u).token = k.token := rfl
@[simp] theorem Core.setQueue_fenced (k : Core) (q : Nat) (u : Queue) : (k.setQueue q u).fenced = k.fenced := rfl
@[simp] theorem Core.setQueue_opFault (k : Core) (q : Nat) (u : Queue) : (k.setQueue q u).opFault = k.opFault := rfl
@[simp] theorem Core.setArray_strands (k : Core) (a : Nat) (u : ArrayUnit) : (k.setArray a u).strands = k.strands := rfl
@[simp] theorem Core.setArray_holder (k : Core) (a : Nat) (u : ArrayUnit) : (k.setArray a u).holder = k.holder := rfl
@[simp] theorem Core.setArray_rr (k : Core) (a : Nat) (u : ArrayUnit) : (k.setArray a u).rr = k.rr := rfl
@[simp] theorem Core.setArray_vfile (k : Core) (a : Nat) (u : ArrayUnit) : (k.setArray a u).vfile = k.vfile := rfl
@[simp] theorem Core.setArray_rings (k : Core) (a : Nat) (u : ArrayUnit) : (k.setArray a u).rings = k.rings := rfl
@[simp] theorem Core.setArray_queues (k : Core) (a : Nat) (u : ArrayUnit) : (k.setArray a u).queues = k.queues := rfl
@[simp] theorem Core.setArray_scratch (k : Core) (a : Nat) (u : ArrayUnit) : (k.setArray a u).scratch = k.scratch := rfl
@[simp] theorem Core.setArray_rows (k : Core) (a : Nat) (u : ArrayUnit) : (k.setArray a u).rows = k.rows := rfl
@[simp] theorem Core.setArray_stage (k : Core) (a : Nat) (u : ArrayUnit) : (k.setArray a u).stage = k.stage := rfl
@[simp] theorem Core.setArray_arrivals (k : Core) (a : Nat) (u : ArrayUnit) : (k.setArray a u).arrivals = k.arrivals := rfl
@[simp] theorem Core.setArray_smax (k : Core) (a : Nat) (u : ArrayUnit) : (k.setArray a u).smax = k.smax := rfl
@[simp] theorem Core.setArray_pass (k : Core) (a : Nat) (u : ArrayUnit) : (k.setArray a u).pass = k.pass := rfl
@[simp] theorem Core.setArray_deliveries (k : Core) (a : Nat) (u : ArrayUnit) : (k.setArray a u).deliveries = k.deliveries := rfl
@[simp] theorem Core.setArray_lstat (k : Core) (a : Nat) (u : ArrayUnit) : (k.setArray a u).lstat = k.lstat := rfl
@[simp] theorem Core.setArray_lempty (k : Core) (a : Nat) (u : ArrayUnit) : (k.setArray a u).lempty = k.lempty := rfl
@[simp] theorem Core.setArray_vstat (k : Core) (a : Nat) (u : ArrayUnit) : (k.setArray a u).vstat = k.vstat := rfl
@[simp] theorem Core.setArray_fxstat (k : Core) (a : Nat) (u : ArrayUnit) : (k.setArray a u).fxstat = k.fxstat := rfl
@[simp] theorem Core.setArray_dbg (k : Core) (a : Nat) (u : ArrayUnit) : (k.setArray a u).dbg = k.dbg := rfl
@[simp] theorem Core.setArray_l1 (k : Core) (a : Nat) (u : ArrayUnit) : (k.setArray a u).l1 = k.l1 := rfl
@[simp] theorem Core.setArray_active (k : Core) (a : Nat) (u : ArrayUnit) : (k.setArray a u).active = k.active := rfl
@[simp] theorem Core.setArray_shadow (k : Core) (a : Nat) (u : ArrayUnit) : (k.setArray a u).shadow = k.shadow := rfl
@[simp] theorem Core.setArray_token (k : Core) (a : Nat) (u : ArrayUnit) : (k.setArray a u).token = k.token := rfl
@[simp] theorem Core.setArray_fenced (k : Core) (a : Nat) (u : ArrayUnit) : (k.setArray a u).fenced = k.fenced := rfl
@[simp] theorem Core.setArray_opFault (k : Core) (a : Nat) (u : ArrayUnit) : (k.setArray a u).opFault = k.opFault := rfl

@[simp] theorem Core.queue_setStrand (k : Core) (i q : Nat) (t : Strand) : (k.setStrand i t).queue q = k.queue q := rfl
@[simp] theorem Core.ring_setStrand (k : Core) (i q : Nat) (t : Strand) : (k.setStrand i t).ring q = k.ring q := rfl
@[simp] theorem Core.array_setStrand (k : Core) (i q : Nat) (t : Strand) : (k.setStrand i t).array q = k.array q := rfl
@[simp] theorem Core.strand_setRing (k : Core) (q i : Nat) (r : Ring) : (k.setRing q r).strand i = k.strand i := rfl
@[simp] theorem Core.queue_setRing (k : Core) (q i : Nat) (r : Ring) : (k.setRing q r).queue i = k.queue i := rfl
@[simp] theorem Core.array_setRing (k : Core) (q i : Nat) (r : Ring) : (k.setRing q r).array i = k.array i := rfl
@[simp] theorem Core.strand_setQueue (k : Core) (q i : Nat) (r : Queue) : (k.setQueue q r).strand i = k.strand i := rfl
@[simp] theorem Core.ring_setQueue (k : Core) (q i : Nat) (r : Queue) : (k.setQueue q r).ring i = k.ring i := rfl
@[simp] theorem Core.array_setQueue (k : Core) (q i : Nat) (r : Queue) : (k.setQueue q r).array i = k.array i := rfl
@[simp] theorem Core.strand_setArray (k : Core) (q i : Nat) (r : ArrayUnit) : (k.setArray q r).strand i = k.strand i := rfl
@[simp] theorem Core.ring_setArray (k : Core) (q i : Nat) (r : ArrayUnit) : (k.setArray q r).ring i = k.ring i := rfl
@[simp] theorem Core.queue_setArray (k : Core) (q i : Nat) (r : ArrayUnit) : (k.setArray q r).queue i = k.queue i := rfl

/-! ## The current agent -/

@[simp] theorem State.cur_setStrandOf (a : Agent) (t : Strand) : (s.setStrandOf a t).cur = s.cur := by
  cases a <;> rfl
@[simp] theorem State.strandOf_set_same (a : Agent) (t : Strand) : (s.setStrandOf a t).strandOf a = t := by
  cases a <;> simp [State.strandOf, State.setStrandOf]
@[simp] theorem State.setStrandOf_set (a : Agent) (t u : Strand) : (s.setStrandOf a t).setStrandOf a u = s.setStrandOf a u := by
  cases a <;> simp [State.setStrandOf]
@[simp] theorem State.cur_setMe (t : Strand) : (s.setMe t).cur = s.cur := by simp [State.setMe]
@[simp] theorem State.me_setMe (t : Strand) : (s.setMe t).me = t := by simp [State.me, State.setMe]
@[simp] theorem State.setMe_setMe (t u : Strand) : (s.setMe t).setMe u = s.setMe u := by simp [State.setMe]
@[simp] theorem State.modMe_eq (f : Strand → Strand) : s.modMe f = s.setMe (f s.me) := rfl
@[simp] theorem State.isPorch_setMe (t : Strand) : (s.setMe t).isPorch = s.isPorch := by simp [State.isPorch]
@[simp] theorem State.myCore_setMe (t : Strand) : (s.setMe t).myCore = s.myCore := by simp [State.myCore]
@[simp] theorem State.myStrand_setMe (t : Strand) : (s.setMe t).myStrand = s.myStrand := by simp [State.myStrand]

@[simp] theorem State.setMe_cfg (t : Strand) : (s.setMe t).cfg = s.cfg := by
  cases h : s.cur <;> simp [State.setMe, State.setStrandOf, h]
@[simp] theorem State.setMe_agenda (t : Strand) : (s.setMe t).agenda = s.agenda := by
  cases h : s.cur <;> simp [State.setMe, State.setStrandOf, h]
@[simp] theorem State.setMe_clk (t : Strand) : (s.setMe t).clk = s.clk := by
  cases h : s.cur <;> simp [State.setMe, State.setStrandOf, h]
@[simp] theorem State.setMe_tai (t : Strand) : (s.setMe t).tai = s.tai := by
  cases h : s.cur <;> simp [State.setMe, State.setStrandOf, h]
@[simp] theorem State.setMe_placed (t : Strand) : (s.setMe t).placed = s.placed := by
  cases h : s.cur <;> simp [State.setMe, State.setStrandOf, h]
@[simp] theorem State.setMe_pooled (t : Strand) : (s.setMe t).pooled = s.pooled := by
  cases h : s.cur <;> simp [State.setMe, State.setStrandOf, h]
@[simp] theorem State.setMe_host (t : Strand) : (s.setMe t).host = s.host := by
  cases h : s.cur <;> simp [State.setMe, State.setStrandOf, h]
@[simp] theorem State.setMe_records (t : Strand) : (s.setMe t).records = s.records := by
  cases h : s.cur <;> simp [State.setMe, State.setStrandOf, h]
@[simp] theorem State.setMe_l2 (t : Strand) : (s.setMe t).l2 = s.l2 := by
  cases h : s.cur <;> simp [State.setMe, State.setStrandOf, h]
@[simp] theorem State.setMe_walked (t : Strand) : (s.setMe t).walked = s.walked := by
  cases h : s.cur <;> simp [State.setMe, State.setStrandOf, h]
@[simp] theorem State.setMe_images (t : Strand) : (s.setMe t).images = s.images := by
  cases h : s.cur <;> simp [State.setMe, State.setStrandOf, h]
@[simp] theorem State.setMe_parts (t : Strand) : (s.setMe t).parts = s.parts := by
  cases h : s.cur <;> simp [State.setMe, State.setStrandOf, h]
@[simp] theorem State.setMe_jobs (t : Strand) : (s.setMe t).jobs = s.jobs := by
  cases h : s.cur <;> simp [State.setMe, State.setStrandOf, h]
@[simp] theorem State.setMe_groups (t : Strand) : (s.setMe t).groups = s.groups := by
  cases h : s.cur <;> simp [State.setMe, State.setStrandOf, h]
@[simp] theorem State.setMe_pendingActs (t : Strand) : (s.setMe t).pendingActs = s.pendingActs := by
  cases h : s.cur <;> simp [State.setMe, State.setStrandOf, h]
@[simp] theorem State.setMe_kept (t : Strand) : (s.setMe t).kept = s.kept := by
  cases h : s.cur <;> simp [State.setMe, State.setStrandOf, h]
@[simp] theorem State.setMe_arrSeq (t : Strand) : (s.setMe t).arrSeq = s.arrSeq := by
  cases h : s.cur <;> simp [State.setMe, State.setStrandOf, h]
@[simp] theorem State.setMe_admSeq (t : Strand) : (s.setMe t).admSeq = s.admSeq := by
  cases h : s.cur <;> simp [State.setMe, State.setStrandOf, h]
@[simp] theorem State.setMe_saved (t : Strand) : (s.setMe t).saved = s.saved := by
  cases h : s.cur <;> simp [State.setMe, State.setStrandOf, h]
@[simp] theorem State.setMe_fabric (t : Strand) : (s.setMe t).fabric = s.fabric := by
  cases h : s.cur <;> simp [State.setMe, State.setStrandOf, h]
@[simp] theorem State.setMe_servo (t : Strand) : (s.setMe t).servo = s.servo := by
  cases h : s.cur <;> simp [State.setMe, State.setStrandOf, h]
@[simp] theorem State.setMe_power (t : Strand) : (s.setMe t).power = s.power := by
  cases h : s.cur <;> simp [State.setMe, State.setStrandOf, h]
@[simp] theorem State.setMe_shafts (t : Strand) : (s.setMe t).shafts = s.shafts := by
  cases h : s.cur <;> simp [State.setMe, State.setStrandOf, h]
@[simp] theorem State.setMe_swait (t : Strand) : (s.setMe t).swait = s.swait := by
  cases h : s.cur <;> simp [State.setMe, State.setStrandOf, h]
@[simp] theorem State.setMe_debugger (t : Strand) : (s.setMe t).debugger = s.debugger := by
  cases h : s.cur <;> simp [State.setMe, State.setStrandOf, h]
@[simp] theorem State.setMe_booted (t : Strand) : (s.setMe t).booted = s.booted := by
  cases h : s.cur <;> simp [State.setMe, State.setStrandOf, h]
@[simp] theorem State.setMe_copyB (t : Strand) : (s.setMe t).copyB = s.copyB := by
  cases h : s.cur <;> simp [State.setMe, State.setStrandOf, h]
@[simp] theorem State.setMe_bootFail (t : Strand) : (s.setMe t).bootFail = s.bootFail := by
  cases h : s.cur <;> simp [State.setMe, State.setStrandOf, h]
@[simp] theorem State.setMe_measure (t : Strand) : (s.setMe t).measure = s.measure := by
  cases h : s.cur <;> simp [State.setMe, State.setStrandOf, h]
@[simp] theorem State.setMe_stopped (t : Strand) : (s.setMe t).stopped = s.stopped := by
  cases h : s.cur <;> simp [State.setMe, State.setStrandOf, h]
@[simp] theorem State.setMe_hostReads (t : Strand) : (s.setMe t).hostReads = s.hostReads := by
  cases h : s.cur <;> simp [State.setMe, State.setStrandOf, h]
@[simp] theorem State.setMe_up (t : Strand) : (s.setMe t).up = s.up := by
  cases h : s.cur <;> simp [State.setMe, State.setStrandOf, h]
@[simp] theorem State.setMe_bad (t : Strand) : (s.setMe t).bad = s.bad := by
  cases h : s.cur <;> simp [State.setMe, State.setStrandOf, h]
@[simp] theorem State.setMe_swaps (t : Strand) : (s.setMe t).swaps = s.swaps := by
  cases h : s.cur <;> simp [State.setMe, State.setStrandOf, h]
@[simp] theorem State.setMe_refused (t : Strand) : (s.setMe t).refused = s.refused := by
  cases h : s.cur <;> simp [State.setMe, State.setStrandOf, h]
@[simp] theorem State.setMe_hostIn (t : Strand) : (s.setMe t).hostIn = s.hostIn := by
  cases h : s.cur <;> simp [State.setMe, State.setStrandOf, h]
@[simp] theorem State.setMe_debugReads (t : Strand) : (s.setMe t).debugReads = s.debugReads := by
  cases h : s.cur <;> simp [State.setMe, State.setStrandOf, h]
@[simp] theorem State.setMe_acted (t : Strand) : (s.setMe t).acted = s.acted := by
  cases h : s.cur <;> simp [State.setMe, State.setStrandOf, h]
@[simp] theorem State.setMe_units (t : Strand) : (s.setMe t).units = s.units := by
  cases h : s.cur <;> simp [State.setMe, State.setStrandOf, h]
@[simp] theorem State.setMe_hostWaits (t : Strand) : (s.setMe t).hostWaits = s.hostWaits := by
  cases h : s.cur <;> simp [State.setMe, State.setStrandOf, h]
@[simp] theorem State.setMe_managed (t : Strand) : (s.setMe t).managed = s.managed := by
  cases h : s.cur <;> simp [State.setMe, State.setStrandOf, h]
@[simp] theorem State.scratch_setMe (t : Strand) (c : Nat) : ((s.setMe t).core c).scratch = (s.core c).scratch := by
  cases h : s.cur with
  | strand d k => by_cases hc : d.toNat = c <;> simp [State.setMe, State.setStrandOf, h, State.core_modCore, hc]
  | porch q => simp [State.setMe, State.setStrandOf, h]
@[simp] theorem State.active_setMe (t : Strand) (c : Nat) : ((s.setMe t).core c).active = (s.core c).active := by
  cases h : s.cur with
  | strand d k => by_cases hc : d.toNat = c <;> simp [State.setMe, State.setStrandOf, h, State.core_modCore, hc]
  | porch q => simp [State.setMe, State.setStrandOf, h]
@[simp] theorem State.ring_setMe (t : Strand) (c q : Nat) : ((s.setMe t).core c).ring q = (s.core c).ring q := by
  cases h : s.cur with
  | strand d k => by_cases hc : d.toNat = c <;> simp [State.setMe, State.setStrandOf, h, State.core_modCore, hc]
  | porch q => simp [State.setMe, State.setStrandOf, h]
@[simp] theorem State.queue_setMe (t : Strand) (c q : Nat) : ((s.setMe t).core c).queue q = (s.core c).queue q := by
  cases h : s.cur with
  | strand d k => by_cases hc : d.toNat = c <;> simp [State.setMe, State.setStrandOf, h, State.core_modCore, hc]
  | porch q => simp [State.setMe, State.setStrandOf, h]
@[simp] theorem State.vfile_setMe (t : Strand) (c : Nat) : ((s.setMe t).core c).vfile = (s.core c).vfile := by
  cases h : s.cur with
  | strand d k => by_cases hc : d.toNat = c <;> simp [State.setMe, State.setStrandOf, h, State.core_modCore, hc]
  | porch q => simp [State.setMe, State.setStrandOf, h]

/-! ## Registers -/

@[simp] theorem Strand.rx_zero (t : Strand) : t.rx 0 = 0 := rfl
theorem Strand.rx_wx (t : Strand) (d r : BitVec 5) (v : DWord) : (t.wx d v).rx r = if r = d ∧ r ≠ 0 then v else t.rx r := by
  unfold Strand.wx Strand.rx
  by_cases hr : r = 0
  · rw [if_pos hr, if_pos hr, if_neg (fun h => h.2 hr)]
  · rw [if_neg hr, if_neg hr]
    by_cases hd : d = 0
    · rw [if_pos hd, if_neg (fun h => hr (h.1.trans hd))]
    · rw [if_neg hd]
      by_cases h : r = d
      · rw [if_pos ⟨h, hr⟩, h]; exact Cells.get_set_same ..
      · rw [if_neg (fun e => h e.1)]
        exact Cells.get_set_ne _ _ _ (fun e => h (BitVec.eq_of_toNat_eq e.symm))
theorem Strand.wx_fields (t : Strand) (d : BitVec 5) (v : DWord) : t.wx d v = { t with x := (t.wx d v).x } := by
  unfold Strand.wx; split <;> rfl
@[simp] theorem Strand.rx_setPc (t : Strand) (l : Line) (k : Slot) (r : BitVec 5) : (t.setPc l k).rx r = t.rx r := rfl
@[simp] theorem Strand.rx_raise (t : Strand) (f : Flags) (r : BitVec 5) : (t.raise f).rx r = t.rx r := rfl

@[simp] theorem Strand.wx_run (t : Strand) (d : BitVec 5) (v : DWord) : (t.wx d v).run = t.run := by
  unfold Strand.wx; split <;> rfl
@[simp] theorem Strand.wx_k (t : Strand) (d : BitVec 5) (v : DWord) : (t.wx d v).k = t.k := by
  unfold Strand.wx; split <;> rfl
@[simp] theorem Strand.wx_p (t : Strand) (d : BitVec 5) (v : DWord) : (t.wx d v).p = t.p := by
  unfold Strand.wx; split <;> rfl
@[simp] theorem Strand.wx_wid (t : Strand) (d : BitVec 5) (v : DWord) : (t.wx d v).wid = t.wid := by
  unfold Strand.wx; split <;> rfl
@[simp] theorem Strand.wx_line (t : Strand) (d : BitVec 5) (v : DWord) : (t.wx d v).line = t.line := by
  unfold Strand.wx; split <;> rfl
@[simp] theorem Strand.wx_slot (t : Strand) (d : BitVec 5) (v : DWord) : (t.wx d v).slot = t.slot := by
  unfold Strand.wx; split <;> rfl
@[simp] theorem Strand.wx_lc (t : Strand) (d : BitVec 5) (v : DWord) : (t.wx d v).lc = t.lc := by
  unfold Strand.wx; split <;> rfl
@[simp] theorem Strand.wx_ec (t : Strand) (d : BitVec 5) (v : DWord) : (t.wx d v).ec = t.ec := by
  unfold Strand.wx; split <;> rfl
@[simp] theorem Strand.wx_vbase (t : Strand) (d : BitVec 5) (v : DWord) : (t.wx d v).vbase = t.vbase := by
  unfold Strand.wx; split <;> rfl
@[simp] theorem Strand.wx_pbase (t : Strand) (d : BitVec 5) (v : DWord) : (t.wx d v).pbase = t.pbase := by
  unfold Strand.wx; split <;> rfl
@[simp] theorem Strand.wx_fstat (t : Strand) (d : BitVec 5) (v : DWord) : (t.wx d v).fstat = t.fstat := by
  unfold Strand.wx; split <;> rfl
@[simp] theorem Strand.wx_fault (t : Strand) (d : BitVec 5) (v : DWord) : (t.wx d v).fault = t.fault := by
  unfold Strand.wx; split <;> rfl
@[simp] theorem Strand.wx_wcount (t : Strand) (d : BitVec 5) (v : DWord) : (t.wx d v).wcount = t.wcount := by
  unfold Strand.wx; split <;> rfl
@[simp] theorem Strand.wx_wlim (t : Strand) (d : BitVec 5) (v : DWord) : (t.wx d v).wlim = t.wlim := by
  unfold Strand.wx; split <;> rfl
@[simp] theorem Strand.wx_cls (t : Strand) (d : BitVec 5) (v : DWord) : (t.wx d v).cls = t.cls := by
  unfold Strand.wx; split <;> rfl
@[simp] theorem Strand.wx_widths (t : Strand) (d : BitVec 5) (v : DWord) : (t.wx d v).widths = t.widths := by
  unfold Strand.wx; split <;> rfl
@[simp] theorem Strand.wx_wv (t : Strand) (d : BitVec 5) (v : DWord) : (t.wx d v).wv = t.wv := by
  unfold Strand.wx; split <;> rfl
@[simp] theorem Strand.wx_vn (t : Strand) (d : BitVec 5) (v : DWord) : (t.wx d v).vn = t.vn := by
  unfold Strand.wx; split <;> rfl
@[simp] theorem Strand.wx_pn (t : Strand) (d : BitVec 5) (v : DWord) : (t.wx d v).pn = t.pn := by
  unfold Strand.wx; split <;> rfl
@[simp] theorem Strand.wx_stage (t : Strand) (d : BitVec 5) (v : DWord) : (t.wx d v).stage = t.stage := by
  unfold Strand.wx; split <;> rfl
@[simp] theorem Strand.wx_pen (t : Strand) (d : BitVec 5) (v : DWord) : (t.wx d v).pen = t.pen := by
  unfold Strand.wx; split <;> rfl
@[simp] theorem Strand.wx_pq (t : Strand) (d : BitVec 5) (v : DWord) : (t.wx d v).pq = t.pq := by
  unfold Strand.wx; split <;> rfl
@[simp] theorem Strand.wx_inflight (t : Strand) (d : BitVec 5) (v : DWord) : (t.wx d v).inflight = t.inflight := by
  unfold Strand.wx; split <;> rfl
@[simp] theorem Strand.wx_far (t : Strand) (d : BitVec 5) (v : DWord) : (t.wx d v).far = t.far := by
  unfold Strand.wx; split <;> rfl
@[simp] theorem Strand.wx_storeq (t : Strand) (d : BitVec 5) (v : DWord) : (t.wx d v).storeq = t.storeq := by
  unfold Strand.wx; split <;> rfl
@[simp] theorem Strand.wx_markers (t : Strand) (d : BitVec 5) (v : DWord) : (t.wx d v).markers = t.markers := by
  unfold Strand.wx; split <;> rfl
@[simp] theorem Strand.wx_trapEn (t : Strand) (d : BitVec 5) (v : DWord) : (t.wx d v).trapEn = t.trapEn := by
  unfold Strand.wx; split <;> rfl
@[simp] theorem Strand.wx_trapIn (t : Strand) (d : BitVec 5) (v : DWord) : (t.wx d v).trapIn = t.trapIn := by
  unfold Strand.wx; split <;> rfl
@[simp] theorem Strand.wx_tvec (t : Strand) (d : BitVec 5) (v : DWord) : (t.wx d v).tvec = t.tvec := by
  unfold Strand.wx; split <;> rfl
@[simp] theorem Strand.wx_tpc (t : Strand) (d : BitVec 5) (v : DWord) : (t.wx d v).tpc = t.tpc := by
  unfold Strand.wx; split <;> rfl
@[simp] theorem Strand.wx_bpt (t : Strand) (d : BitVec 5) (v : DWord) : (t.wx d v).bpt = t.bpt := by
  unfold Strand.wx; split <;> rfl
@[simp] theorem Strand.wx_record (t : Strand) (d : BitVec 5) (v : DWord) : (t.wx d v).record = t.record := by
  unfold Strand.wx; split <;> rfl
@[simp] theorem Strand.wx_queued (t : Strand) (d : BitVec 5) (v : DWord) : (t.wx d v).queued = t.queued := by
  unfold Strand.wx; split <;> rfl
@[simp] theorem Strand.wx_pass (t : Strand) (d : BitVec 5) (v : DWord) : (t.wx d v).pass = t.pass := by
  unfold Strand.wx; split <;> rfl
@[simp] theorem Strand.wx_outer (t : Strand) (d : BitVec 5) (v : DWord) : (t.wx d v).outer = t.outer := by
  unfold Strand.wx; split <;> rfl

end Sys2Proof.Machine
end

