-- ==== Sys2Proof/Laws/Run.lean ====
section
/-! SUPPORT. Laws of how an instruction runs: what `State.run`, `Done.finish` and the register forms do, each said once. -/

namespace Sys2Proof.Machine

variable {s : State}

/-- A fault of an instruction in the terms of the statements. -/
theorem failIssue_eq (r : Raise) : s.failIssue r = s.faulted r := by
  cases h : s.me.far <;> simp [State.failIssue, State.faulted, h]

/-- With no load of the fabric under way the exception is taken at once. -/
theorem faulted_now (r : Raise) (h : s.me.far = []) : s.faulted r = s.takeFault r := by simp [State.faulted, h]

/-- An instruction whose check passes, whose guard bit is 1 and whose registers have arrived runs its operation. -/
theorem run_op {len : Nat} {check : Option Raise} {g : Bool} {uses : List (BitVec 5)} {op : State → Done}
    (hc : check = none) (hg : g = true) (hu : ∀ r ∈ uses, r ∉ s.me.inflight) :
    s.run len check g uses op = .next ((op s).finish len) := by
  have : s.waitsFor uses = false := by simpa [State.waitsFor] using hu
  simp [State.run, hc, hg, this]

/-- A failed check is a precise fault, whatever the guard. -/
theorem run_fault {len : Nat} {g : Bool} {uses : List (BitVec 5)} {op : State → Done} (r : Raise) :
    s.run len (some r) g uses op = .next (s.faulted r) := by
  simp [State.run, failIssue_eq]

/-- A guard bit of 0. -/
theorem run_skip {len : Nat} {uses : List (BitVec 5)} {op : State → Done} :
    s.run len none false uses op = .next (s.retire len) := by simp [State.run]

theorem successor_congr {t : State} (hm : (t.me.line, t.me.slot) = (s.me.line, s.me.slot)) (hl : t.myLink = s.myLink) (len : Nat) :
    t.successor len = s.successor len := by
  simp only [Prod.mk.injEq] at hm
  simp [State.successor, State.nextLine, hm.1, hm.2, hl]

theorem physByte_congr {t : State} (h1 : t.l2 = s.l2) (h2 : t.pooled = s.pooled) (a : Nat) : t.physByte a = s.physByte a := by
  simp [State.physByte, State.l2Line, h1, h2]

theorem physNat_congr {t : State} (h1 : t.l2 = s.l2) (h2 : t.pooled = s.pooled) (a n : Nat) : t.physNat a n = s.physNat a n := by
  induction n generalizing a with
  | zero => rfl
  | succ n ih => simp [State.physNat, physByte_congr h1 h2, ih]

theorem imageOf_congr {t : State} (hi : t.images = s.images) (hc : t.cfg = s.cfg) (a : Agent)
    (ha : ∀ c, (t.core c).active = (s.core c).active) : t.imageOf a = s.imageOf a := by
  cases a <;> simp [State.imageOf, ha, hi, State.queueDesc, hc]

/-- The link word an agent sees depends on its context's line alone. -/
theorem myLink_setMe (t : Strand) (h : t.line = s.me.line) : (s.setMe t).myLink = s.myLink := by
  unfold State.myLink
  rw [imageOf_congr (s := s) (by simp) (by simp) _ (by simp)]
  simp only [State.cur_setMe, State.me_setMe, h, State.imageWord]
  split
  · rw [physNat_congr (s := s) (by simp) (by simp)]
  · rfl

theorem successor_setMe (t : Strand) (hl : t.line = s.me.line) (hs : t.slot = s.me.slot) (len : Nat) :
    (s.setMe t).successor len = s.successor len :=
  successor_congr (by simp [hl, hs]) (myLink_setMe t hl) len

/-- A context whose instruction has been executed. -/
theorem me_passed (s : State) : s.passed.me = { s.me with pass := Passing.none } := by
  unfold State.passed
  split
  · rename_i e
    rw [← e]
  · simp

/-- A change of the context after its instruction has been executed. -/
theorem modMe_passed (s : State) (f : Strand → Strand) :
    s.passed.modMe f = s.setMe (f { s.me with pass := Passing.none }) := by
  rw [State.modMe_eq, me_passed]
  unfold State.passed
  split <;> simp

theorem successor_passed (s : State) (len : Nat) : s.passed.successor len = s.successor len := by
  unfold State.passed
  split
  · rfl
  · rw [State.modMe_eq]; exact successor_setMe _ (by simp) (by simp) len

/-- Sequential flow, as one update of the context. -/
theorem retire_eq {len : Nat} {l : Line} {sl : Slot} (h : s.successor len = some (l, sl)) :
    s.retire len = s.setMe { s.me with line := l, slot := sl, pass := Passing.none } := by
  unfold State.retire State.seqNext
  rw [successor_passed, h]
  simp only [State.setPc, modMe_passed, Strand.setPc]

/-- The context after the operation of an instruction that changes only its own context. -/
theorem finish_setMe {len : Nat} (m : Strand) (hl : m.line = s.me.line) (hs : m.slot = s.me.slot) {l : Line} {sl : Slot}
    (h : s.successor len = some (l, sl)) :
    (Done.next (s.setMe m)).finish len = s.setMe { m with line := l, slot := sl, pass := Passing.none } := by
  have h' : (s.setMe m).successor len = some (l, sl) := by rw [successor_setMe _ hl hs, h]
  simp [Done.finish, retire_eq h']

theorem jump_self {len : Nat} (l : Line) (sl : Slot) :
    (Done.jump s l sl).finish len = s.setMe { s.me with line := l, slot := sl, pass := Passing.none } := by
  simp only [Done.finish, State.setPc, modMe_passed, Strand.setPc]

theorem jump_setMe {len : Nat} (m : Strand) (l : Line) (sl : Slot) :
    (Done.jump (s.setMe m) l sl).finish len = s.setMe { m with line := l, slot := sl, pass := Passing.none } := by
  rw [jump_self]; simp

theorem peek_setMe (m : Strand) (b : MemByte) : (s.setMe m).peek b = s.peek b := by
  cases b with
  | scratch c a => simp [State.peek]
  | placed a => simp [State.peek]
  | pooled a => exact physByte_congr (by simp) (by simp) a
  | host a => simp [State.peek]
  | record a => simp [State.peek]

theorem onlyMe_setMe (m : Strand) : OnlyMe s (s.setMe m) := ⟨by simp, peek_setMe m⟩

@[simp] theorem rx_setMe (m : Strand) (r : BitVec 5) : (s.setMe m).rx r = m.rx r := by simp [State.rx]

/-- A value written to x[d] with flags raised, in sequential flow: what every scalar form does. -/
theorem putF_spec {len : Nat} (d : BitVec 5) (v : DWord) (f : Flags) (h : (s.successor len).isSome = true) :
    ScalarDone s ((s.putF d v f).finish len) len d v f := by
  obtain ⟨⟨l, sl⟩, h⟩ := Option.isSome_iff_exists.mp h
  have e : (s.putF d v f).finish len = s.setMe { (s.me.wx d v).raise f with line := l, slot := sl, pass := Passing.none } := by
    have := finish_setMe (s := s) (len := len) ((s.me.wx d v).raise f) (by simp [Strand.raise]) (by simp [Strand.raise]) h
    simpa [State.putF, Strand.raise] using this
  rw [e]
  refine ⟨onlyMe_setMe _, ?_, ?_, ?_, ?_⟩
  · unfold OnlyRegs Strand.raise Strand.wx
    split <;> simp
  · simp [Sequel, h]
  · intro r
    rw [rx_setMe]
    exact Strand.rx_wx s.me d r v
  · simp [Strand.raise]

theorem put_eq_putF (d : BitVec 5) (v : DWord) : s.put d v = s.putF d v 0 := by
  have h : ∀ m : Strand, m.raise 0 = m := fun m => by
    show ({ m with fstat := m.fstat ||| 0 } : Strand) = m
    rw [show m.fstat ||| (0 : Flags) = m.fstat by simp]
  show Done.next (s.modMe fun t => t.wx d v) = Done.next (s.modMe fun t => (t.wx d v).raise 0)
  simp only [h]

theorem put_spec {len : Nat} (d : BitVec 5) (v : DWord) (h : (s.successor len).isSome = true) :
    ScalarDone s ((s.put d v).finish len) len d v 0 := by
  rw [put_eq_putF]; exact putF_spec d v 0 h

/-- The register forms of format A. -/
theorem runA_spec (f : FA) (v : DWord) (h : Issues s 1 (s.guard4 f.g) [f.d, f.a, f.b]) :
    ∃ t, s.runA f v = .next t ∧ ScalarDone s t 1 f.d v 0 :=
  ⟨_, run_op rfl h.1 h.2.1, put_spec _ _ h.2.2⟩

theorem runI_spec (f : FI) (v : DWord) (h : Issues s 1 (s.guard4 f.g) [f.d, f.a]) :
    ∃ t, s.runI f v = .next t ∧ ScalarDone s t 1 f.d v 0 :=
  ⟨_, run_op rfl h.1 h.2.1, put_spec _ _ h.2.2⟩

theorem runSY_spec (f : FSY) (v : DWord) (h : Issues s 2 (s.guard7 f.g) [f.d, f.a]) :
    ∃ t, s.runSY f v = .next t ∧ ScalarDone s t 2 f.d v 0 :=
  ⟨_, run_op rfl h.1 h.2.1, put_spec _ _ h.2.2⟩

theorem runF_spec (f : FF) (r : Res) (h : Issues s 1 (s.guard4 f.g) [f.d, f.a, f.b]) :
    ∃ t, s.runF f r = .next t ∧ ScalarDone s t 1 f.d (BitVec.ofNat 64 r.bits) r.flags :=
  ⟨_, run_op rfl h.1 h.2.1, putF_spec _ _ _ h.2.2⟩

theorem runSY1_spec {len : Nat} {g : Bool} {uses : List (BitVec 5)} (d : BitVec 5) (v : DWord) (h : Issues s len g uses) :
    ∃ t, s.run len none g uses (fun s => s.put d v) = .next t ∧ ScalarDone s t len d v 0 :=
  ⟨_, run_op rfl h.1 h.2.1, put_spec _ _ h.2.2⟩

theorem runPutF_spec {len : Nat} {g : Bool} {uses : List (BitVec 5)} (d : BitVec 5) (v : DWord) (f : Flags)
    (h : Issues s len g uses) :
    ∃ t, s.run len none g uses (fun s => s.putF d v f) = .next t ∧ ScalarDone s t len d v f :=
  ⟨_, run_op rfl h.1 h.2.1, putF_spec _ _ _ h.2.2⟩

/-- A transfer of control. -/
theorem jump_spec {len : Nat} (l : Line) (sl : Slot) : Jumped s ((Done.jump s l sl).finish len) l sl := by
  rw [jump_self]
  refine ⟨onlyMe_setMe _, ?_, ?_, ?_, ?_⟩
  · simp [OnlyRegs]
  · simp [WentTo]
  · intro r; rw [rx_setMe]; rfl
  · simp

/-- Sequential flow alone. -/
theorem next_spec {len : Nat} (h : (s.successor len).isSome = true) : Passed s ((Done.next s).finish len) len := by
  obtain ⟨⟨l, sl⟩, h⟩ := Option.isSome_iff_exists.mp h
  show Passed s (s.retire len) len
  rw [retire_eq h]
  refine ⟨onlyMe_setMe _, ?_, ?_, ?_, ?_⟩
  · simp [OnlyRegs]
  · simp [Sequel, h]
  · intro r; rw [rx_setMe]; rfl
  · simp

/-- A change of the current context alone, in sequential flow. -/
theorem setMe_spec {len : Nat} (m : Strand) (hl : m.line = s.me.line) (hs : m.slot = s.me.slot)
    (h : (s.successor len).isSome = true) :
    OnlyMe s ((Done.next (s.setMe m)).finish len) ∧ Sequel s ((Done.next (s.setMe m)).finish len) len ∧
      ((Done.next (s.setMe m)).finish len).me =
        { m with
          line := ((Done.next (s.setMe m)).finish len).me.line, slot := ((Done.next (s.setMe m)).finish len).me.slot
          pass := Passing.none } := by
  obtain ⟨⟨l, sl⟩, h⟩ := Option.isSome_iff_exists.mp h
  rw [finish_setMe m hl hs h]
  refine ⟨onlyMe_setMe _, ?_, ?_⟩
  · simp [Sequel, h]
  · simp

theorem guard_off_spec {len : Nat} {uses : List (BitVec 5)} {op : State → Done} (h : (s.successor len).isSome = true) :
    ∃ t, s.run len none false uses op = .next t ∧ Passed s t len :=
  ⟨_, run_skip, next_spec h⟩

end Sys2Proof.Machine
end

