-- ==== Sys2Proof/Tests/Slice0.lean ====
section
/-! SUPPORT. Tests: words of the spec's encodings and what they decode to, ill-formed terms, single steps, published values,
and for every statement with hypotheses states and operands that meet them. -/

set_option Elab.async false

open Sys2Proof Sys2Proof.Machine

noncomputable section

namespace Sys2Proof.Tests

/-! ## Small states -/

/-- Strand 0 of core 0 about to issue at line 1 slot 1, where the words of `w` lie; line 1 is its own next line. -/
def one (w : Nat := 0x02000000) : State := State.reset.withFetchWord 64 w
/-- The same with another context. -/
def me (f : Strand → Strand) : State := one.setMe (f one.me)
/-- The same with general registers. -/
def xs (l : List (Nat × DWord)) : State := me (fun t => { t with x := l })
/-- The same with core 0 changed. -/
def co (f : Core → Core) (s : State := one) : State := s.setCore 0 (f (s.core 0))
/-- The state after an instruction. -/
def after (i : Instr) (s : State) : State := match exec i s with | .next t => t | _ => s
/-- The state after a step. -/
def stepped (s : State) : State := match step s with | .next t => t | _ => s

/-! ## Words of the spec's encodings (R81–R87): lowest bit and value of each field, first word, second word -/

def bitsOf (l : List (Nat × Nat)) : Word := BitVec.ofNat 32 ((l.map (fun e => e.2 * 2 ^ e.1)).sum)
abbrev reads (w0 w1 : List (Nat × Nat)) (i : Instr) : Prop := decode (bitsOf w0) (bitsOf w1) = .ok i

/-- R82, format A: major 0x03, fn 6 as R110 numbers it; F; S; I. -/
theorem test_word_fma : reads [(25, 0x05), (20, 3), (15, 1), (10, 2), (6, 9), (4, 1), (0, 2)] [] (.fma ⟨3, 1, 2, 9, 1⟩) :=
    by decide +kernel
theorem test_word_mts : reads [(25, 0x06), (20, 7), (15, 3), (14, 1), (0, 2)] [] (.mts ⟨7, 3, 2⟩) := by decide +kernel
theorem test_word_srai : reads [(25, 0x0C), (20, 4), (15, 5), (13, 2), (4, 63), (0, 1)] [] (.srai ⟨4, 5, 63, 1⟩) :=
    by decide +kernel
/-- R82, formats J, A (register branches), W, M, Q, E and K. -/
theorem test_word_call : reads [(25, 0x11), (4, 0x12345), (0, 6)] [] (.call ⟨0x12345, 6⟩) := by decide +kernel
theorem test_word_callr : reads [(25, 0x13), (15, 31), (6, 8), (0, 1)] [] (.callr ⟨0, 31, 0, 8⟩) := by decide +kernel
theorem test_word_wait_time : reads [(25, 0x14), (21, 5), (4, 9), (0, 3)] [] (.waitTime ⟨9, 3⟩) := by decide +kernel
theorem test_word_st_q : reads [(25, 0x1F), (20, 1), (15, 2), (13, 3), (12, 1), (8, 15), (4, 4), (0, 8)] []
    (.stQ ⟨1, 2, 3, 1, 15, 4, 8⟩) := by
  decide +kernel
theorem test_word_mark : reads [(25, 0x21), (21, 4), (4, 0x2001), (0, 1)] [] (.mark ⟨0x2001, 1⟩) := by decide +kernel
theorem test_word_fence_short : reads [(25, 0x21), (21, 2), (4, 0xFFFF), (0, 0)] [] (.fenceShort ⟨2, 0xFFFF, 0⟩) :=
    by decide +kernel
theorem test_word_push_w : reads [(25, 0x28), (21, 13), (17, 12), (15, 3), (14, 1), (0, 5)] [] (.pushW ⟨13, 12, 3, 5⟩) :=
    by decide +kernel
theorem test_word_kins : reads [(25, 0x29), (21, 5), (16, 6), (9, 100), (3, 63)] [] (.kins ⟨5, 6, 100, 63⟩) := by decide +kernel
/-- R199's VADD.f32 v3, v1, v2; R181's VFMA.bf16.rtz; R195's VTOPK.f32. -/
theorem test_word_vadd_short : decode 0x60182100 0 = .ok (.vaddShort ⟨3, 1, 2, 0⟩) := by decide +kernel
theorem test_word_vfma : decode 0xA1044146 0x1D206000 = .ok (.vfma ⟨65, 4, 5, 6, 7, 1, 1, 0⟩) := by decide +kernel
theorem test_word_vtopk : decode 0xA60CA100 0x0003A007 = .ok (.vtopk ⟨3, 10, 4, 0, 0, 0, 0, 7⟩) := by decide +kernel
/-- R83, formats VL (major 0x52, .i32, predicate 69), VM, BC, L, P, SY, ML and AT. -/
theorem test_word_vcmplt : reads [(25, 0x52), (18, 3), (12, 5), (6, 8), (0, 9)] [(21, 3), (13, 2), (12, 1)]
    (.vcmplt ⟨3, 5, 8, 9, 0, 0, 3, 0x1000⟩) := by decide +kernel
theorem test_word_vst : reads [(25, 0x59), (18, 0), (12, 63), (7, 4), (2, 2), (0, 1)] [(28, 7), (24, 1), (0, 0xFFFFC0)]
    (.vstT ⟨0, 63, 4, 2, 1, 7, 0xFFFFC0⟩) := by decide +kernel
theorem test_word_bgeu : reads [(25, 0x40), (18, 127), (13, 1), (8, 2), (4, 6)] [(4, 0x1FFFFE), (0, 15)]
    (.bgeu ⟨127, 1, 2, 0x1FFFFE, 15⟩) := by decide +kernel
theorem test_word_lih : reads [(25, 0x41), (18, 64), (13, 9), (8, 9), (0, 1)] [(0, 0xDEADBEEF)] (.lih ⟨64, 9, 9, 0xDEADBEEF⟩) :=
    by decide +kernel
theorem test_word_krl : reads [(25, 0x42), (18, 0), (13, 3), (0, 4)] [(25, 24), (18, 7), (13, 7), (0, 8)]
    (.krl ⟨0, 3, 0, 24, 7, 7, 8⟩) := by decide +kernel
theorem test_word_muli : reads [(25, 0x43), (13, 6), (8, 7)] [(24, 6), (0, 0xFFFFFF)] (.muli ⟨0, 6, 7, 0, 0xFFFFFF⟩) :=
    by decide +kernel
theorem test_word_lda : reads [(25, 0x48), (13, 1), (8, 2), (5, 4), (3, 3), (2, 1), (0, 1)] [(28, 5), (26, 3), (0, 8)]
    (.lda ⟨0, 1, 2, 4, 3, 1, 5, 3, 8⟩) := by decide +kernel
theorem test_word_stl : reads [(25, 0x49), (13, 1), (8, 2), (5, 2), (3, 2), (0, 2)] [(26, 2), (0, 4)]
    (.stl ⟨0, 1, 2, 2, 2, 0, 0, 2, 4⟩) := by decide +kernel
theorem test_word_amo_add : reads [(25, 0x4A), (13, 1), (8, 2), (3, 3)] [(26, 1), (23, 2), (21, 3), (14, 2), (12, 1)]
    (.amoAdd ⟨0, 1, 2, 3, 2, 3, 0, 0, 2, 1, 0⟩) := by decide +kernel
theorem test_word_cas : reads [(25, 0x4B), (13, 1), (8, 2), (3, 3)] [(21, 2), (20, 1), (16, 9), (7, 4)]
    (.cas ⟨0, 1, 2, 3, 0, 2, 1, 9, 0, 0, 4⟩) := by decide +kernel
theorem test_word_red_swap : reads [(25, 0x4C), (8, 2), (3, 3)] [(23, 1), (21, 3),
    (12, 2)] (.redSwap ⟨0, 0, 2, 3, 1, 3, 0, 0, 0, 2, 0⟩) := by
  decide +kernel
theorem test_word_cpref : reads [(25, 0x4D), (8, 5)] [(24, 6), (0, 2)] (.cpref ⟨0, 0, 5, 0, 2⟩) := by decide +kernel
theorem test_word_rbar : reads [(25, 0x4E)] [(24, 7), (0, 31)] (.rbar ⟨0, 0, 0, 0, 31⟩) := by decide +kernel
theorem test_word_kliw : reads [(25, 0x60), (13, 15), (8, 3), (0, 1)] [(0, 5)] (.kliw ⟨0, 15, 3, 5⟩) := by decide +kernel
theorem test_word_remit : reads [(25, 0x61), (13, 1), (8, 2), (3, 3)] [(24, 5)] (.remit ⟨0, 1, 2, 3, 0⟩) := by decide +kernel
theorem test_word_tarm : reads [(25, 0x62), (8, 2), (3, 3)] [(24, 2), (0, 1)] (.tarm ⟨0, 0, 2, 3, 1⟩) := by decide +kernel
theorem test_word_launch : reads [(25, 0x63), (13, 1), (8, 2), (3, 3)] [] (.launch ⟨0, 1, 2, 3, 0⟩) := by decide +kernel
theorem test_word_mfsr : reads [(25, 0x64), (13, 1)] [(24, 3), (0, 0x23)] (.mfsr ⟨0, 1, 0, 0, 0x23⟩) := by decide +kernel
/-- R85, R153: every undefined major, CAS with an op other than 0, and a minor value above the defined range are no instruction.
-/
theorem test_reserved_majors : ∀ m ∈ [0x00, 0x07, 0x0E, 0x0F, 0x15, 0x16, 0x17, 0x22, 0x27, 0x2A, 0x2F, 0x34, 0x3F, 0x44, 0x47, 0x4F, 0x54,
    0x57, 0x5A, 0x5F, 0x65, 0x7E, 0x7F], (match decode (bitsOf [(25, m)]) 0 with | .error .reserved => true | _ => false) = true := by
  decide +kernel
theorem test_reserved_cas : ∀ op < 64, op ≠ 0 → (match decode (bitsOf [(25, 0x4B)]) (bitsOf [(26, op), (21, 2)]) with
    | .error .reserved => true | _ => false) = true := by decide +kernel
theorem test_reserved_minors : ∀ e ∈ [(0x02, 28), (0x03, 16), (0x05, 5), (0x13, 3), (0x0C, 0)], e.2 = 0 ∨
    (match decode (bitsOf [(25, e.1), (0, e.2)]) 0 with | .error .reserved => true | _ => false) = true := by decide +kernel
theorem test_reserved_functions : ∀ e ∈ [(0x43, 16), (0x4D, 16), (0x4E, 8), (0x61, 8), (0x62, 4), (0x64, 8)],
    (match decode (bitsOf [(25, e.1)]) (bitsOf [(24, e.2)]) with | .error .reserved => true | _ => false) = true :=
        by decide +kernel

/-! ## Ill-formed terms (R7, R86 step 4) -/

/-- Zero fields that are not zero. -/
theorem test_ill_formed_zero_fields : ([.clz ⟨0, 0, 1, 0⟩, .br ⟨1, 0, 0, 0⟩, .br ⟨0, 0, 1, 0⟩, .yield ⟨1, 0⟩,
    .waitRing ⟨0x100, 0⟩, .waitJoin ⟨0x4000, 0⟩,
    .waitTime ⟨0x20, 0⟩, .fenceShort ⟨0, 0x10000, 0⟩, .mark ⟨0x4000, 0⟩, .rstat ⟨0, 0, 1, 0⟩, .ldS ⟨0, 0, 0, 0, 1, 0, 0⟩,
        .bGuarded ⟨0, 1, 0, 0, 1⟩,
    .li ⟨0, 0, 1, 0⟩, .lip ⟨0, 0, 0, 1, 0, 0, 0⟩, .lir ⟨0, 0, 1, 0, 0, 0, 0⟩, .liw ⟨0, 0, 0, 0, 0, 1, 0⟩,
        .kpl ⟨0, 0, 0, 0, 1, 0, 0⟩,
    .bexti ⟨0, 0, 0, 0, 0x1000⟩, .callGuarded ⟨0, 0, 0, 1, 0x200000⟩, .loopset ⟨0, 0, 0, 0, 0x400000⟩, .mxp ⟨0, 0, 0, 0, 0x80⟩,
    .mpx ⟨0, 0, 0, 0, 0x80⟩, .selp ⟨0, 0, 0, 0, 0x80⟩, .fence ⟨0, 0, 0, 0, 0x40000⟩, .cpref ⟨0, 0, 0, 0, 4⟩,
        .ccleanr ⟨0, 1, 0, 0, 0⟩,
    .ccleana ⟨0, 0, 1, 0, 0⟩, .mwaittS ⟨0, 0, 0, 0, 0x10000⟩, .rcfg ⟨0, 0, 0, 0, 0x20⟩, .raddr ⟨0, 0, 0, 0, 0x80⟩,
        .rown ⟨0, 0, 0, 0, 0x20⟩,
    .rclaima ⟨0, 0, 0, 0, 0x4000⟩, .rld ⟨0, 0, 0, 0, 0x200⟩, .rdesc ⟨0, 0, 0, 0, 0x40⟩, .rbar ⟨0, 0, 0, 0, 0x20⟩,
        .kclr ⟨0, 0, 0, 4⟩,
    .kmvx ⟨0, 0, 0, 2⟩] : List Instr).all (fun i => !i.wf) = true := by decide +kernel
theorem test_ill_formed_more_zero_fields : ([.qmpc ⟨0, 0, 0, 0, 2⟩, .qres ⟨0, 0, 0, 0, 2⟩, .rdfr ⟨0, 0, 0, 0, 8⟩,
    .rsubmit ⟨0, 0, 0, 0, 1⟩, .rflt ⟨0, 0, 0, 0, 0x100⟩,
    .tarm ⟨0, 0, 0, 0, 2⟩, .preempt ⟨0, 0, 0, 0, 4⟩, .swapt ⟨0, 0, 1, 0, 0⟩, .brk ⟨0, 0, 0, 0, 1⟩, .trap ⟨0, 0, 0, 0, 0x180⟩,
    .rtt ⟨0, 0, 0, 0, 4⟩, .mtsr ⟨0, 1, 0, 0, 0⟩, .mfsr ⟨0, 0, 1, 0, 0⟩, .pcmp ⟨0, 1, 0, 0, 0⟩, .vadd ⟨0, 0, 0, 0, 1, 0, 0, 0⟩,
        .vsqrt ⟨0, 0, 0, 1, 0, 0, 0, 0⟩,
    .vfma ⟨0, 0, 0, 0, 0, 0, 0, 1⟩, .vaddi ⟨0, 0, 0, 1, 0, 0, 0, 0⟩, .vslli ⟨0, 0, 0, 0, 0, 0, 0, 0x20⟩,
        .vcvt ⟨0, 0, 0, 0, 0, 0, 0, 8⟩,
    .vcmpeq ⟨0, 0, 0, 0, 0, 0, 0, 1⟩, .vftest ⟨0, 0, 0, 0, 0, 0, 0, 0x400⟩, .pand ⟨0, 0, 0, 0, 0, 0, 0, 1⟩,
        .pnot ⟨0, 0, 0, 0, 0, 0, 0, 1⟩,
    .pset ⟨0, 0, 1, 0, 0, 0, 0, 0⟩, .pcnt ⟨0, 0, 0, 0, 0, 0, 0, 0x1000⟩, .plen ⟨0, 0, 0, 0, 0, 0, 0, 1⟩,
        .protr ⟨0, 0, 0, 0, 0, 0, 0, 0x40⟩,
    .vrotc ⟨0, 0, 0, 0, 0, 0, 0, 0x10⟩, .vrotr ⟨0, 0, 0, 0, 0, 0, 0, 0x40⟩, .vshr ⟨0, 0, 0, 0, 0, 0, 0, 0x80⟩,
        .vsel ⟨0, 0, 0, 0, 0, 0, 0, 0x80⟩,
    .vli ⟨0, 0, 1, 0, 0, 0, 0, 0⟩, .vpscan ⟨0, 0, 1, 0, 0, 0, 0, 0⟩, .vins ⟨0, 0, 1, 0, 0, 0, 0, 0⟩,
        .vext ⟨0, 0, 0, 1, 0, 0, 0, 0⟩,
    .vbcx ⟨0, 0, 1, 0, 0, 0, 0, 0⟩, .vbcxShort ⟨0, 1, 0, 0⟩, .vexpShort ⟨0, 0, 1, 0⟩, .viotaShort ⟨0, 1, 0, 0⟩] : List Instr).all
      (fun i => !i.wf) = true := by decide +kernel
/-- Values that are reserved, or name no register. -/
theorem test_ill_formed_values : ([.widf ⟨0, 0, 6, 0⟩, .mfs ⟨0, 12, 0⟩, .callGuarded ⟨0, 0, 0, 16, 0⟩, .kclr ⟨0, 16, 0, 0⟩,
    .kliw ⟨0, 0, 4, 0⟩, .kpl ⟨0, 16, 0, 0, 0, 0, 0⟩,
    .krl ⟨0, 16, 0, 0, 0, 0, 0⟩, .ld ⟨0, 0, 0, 6, 0, 0, 0, 0, 0⟩, .ld ⟨0, 0, 0, 0, 0, 0, 1, 0, 0⟩,
        .amoSwap ⟨0, 0, 0, 0, 3, 2, 0, 0, 0, 0, 0⟩,
    .amoSwap ⟨0, 0, 0, 0, 0, 1, 0, 0, 0, 0, 0⟩, .amoSwap ⟨0, 0, 0, 0, 0, 2, 0, 0, 0, 3, 0⟩,
        .amoFadd ⟨0, 0, 0, 0, 0, 3, 0, 0, 0, 0, 0⟩,
    .redSwap ⟨0, 0, 0, 0, 0, 2, 0, 0, 0, 1, 0⟩, .redFadd ⟨0, 0, 0, 0, 0, 3, 0, 0, 0, 0, 0⟩,
        .cas ⟨0, 0, 0, 0, 5, 2, 0, 0, 0, 0, 0⟩,
    .pcmp ⟨0, 0, 0, 0, 0x600⟩, .raddr ⟨0, 0, 0, 0, 0x60⟩, .rld ⟨0, 0, 0, 0, 0x60⟩, .rflt ⟨0, 0, 0, 0, 0⟩,
        .trap ⟨0, 0, 0, 0, 0x7F⟩, .rtt ⟨0, 0, 0, 0, 3⟩,
    .mfsr ⟨0, 0, 0, 0, 4⟩, .resumeQueue ⟨0, 0, 0, 0, 0⟩, .vld ⟨0, 0, 0, 0, 2, 0, 0⟩, .vld ⟨0, 0, 0, 1, 0, 0, 0⟩,
        .vext ⟨0, 32, 0, 0, 0, 0, 0, 0⟩,
    .vbcx ⟨0, 0, 0, 32, 0, 0, 0, 0⟩, .vins ⟨0, 0, 0, 32, 0, 0, 0, 0⟩] : List Instr).all (fun i => !i.wf) = true :=
        by decide +kernel
/-! ## Published values, and single steps -/

/-- CRC-64 of R231 over the ASCII digits 1 to 9. -/
theorem test_crc64 : crc64 [0x31, 0x32, 0x33, 0x34, 0x35, 0x36, 0x37, 0x38, 0x39] = 0x995DC9BBDF1939FA := by decide +kernel
/-- FIPS 202: SHAKE256 of the empty message begins 46 b9 dd 2b 0b a8 8d 13. -/
theorem test_shake256_empty : (shake256 [] 8).map BitVec.toNat = [0x46, 0xB9, 0xDD, 0x2B, 0x0B, 0xA8, 0x8D, 0x13] :=
    by decide +kernel
/-- A word placed where the first step fetches, with x1 and x2. -/
def place (w : Nat) (a b : DWord) : State := let s := State.reset.withFetchWord 64 w
  s.setMe { s.me with x := [(1, a), (2, b)] }
def result (w : Nat) (a b : DWord) : Option DWord := match step (place w a b) with | .next t => some (t.rx 3) | _ => none
/-- R73, R108: ADD wraps, and control is at slot 2. -/
theorem test_add_wraps : result 0x04308800 (BitVec.allOnes 64) 2 = some 1 ∧ (stepped (place 0x04308800 0 0)).me.slot = 2 :=
    by decide +kernel
/-- R109: an unsigned quotient by 0 is all ones, the remainder the dividend. -/
theorem test_divide_by_zero : (after (.divu ⟨3, 1, 2, 0⟩) (place 0 7 0)).rx 3 = BitVec.allOnes 64 ∧
    (after (.remu ⟨3, 1, 2, 0⟩) (place 0 7 0)).rx 3 = 7 := by decide +kernel
/-- R109: the most negative value divided by −1 does not trap. -/
theorem test_divide_most_negative : (after (.div ⟨3, 1, 2, 0⟩) (place 0 (2 ^ 63) (BitVec.allOnes 64))).rx 3 = 2 ^ 63 :=
    by decide +kernel
/-- R117, R48: FP32 1.0 + 2.0 is 3.0; a sum of the largest value with itself overflows to ∞ and sets OF and NX. -/
theorem test_fadd : (after (.fadd ⟨3, 1, 2, 0, 0⟩) (place 0 0x3F800000 0x40000000)).rx 3 = 0x40400000 := by decide +kernel
theorem test_fadd_overflows : (after (.fadd ⟨3, 1, 2, 0, 0⟩) (place 0 0x7F7FFFFF 0x7F7FFFFF)).rx 3 = 0x7F800000 :=
    by decide +kernel
/-- R12: x0 stays 0. -/
theorem test_x0 : (after (.add ⟨0, 1, 2, 0⟩) (place 0 5 6)).rx 0 = 0 := by decide +kernel
/-- R118, R119: a branch that is taken, to line 12, slot 3. -/
theorem test_branch : (let t := after (.bne ⟨0, 1, 2, 12, 3⟩) (place 0 1 0); t.me.line = 12 ∧ t.me.slot = 3) := by decide +kernel
/-- R86, R241: an undefined major with no handler traps the strand, code 0x01; the porch gets the event. -/
theorem test_reserved_traps : (let t := stepped (one 0x2A000000); t.me.run = .trapped ∧ (t.part 0).events.map (fun e =>
    e.record.code) = [0x01]) := by
  decide +kernel
/-- R241: with a handler, the pc is tvec and tpc the faulting instruction. -/
theorem test_trap_handler : (let t := stepped ((one 0x2A000000).setMe { (one 0x2A000000).me with trapEn := true, tvec := 0x21 })
    t.me.line = 2 ∧ t.me.slot = 1 ∧ t.me.tpc = 0x11 ∧ t.me.trapIn = true) := by decide +kernel
/-- R144: a misaligned load of 8 bytes is fault 0x05. -/
theorem test_misaligned : (after (.ldS ⟨3, 1, 3, 0, 0, 0, 0⟩) (place 0 4 0)).me.fault.toNat % 2 ^ 8 = 0x05 := by decide +kernel
/-- R146, R135: a store enters the store queue and a later load of the same bytes returns it. -/
theorem test_store_then_load : (after (.ldS ⟨3, 1, 3, 0, 0, 0, 0⟩) (after (.stS ⟨2, 1, 3, 0, 0, 0, 0⟩)
    (place 0 64 0x1122334455667788))).rx 3 =
    0x1122334455667788 := by decide +kernel
/-- R309: an overdue tick counts an overrun and the next is one period later. -/
theorem test_tick_overrun : (let s := one.setGroup 0 { Group.reset with ticking := true, period := 1000000, nextTick := 0, waiting := true }
    let t := after (.tick 0) s; (t.group 0).overrun = 1 ∧ (t.group 0).nextTick = 1000000 ∧ (t.group 0).tickNo = 1) := by decide +kernel
/-- R3: 72 clks at 1.8 GHz are 40 ns. -/
theorem test_clk : (one.elapse 72).tai = 40 ∧ (one.elapse 72).clk = 72 := by decide +kernel
/-! ## Witnesses: scalar forms -/

theorem test_issues_one_word : Issues one 1 (one.guard4 0) [1, 2, 3] := by unfold Issues; decide +kernel
theorem test_issues_two_words : Issues one 2 (one.guard7 0) [1, 2, 3] := by unfold Issues; decide +kernel
theorem test_issues_predicate : (me (fun t => { t with p := [(64, BitVec.allOnes 1024)] })).guard4 8 = true ∧
    (me (fun t => { t with p := [(127, 1)] })).guard7 127 = true := by decide +kernel
theorem test_mfs_last : (11 : BitVec 5).toNat ≤ 11 ∧ one.me.vn ≤ 32 ∧ one.me.pn ≤ 64 := by decide +kernel
theorem test_pcmp_last : (0x500 : BitVec 24).toNat / 2 ^ 8 % 8 ≤ 5 := by decide
theorem test_branch_taken : (1 : BitVec 4) ≠ 0 ∧ Ready one (one.guard7 0) [1, 2] ∧ comparison 0 (one.rx 1) (one.rx 2) = true := by
  unfold Ready; decide +kernel
theorem test_branch_not_taken : Ready one (one.guard7 0) [1, 2] ∧ comparison 1 (one.rx 1) (one.rx 2) = false ∧
    (one.successor 2).isSome = true := by unfold Ready; decide +kernel
theorem test_branch_register : goodTarget ((xs [(5, 0x1FFFFFF)]).rx 5) ∧ Ready (xs [(5, 0x1FFFFFF)]) true [5] := by
  unfold goodTarget Ready; decide +kernel
theorem test_branch_register_bad : ¬ goodTarget ((xs [(5, 0x2000001)]).rx 5) ∧ ¬ goodTarget ((xs [(5, 0x10)]).rx 5) ∧
    Ready (xs [(5, 0x10)]) true [5] := by unfold goodTarget Ready; decide +kernel
/-- A chain that ends: line 0x1FFFFF names no next line. -/
def ended : State := (one.setPhys (placeBase + 64) 4 (0x1FFFFF + 2 ^ 26) 0xF).setMe { one.me with slot := 15 }
theorem test_call_past_end : (15 : BitVec 4) ≠ 0 ∧ ended.successor 1 = none := by decide +kernel
theorem test_call_guarded : (15 : BitVec 5).toNat % 16 ≠ 0 ∧ (15 : BitVec 5).toNat < 16 ∧ Issues one 2 (one.guard7 0) [] := by
  unfold Issues; decide +kernel
theorem test_loopset : (0x3F0001 : BitVec 24).toNat / 2 ^ 16 ≤ 63 ∧ one.me.pn ≤ 64 := by decide +kernel
/-- In a loop of 3 rounds with one stage more. -/
def looping (j lc : DWord) : State := me (fun t => { t with lc := lc, ec := 2 ^ 56 + j, pn := 64, vn := 32 })
theorem test_bloop_taken : (looping 2 3).me.pn ≤ 64 ∧ ((looping 2 3).me.ec >>> 56).toNat ≤ 63 ∧
    (let s := looping 2 3
     s.me.lc.toNat ≠ 0 ∧ s.me.ec.toNat % 2 ^ 56 + 1 < s.me.lc.toNat + s.me.ec.toNat / 2 ^ 56) := by decide +kernel
theorem test_bloop_falls_through : (let s := looping 3 3
    ¬ s.me.ec.toNat % 2 ^ 56 + 1 < s.me.lc.toNat + s.me.ec.toNat / 2 ^ 56 ∧ (s.successor 1).isSome = true) ∧
    (looping 0 0).me.lc.toNat = 0 := by decide +kernel
/-! ## Witnesses: waits, wakes, the watchdog -/

/-- Ring 2 on, of 4 slots of 64 bytes at 0, with these counters. -/
def ringAt (claim tail head : BitVec 9) (s : State := one) : State :=
  co (fun k => k.setRing 2 { Ring.reset with en := true, claim := claim, tail := tail, head := head, scount := 3, ssize := 1, sstride := 1 }) s
/-- The strand's run state. -/
def parked (w : WaitFor) (s : State := one) : State := s.setMe { s.me with run := .parked w }
/-- Core 0 serves group 0. -/
def grouped (s : State := one) : State :=
  co (fun k => { k with active := some { Plane.bare 1 1 with group := some 0 } }) s
/-- Queue 0 has completed n macros. -/
def joined (n : Word) (m : Word) : State :=
  co (fun k => k.setQueue 0 { k.queue 0 with left := n }) (me (fun t => { t with markers := [(0, some m)] }))

theorem test_wait_ready : WaitReady one (one.guard4 0) [5] := by unfold WaitReady Ready; decide +kernel
/-- WAIT.RING 2, 4 slots, of a full ring; WAIT.FREE of the empty one. -/
def ring2 : FW := ⟨0x02003, 0⟩
theorem test_wait_ring : WaitReady (ringAt 4 4 0) true [] ∧ ((ringAt 4 4 0).myRing (waitRing ring2)).en = true ∧
    waitCount ring2 = 4 ∧
    waitCount ring2 ≤ ((ringAt 4 4 0).myRing (waitRing ring2)).scount.toNat + 1 ∧
    (∀ e ∈ ringWaits.take 1, waitCount ring2 ≤ e.2.1 ((ringAt 4 4 0).myRing (waitRing ring2))) ∧
    (∀ e ∈ ringWaits.drop 1, waitCount ring2 ≤ e.2.1 ((ringAt 0 0 0).myRing (waitRing ring2))) := by
  unfold WaitReady Ready ringWaits; decide +kernel
theorem test_wait_ring_parks : (∀ e ∈ ringWaits, e.2.1 ((ringAt 4 3 0).myRing (waitRing ring2)) < waitCount ring2) := by
  unfold ringWaits; decide +kernel
theorem test_wait_join : JoinHolds (joined 7 7) 1 ∧ ¬ JoinHolds (joined 6 7) 1 ∧ WaitReady (joined 7 7) true [] := by
  refine ⟨?_, ?_, by unfold WaitReady Ready; decide +kernel⟩
  · intro j hj hm m h
    have : j = 0 := by
      rcases j with _ | j
      · rfl
      · exact absurd hm (by have : ∀ k < 14, (1 : BitVec 14).getLsbD (k + 1) = false := by decide
                            rw [this j (by omega)]; decide)
    subst this
    have hk : (joined 7 7).me.markers.get none 0 = some 7 := by decide +kernel
    rw [hk] at h
    cases h
    decide +kernel
  · intro h
    have := h 0 (by decide) (by decide) 7 (by decide +kernel)
    revert this
    decide +kernel
theorem test_wait_time : ((xs [(5, 0)]).rx 5).toNat ≤ (xs [(5, 0)]).tai ∧ (xs [(5, 1)]).tai < ((xs [(5, 1)]).rx 5).toNat :=
    by decide +kernel
theorem test_wait_step : WaitReady (grouped) true [] ∧ (grouped).myGroup.isSome = true ∧ one.myGroup = none := by
  unfold WaitReady Ready; decide +kernel
theorem test_wait_ring_faults : (one.myRing (waitRing ring2)).en = false ∧
    ((ringAt 0 0 0).myRing (waitRing ⟨0x02004, 0⟩)).scount.toNat + 1 < waitCount ⟨0x02004, 0⟩ := by decide +kernel
/-- The next line begins no block. -/
def noBlock : State := one.setPhys (placeBase + 64) 4 1 0xF
theorem test_no_block : noBlock.nextLine = some 1 ∧ noBlock.imageOf noBlock.cur = some placedImage ∧
    (noBlock.imageWord placedImage 1 0).getLsbD 26 = false := by decide +kernel
/-- p1 is 0: guard 1 is off. -/
theorem test_guard_off : one.guard4 1 = false ∧ one.guard7 1 = false ∧ one.blockEnd = none ∧ one.nextLine = some 1 ∧
    (one.successor 1).isSome = true ∧ (one.successor 2).isSome = true := by decide +kernel
theorem test_wake_ring : (let u := parked (.ring 2 4 .met); u.nextLine.isSome = true ∧ u.me.run = .parked (.ring 2 4 .met)) ∧
    (parked (.free 2 4 .broken)).me.run = .parked (.free 2 4 .broken) ∧
    ((co (fun k => k.putRing 2 ((ringAt 4 4 0).myRing 2)) (parked (.ring 2 4 .waiting))).me.run = .parked (.ring 2 4 .met)) := by
  decide +kernel
theorem test_wake_time : (let u := parked (.time 0); u.nextLine.isSome = true ∧ u.me.run = .parked (.time 0) ∧ u.tai = 0) ∧
    (parked (.clk 0)).me.run = .parked (.clk 0) := by decide +kernel
theorem test_wake_join : (parked (.join 0)).me.run = .parked (.join 0) ∧ JoinHolds (parked (.join 0)) 0 := by
  refine ⟨by decide +kernel, fun j hj h => ?_⟩
  have : ∀ k < 14, (0 : BitVec 14).getLsbD k = false := by decide
  rw [this j hj] at h
  cases h
/-- A monitor on byte 0 of the scratchpad. -/
def watch (hit : Bool) (dest : Option (BitVec 5)) (due : Option DWord) : Monitor := ⟨0, 0, 0, 0, 0, hit, dest, due⟩
theorem test_wake_monitor : (parked (.monitor (watch true none none))).me.run = .parked (.monitor (watch true none none)) ∧
    (let u := parked (.monitor (watch false (some 5) (some 0)));
     u.me.run = .parked (.monitor (watch false (some 5) (some 0))) ∧ (0 : DWord).toNat ≤ u.tai) := by decide +kernel
/-- MWAIT.S x5, x6, byte, equal; and unequal. -/
theorem test_monitor : (let s := xs [(5, 64), (6, 0)]
    WaitReady s true [5, 6] ∧ s.checkAccess s.cur 0 64 1 false s.me.cls = none ∧ s.checkAccess s.cur 5 64 1 false s.me.cls =
        none ∧
    s.isPorch = false ∧ monitorHolds 1 (bytesAt (s.core s.myCore).scratch 64 1) 0 ∧
    ¬ monitorHolds 0 (bytesAt s.records 64 1) 0 ∧ monitorHolds 2 0 0 ∧ ¬ monitorHolds 3 0 0) := by
  unfold WaitReady Ready; simp only [monitorHolds]; decide +kernel
/-- Address space 1 with its root at physical 0x10_0000 and a leaf that maps va 0 on. -/
theorem test_halt : one.cur = .strand 0 0 ∧ one.guard4 0 = true ∧ one.me.storeq = [] := by decide +kernel
/-- Porch queue 0 in a run. -/
def porch : State :=
  { one.setPorchQueue 0 { one.porchQueue 0 with running := true, strand := one.me } with cur := .porch 0 }
theorem test_halt_porch : porch.cur = .porch 0 ∧ porch.guard4 0 = true ∧ porch.me.storeq = [] ∧ porch.isPorch = true :=
    by decide +kernel
theorem test_watchdog : (let u := me (fun t => { t with wlim := 4, wcount := 16 }); u.me.run = .ready ∧
    2 ^ u.me.wlim.toNat ≤ u.me.wcount.toNat) ∧
    (let u := me (fun t => { t with wlim := 4, wcount := 15 }); u.me.wcount.toNat < 2 ^ u.me.wlim.toNat) := by decide +kernel
/-- Strands 0 and 3 ready, the pointer at 3. -/
def two : State := co (fun k => { k.setStrand 3 (k.strand 0) with holder := none, rr := 3 })
theorem test_issue_select : (let c := two.core 0
    c.holder = none ∧ c.fenced = false ∧ (c.strand 3).run = .ready ∧
    (∀ j < 8, (c.strand j).run = .ready → c.pressure (c.strand j) ≤ c.pressure (c.strand 3)) ∧
    (∀ j < 8, (c.strand j).run = .ready → c.pressure (c.strand j) = c.pressure (c.strand 3) →
      (3 + 8 - c.rr.toNat) % 8 ≤ (j + 8 - c.rr.toNat) % 8)) := by decide +kernel
/-! ## Witnesses: loads, stores, atomics, fences, caches -/

/-- Core 0 runs in address space 0, whose addresses are physical ones. -/
def flat (s : State := one) : State := co (fun k => { k with active := some (Plane.bare 1 0) }) s
/-- A line of L1 at address 0 with dirty bytes, read by classes. -/
def line0 (dirty : BitVec 64) : L1Line := ⟨0, 0, 0, BitVec.allOnes 64, dirty, 1, 0, 0xAB⟩
def withL1 (l : List L1Line) (s : State := flat) : State := co (fun k => { k with l1 := l }) s
/-- The strand's store queue. -/
def queued (l : List StoreEntry) (s : State := flat) : State := s.setMe { s.me with storeq := l }
def entry (space : BitVec 3) (addr : Nat) (kind : StoreKind := .store) (scope : BitVec 2 := 0) : StoreEntry :=
  { storeOf space addr 8 0x0123456789ABCDEF 2 scope with kind := kind }
/-- LD.W x1, [x5], 8 bytes; and its long form in a space. -/
def ld8 : FM := ⟨1, 5, 3, 1, 2, 0, 0⟩
def ldl (space : BitVec 3) (scope : BitVec 2 := 0) : FML := ⟨0, 1, 5, space, 3, 1, 2, scope, 0⟩
def at5 (a : DWord) (s : State := flat) : State := s.setMe { s.me with x := [(5, a)] }

theorem test_plain_load : Issues (at5 0x40) 1 true [1, 5] ∧ (at5 0x40).me.storeq = [] ∧ (at5 0x40).bad = [] ∧
    (∀ sp ∈ [0, 1, 5], (at5 0x40).checkAccess (at5 0x40).cur sp (shortAddr (at5 0x40) ld8) (2 ^ ld8.sz.toNat) false 2 = none) ∧
    accessClass (at5 0x40) ld8.xc ld8.cls = 2 ∧ longAddr (at5 0x40) (ldl 0) = 0x40 := by unfold Issues; decide +kernel
theorem test_plain_load_ends : (at5 0x2FFFF8).checkAccess (at5 0).cur 0 0x2FFFF8 8 false 2 = none ∧
    (at5 0xFFFF8).checkAccess (at5 0).cur 5 0xFFFF8 8 false 2 = none := by decide +kernel
/-- Host windows of the partition: one at [0, 4096) that lies at host 0x1000. -/
def hosted (s : State := flat) : State := { s with cfg := { s.cfg with hostOut := [⟨0, 4096, 0x1000, true⟩] } }
theorem test_host_load : (hosted (at5 0xFF8)).checkAccess (hosted).cur 3 0xFF8 8 false 2 = none ∧
    ((hosted (at5 0xFF8)).hostWindow 0xFF8 8).isSome = true := by decide +kernel
/-- A fabric address: package 0, window 0. -/
theorem test_fabric_load : (at5 0).checkAccess (at5 0).cur 4 0 8 false 2 = none ∧ (at5 0).canInject 1 = true ∧
    (ldl 4).space = 4 := by decide +kernel
theorem test_pooled_load : (at5 0x40).checkAccess (at5 0).cur 2 0x40 8 false 2 = none ∧
    Maps (at5 0x40) ((at5 0x40).translate 0 0x40 8 false true).2 0x40 8 false 0x40 0 ∧ (0x40 : Nat) % 64 = 0x40 % 64 ∧
    (((at5 0x40).translate 0 0x40 8 false true).2.successor 2).isSome = true ∧
    (((at5 0x40).translate 0 0x40 8 false true).2.core 0).l1Find 0 1 = none ∧
    ((at5 0x40).translate 0 0x40 8 false true).2.canonical 0 0 1 1 = true := by
  unfold Maps; decide +kernel
/-- Address space 1: the level-0 table at 0x10_0000 names one at 0x10_1000, whose entry 0 maps the first 2^36 bytes. -/
def mapped : State := one.setPhys 0x100000 8 0x101001 0xFF |>.setPhys 0x101000 8 7 0xFF
theorem test_mapped : (match (mapped.translate 1 0x40 8 true true).1 with | .ok pa pol => pa == 0x40 && pol == 0 | _ => false) = true ∧
    (match (one.translate 1 0x40 8 true true).1 with | .fault c => c == 0x06 | _ => false) = true := by decide +kernel
theorem test_store_queue : (at5 0x40).me.storeq.length < 32 ∧
    (∀ sp ∈ [0, 1, 5], (at5 0xE8).checkAccess (at5 0).cur sp 0xE8 8 true 2 = none) ∧
    (at5 0x2FDFF8).checkAccess (at5 0).cur 0 0x2FDFF8 8 true 2 = none ∧ longScope 4 0 = 3 := by decide +kernel
theorem test_stl : Ready (at5 0x40) true [1, 5] ∧ (((at5 0x40).releaseL1 true 0xFFFF).successor 2).isSome = true := by
  unfold Ready; decide +kernel
theorem test_store_performed : (∀ sp ∈ [0, 1, 5], (let s := queued [entry sp 0xE8]; let e := entry sp 0xE8
    (s.strandOf (.strand 0 0)).storeq = e :: [] ∧ e.keep = 2 ^ e.size - 1 ∧ e.data < 2 ^ (8 * e.size) ∧ e.fault = none ∧
    e.sent = none ∧ e.rel = false ∧ s.fencedOff (.strand 0 0) = false ∧ e.size ≤ 8 ∧ s.bad = [] ∧ e.kind = .store)) ∧
    (coreOf (.strand 0 0)).isSome = true ∧ 0xE0 ≤ 0xE8 % 256 ∧ 0xE8 % 256 + 8 ≤ 256 := by decide +kernel
theorem test_red_performed : ∀ op < 16, (atomicForms[op]?).isSome = true ∧
    (entry 0 0 (.atomic (BitVec.ofNat 4 op))).kind = .atomic (BitVec.ofNat 4 op) ∧ (entry 0 0).space ≠ 5 := by decide +kernel
theorem test_host_store : ((hosted (queued [entry 3 0])).hostWindow 0 8).isSome = true ∧
    (∀ w, (hosted (queued [entry 3 0])).hostWindow 0 8 = some w → w.writable = true) ∧
    (queued [entry 3 0]).hostWindow 0 8 = none := by
  refine ⟨by decide +kernel, fun w h => ?_, by decide +kernel⟩
  have hw : (hosted (queued [entry 3 0])).hostWindow 0 8 = some ⟨0, 4096, 0x1000, true⟩ := by decide +kernel
  rw [hw] at h
  cases h
  rfl
theorem test_pooled_store : ∀ sc ∈ [0, 1], (let s := queued [entry 2 0x1000 .store sc]; let v :=
    (s.translate 0 0x1000 8 true true).2
    (s.translate 0 0x1000 8 true true).1 = .ok 0x1000 0 ∧ s.registerBytes 0x1000 8 = none ∧
        (v.walked.all (fun w => w.1 != 0x40)) = true ∧
    v.roKeep 0x1000 8 = 2 ^ 8 - 1 ∧ v.canonical 0 0 0x40 0x40 = true) := by decide +kernel
theorem test_fabric_store : (queued [entry 4 0]).canInject 1 = true ∧ (entry 4 0 (.atomic 1)).kind = .atomic 1 :=
    by decide +kernel
theorem test_bad_row : (let s := { queued [entry 1 0] with bad := [(0, true)] }
    s.badPlaced (0 / 2 ^ 27) (0 % 2 ^ 27) 8 = true ∧ (entry 1 0).kind = .store) := by decide +kernel
theorem test_store_behind : (let s := queued [entry 1 0, entry 0 8]; ∃ i < (1 : BitVec 5).toNat,
    ∃ f, (s.strandOf (.strand 0 0)).storeq[i]? = some f ∧ f.cls = (entry 0 8).cls) := ⟨0, by decide, entry 1 0, by decide +kernel⟩
/-- AMO on x5 with x6, .S; CAS x1, x5, x6, x7. -/
theorem test_atomic : (let s := at5 0x40; Ready s true [1, 5, 6] ∧ Ready s true [1, 5, 6, 7] ∧ s.me.run = .ready ∧
    s.checkAccess s.cur 0 0x40 8 true 2 = none ∧ s.checkAccess s.cur 1 0x40 8 true 2 = none ∧
    s.checkAccess s.cur 2 0x40 8 true 2 = none ∧ s.checkAccess s.cur 4 0 8 true 2 = none ∧ s.isPorch = false) ∧
    ((at5 0x40).successor 2).isSome = true ∧ (((at5 0x40).releaseL1 false 0xFFFF).successor 2).isSome = true := by
  unfold Ready; decide +kernel
theorem test_atomic_pooled : (let v := ((at5 0x40).translate 0 0x40 8 true true).2
    v.roKeep 0x40 8 = 2 ^ 8 - 1 ∧ (v.walked.all (fun w => w.1 != 1)) = true ∧ (v.core 0).l1Find 0 1 = none) := by decide +kernel
theorem test_access_faults : shortAddr (at5 0x41) ld8 % 2 ^ ld8.sz.toNat ≠ 0 ∧ 0x300000 ≤ shortAddr (at5 0x300000) ld8 ∧
    shortAddr (at5 0x300000) ld8 % 8 = 0 ∧ 0x2FE000 ≤ shortAddr (at5 0x2FE000) ld8 ∧ shortAddr (at5 0x2FE000) ld8 < 0x300000 ∧
    2 ^ 52 ≤ shortAddr (at5 (2 ^ 52)) ld8 ∧ 2 ^ 20 ≤ shortAddr (at5 (2 ^ 20)) ld8 := by decide +kernel
theorem test_absent_place : (let s := { at5 0 with cfg := { Cfg.default with absent := [0] } }
    shortAddr s ld8 < 2 ^ 40 ∧ shortAddr s ld8 % 2 ^ 27 < s.placedBytes ∧ s.present (shortAddr s ld8 / 2 ^ 27) = false) := by
  decide +kernel
theorem test_bad_load : (let s := { at5 0 with bad := [(0, true)] }
    s.checkAccess s.cur 1 (shortAddr s ld8) 8 false 2 = none ∧ s.badPlaced 0 0 8 = true) := by decide +kernel
theorem test_fence : Ready flat (flat.guard4 0) [] ∧ flat.me.storeq = [] ∧ flat.me.slot.toNat ≤ 13 := by
  unfold Ready; decide +kernel
theorem test_release : (let s := withL1 [line0 1, { line0 0 with vline := 1, pline := 1 }]
    s.isPorch = false ∧ (s.walked.all (fun w => w.1 != 0)) = true ∧ ((s.core s.myCore).l1.filter (fun l => l.dirty != 0)).length
        = 1) := by
  decide +kernel
theorem test_cache_forms : 2 ^ 52 ≤ ((at5 (2 ^ 52)).rx 5).toNat ∧ ((at5 0x40).rx 5).toNat < 2 ^ 52 ∧
    ((at5 0x40).rx 5).toNat % 64 = 0 ∧
    ((at5 0x41).rx 5).toNat % 64 ≠ 0 ∧ 2 ^ 30 < ((at5 (2 ^ 30 + 1)).rx 5).toNat ∧ ((at5 (2 ^ 30)).rx 5).toNat ≤ 2 ^ 30 :=
        by decide +kernel
theorem test_cache_l1 : ∀ fn ∈ [8, 9, 10], (let e := { entry 2 0 (.cache (BitVec.ofNat 4 fn) 64) with size := 64 }
    let s := queued [e] (withL1 [line0 1])
    (s.strandOf (.strand 0 0)).storeq = e :: [] ∧ e.addr % 64 = 0 ∧ e.scope = 0 ∧ s.fencedOff (.strand 0 0) = false ∧
    (s.core 0).l1Find 0 0 = some (line0 1) ∧ (line0 1).dirty ≠ 0 ∧
    (s.translate 0 0 1 true false).1 = .ok 0 0 ∧ ((s.translate 0 0 1 true false).2.core 0).l1 = (s.core 0).l1 ∧
    ((s.translate 0 0 1 true false).2.walked.all (fun w => w.1 != 0)) = true) := by decide +kernel
def l2line (dirty : Bool) : L2Line := ⟨0, [⟨0, 0, 0⟩], none, dirty, 0xCD⟩
theorem test_cache_l2 : ∀ fn ∈ [8, 9, 10], (let e := { entry 2 0 (.cache (BitVec.ofNat 4 fn) 64) 1 with size := 64 }
    let s := { queued [e] (withL1 []) with l2 := [l2line true] }
    (s.strandOf (.strand 0 0)).storeq = e :: [] ∧ e.scope ≠ 0 ∧ (s.core 0).l1 = [] ∧ (l2line true).dirty = true ∧
    (s.translate 0 0 1 true false).1 = .ok 0 0 ∧ (s.translate 0 0 1 true false).2.l2 = s.l2 ∧
    ((s.translate 0 0 1 true false).2.translate 0 0 1 false false).1 = .ok 0 0) := by decide +kernel
/-- A line that may not be written: its page has gone. -/
theorem test_cache_fault : (let e := { entry 2 0 (.cache 8 64) with size := 64 }
    let s := queued [e] (withL1 [{ line0 1 with asid := 1 }] one)
    (s.core 0).l1 = [{ line0 1 with asid := 1 }] ∧ s.asidOf (.strand 0 0) = 1 ∧
    (s.translate 1 0 1 true false).1 = .fault 0x06) := by decide +kernel
theorem test_load_return : (let s := parked (.clk 0) one
    (∀ need, s.me.run ≠ .memory need)) ∧ (me (fun t => { t with run := .memory [3], inflight := [3] })).me.run = .memory [3] := by
  refine ⟨fun need h => ?_, by decide +kernel⟩
  have : (parked (.clk 0) one).me.run = .parked (.clk 0) := by decide +kernel
  rw [this] at h
  cases h
theorem test_l1_eviction : ((withL1 [line0 1]).core 0).l1[(0 : BitVec 10).toNat]? = some (line0 1) ∧
    ((withL1 [line0 1]).core 0).fenced = false ∧ ((withL1 []).core 0).l1.length ≤ (0 : BitVec 10).toNat := by decide +kernel
theorem test_l2_eviction : ({ flat with l2 := [l2line true] } : State).l2[(0 : BitVec 32).toNat]? = some (l2line true) ∧
    flat.l2.length ≤ (0 : BitVec 32).toNat := by decide +kernel
theorem test_translation : (parked (.translation 0x40 2 5) mapped).me.run = .parked (.translation 0x40 2 5) ∧
    (match ((parked (.translation 0x40 2 5) mapped).walk 1 0x40 false).1 with | .ok pa _ _ => pa == 0x40 | _ => false) = true ∧
    (match ((parked (.translation 0x40 2 5) one).walk 1 0x40 false).1 with | .notPresent _ => true | _ => false) = true ∧
    (parked (.translation 0x40 2 5)).tai < 5 ∧ (parked (.translation 0x40 2 0)).tai ≥ 0 := by decide +kernel
/-- A table address beyond pooled memory. -/
theorem test_translation_beyond : (match ((parked (.translation 0 2 5) (one.setPhys 0x100000 8 (2 ^ 35 + 1) 0xFF)).walk 1 0
    false).1 with
    | .beyond => true | _ => false) = true := by decide +kernel
/-- In park mode a store whose page is not there misses. -/
theorem test_store_miss : (let s := queued [entry 2 0x40] (one.setPart 0 { one.part 0 with parkMode := true })
    (s.translate (s.asidOf (.strand 0 0)) 0x40 8 true true).1 = .miss ∧ s.fencedOff (.strand 0 0) = false) := by decide +kernel
/-- A load of the fabric under way, and a strand with such loads. -/
def far1 (id : Nat) (dest : BitVec 5 := 5) (cls : BitVec 4 := 2) : FarLoad :=
    ⟨some id, dest, 0x13, 4, 2 * 2 ^ 40 + 0x40, 8, cls, false, false, false, none, 0, [], none⟩
def farLoading (l : List FarLoad) (s : State := one) : State :=
    s.setMe { s.me with far := l, inflight := l.map (fun f => f.dest) }
/-! ## Witnesses: the vector unit, rings, command registers -/

/-- The strand may name all 64 vector registers. -/
def vec (s : State := flat) : State := s.setMe { s.me with wv := 64 }
theorem test_vector_ready : VectorReady vec 2 [63, 0, 1, 2] [31] ∧ VectorReady vec 1 [63] [] :=
    by unfold VectorReady; decide +kernel
theorem test_vector_group : (62 : BitVec 6).toNat + 32 / 16 ≤ vec.me.wv ∧ (62 : BitVec 6).toNat + 32 / 16 ≤ 64 ∧
    (∀ j < 32 / 16, vec.vphys ((62 : BitVec 6).toNat + j) ≠ vec.vphys (0 : BitVec 6).toNat) ∧
    (∀ j < 32 / 4, vec.vphys ((56 : BitVec 6).toNat + j) ≠ vec.vphys (0 : BitVec 6).toNat) := by decide +kernel
theorem test_vector_faults : (∃ n ∈ vectorNames 2 0 1 2 3, flat.me.wv ≤ n.toNat) ∧ (∀ n ∈ vectorNames 3 0 1 63 3,
    n.toNat < vec.me.wv) ∧
    64 < (63 : BitVec 6).toNat + 32 / 16 ∧ (∃ j < 32 / 16, vec.vphys ((62 : BitVec 6).toNat + j) = vec.vphys
        (63 : BitVec 6).toNat) := by
  refine ⟨⟨0, by decide, by decide +kernel⟩, by decide +kernel, by decide, ⟨1, by decide, by decide +kernel⟩⟩
theorem test_reducible : reducible 0 0 3 ∧ reducible 2 0 0 ∧ reducible 3 3 0 ∧ reducible 7 3 0 := by unfold reducible; decide
theorem test_topk : 1 ≤ (64 : BitVec 13).toNat ∧ (64 : BitVec 13).toNat ≤ 64 ∧ (62 : BitVec 6).toNat + 1 < vec.me.wv ∧
    (62 : BitVec 6).toNat + 1 < 64 ∧ vec.vphys 62 ≠ vec.vphys 0 ∧ vec.vphys 63 ≠ vec.vphys 0 := by decide +kernel
/-- VLD of the last image of the scratchpad, and ring-relative at ring 2 with slots of 4 KiB. -/
def vld0 (mode : BitVec 2) : FVM := ⟨0, 1, 5, 2, mode, 2, 0⟩
def vring (s : State) : State :=
    co (fun k => k.setRing 2 { Ring.reset with en := true, claim := 4, tail := 2, scount := 3, ssize := 64 }) s
theorem test_image : ImageAt (at5 0x2FF000 vec) (vld0 0) false 4096 0x2FF000 ∧ ImageAt (at5 0x2FD000 vec) (vld0 0) true 4096
    0x2FD000 := by
  unfold ImageAt ringServes; simp only [vld0]; decide +kernel
theorem test_image_ring : ImageAt (vring (at5 3 vec)) (vld0 1) false 4096 0x3000 ∧ ImageAt (vring (at5 1 vec)) (vld0 1) true
    4096 0x3000 := by
  unfold ImageAt ringServes; simp only [vld0]; decide +kernel
theorem test_vst_elements : Active (vec.me.mask7 0) 15 63 ∧ (∀ e ∈ vectorLayouts, e.2.2.2.2.2.2 0 0 = true) ∧
    vec.me.mask7 1 = 0 := by
  unfold Active vectorLayouts; decide +kernel
theorem test_ring_off : ¬ ringServes (vec.myRing 2) 0 64 ∧ ¬ ringServes ((vring vec).myRing 2) 64 4096 ∧
    ringServes ((vring vec).myRing 2) 0 4096 := by
  unfold ringServes; decide +kernel
/-- Counts at the ends of what ring 2 holds: 4 slots, 2 filled, 1 claimed. -/
def ring3 : Ring := (ringAt 3 2 0).myRing 2
theorem test_ring_counts : ring3.en = true ∧ ring3.mode ≠ 1 ∧ 1 + filledOf ring3 + claimedOf ring3 ≤ slotsOf ring3 ∧
    1 ≤ claimedOf ring3 ∧
    2 ≤ filledOf ring3 ∧ slotsOf ring3 < 2 + filledOf ring3 + claimedOf ring3 ∧ claimedOf ring3 < 2 ∧ filledOf ring3 < 3 :=
        by decide +kernel
/-- A barrier of 4 parties with 3 arrivals. -/
def barrier (tail : BitVec 9) : State :=
    co (fun k => k.setRing 2 { Ring.reset with en := true, mode := 1, tail := tail, claim := tail, scount := 3 })
theorem test_barrier : (let r := (barrier 3).myRing 2; r.en = true ∧ r.mode = 1 ∧ filledOf r + 1 = slotsOf r ∧
    1 + filledOf r ≤ slotsOf r) ∧
    filledOf ((barrier 2).myRing 2) + 1 < slotsOf ((barrier 2).myRing 2) ∧
    slotsOf ((barrier 4).myRing 2) ≤ filledOf ((barrier 4).myRing 2) := by decide +kernel
theorem test_barrier_wake : (let u := parked (.barrier 2 3 .waiting) (co (fun k =>
    k.setRing 2 { Ring.reset with en := true, mode := 1, head := 4, tail := 4, claim := 4, scount := 3 }))
    u.nextLine.isSome = true ∧ u.me.run = .parked (.barrier 2 3 .waiting) ∧ (u.myRing 2).en = true ∧ (u.myRing 2).mode = 1 ∧
    ((u.myRing 2).head - 3 - 1).toNat < 256) := by decide +kernel
/-- RLD and RST of 8 bytes in the slot of counter 1, claimed in full. -/
theorem test_ring_access : (let s := ringAt 3 2 0 (at5 56); let r := s.myRing 2
    (s.rx 5).toNat + 8 ≤ r.ssize.toNat * 64 ∧ (slotAddrOf r 2 + 56) % 8 = 0 ∧ (2 + 512 - r.head.toNat) % 512 < filledOf r +
        claimedOf r ∧
    (2 + 512 - r.tail.toNat) % 512 < claimedOf r ∧ s.isPorch = false ∧ s.checkAccess s.cur 0 (slotAddrOf r 2 + 56) 8 false 0 =
        none ∧
    s.checkAccess s.cur 0 (slotAddrOf r 2 + 56) 8 true 0 = none) := by decide +kernel
/-- RCFG: a ring of 4 slots of 64 bytes; ring 2 named by an accepted macro. -/
theorem test_rcfg : (ringOfWords ((3 <<< 30) ||| (1 <<< 22)) 8).wellFormed = true ∧
    (ringOfWords ((3 <<< 30) ||| (1 <<< 22)) 8).en = true ∧
    (ringOfWords 0 8).wellFormed = false ∧ (ringOfWords 0 0).en = false ∧ (one.core one.myCore).ringBusy 2 = false :=
        by decide +kernel
theorem test_kclr : (13 : BitVec 5).toNat + (2 : BitVec 32).toNat % 4 + 1 ≤ 16 ∧
    16 < (14 : BitVec 5).toNat + (2 : BitVec 32).toNat % 4 + 1 := by decide
theorem test_kins : (127 : BitVec 7).toNat + 1 ≤ 128 * (16 - (15 : BitVec 4).toNat) ∧ 128 * (16 - (15 : BitVec 4).toNat) <
    (127 : BitVec 7).toNat + 2 := by decide
theorem test_places : goodPlace one 0xFBF 0 0 ∧ insidePartition one 0xFBF ∧ goodPlace one 0 31 63 ∧ ¬ goodPlace one 64 0 0 ∧
    (103 : BitVec 7).toNat + 25 ≤ 128 * (16 - (15 : BitVec 5).toNat) := by unfold goodPlace insidePartition; decide +kernel
theorem test_place_outside : (let s := one.setPart 0 { one.part 0 with rect := 0 }; goodPlace s 1 0 0 ∧
    ¬ insidePartition s 1) := by
  unfold goodPlace insidePartition; decide +kernel
/-- A macro in k0: ASWAP of queue 0, columns 1. -/
def withK (m : BitVec 128) (s : State := one) : State := s.setMe { s.me with k := [(0, m)] }
theorem test_push : (let s := withK 0x10002; macroFault 0 1 (macroAt s 0 1).toNat = none ∧
    ¬ queueDepth 0 ≤ ((s.core s.myCore).queue 0).entries.length) ∧
    (macroFault 0 1 (macroAt one 0 1).toNat).isSome = true := by decide +kernel
def fullQueue (s : State := withK 0x10002) : State :=
  co (fun k => k.setQueue 0 { k.queue 0 with entries := List.replicate 16 ⟨0x10002, 1, 0, 1, []⟩ }) s
theorem test_push_full : queueDepth 0 ≤ ((fullQueue.core fullQueue.myCore).queue 0).entries.length ∧
    WaitReady fullQueue true [] := by
  unfold WaitReady Ready; decide +kernel
theorem test_push_wake : (let u := parked (.push 0 0x10002 1); u.nextLine.isSome = true ∧ u.me.run = .parked (.push 0 0x10002 1) ∧
    ((u.core 0).queue 0).entries.length < queueDepth 0) := by decide +kernel
/-! ## Witnesses: engines -/

/-- A macro from its fields (lowest bit, value). -/
def fields (l : List (Nat × Nat)) : Nat := l.foldl (fun m e => m + e.2 * 2 ^ e.1) 0
def command (m : Nat) : Command := ⟨BitVec.ofNat 512 m, 1, 0, 1, List.replicate 8 0⟩
/-- Queue q of core 0 with one macro at its head; `started` with its counters. -/
def engine (q m : Nat) (started : Bool := false) (ctr : Nat := 0) (s : State := flat) : State :=
  co (fun k => k.setQueue q { Queue.reset with entries := [command m], mseq := 1, started := started, ctr := BitVec.ofNat 80 ctr, phase := 2 }) s
/-- An 8-slot ring 2 of 4 KiB slots with two filled. -/
def engineRing (s : State) : State :=
  co (fun k => k.setRing 2 { Ring.reset with en := true, tail := 2, claim := 2, scount := 7, ssize := 64 }) s
def engineReady (q m : Nat) (s : State) : Bool :=
  decide (((s.core 0).queue q).entries = [command m]) && decide (((s.core 0).queue q).parked = none) && !(s.core 0).fenced &&
    !s.coreStopped 0 && !(s.core 0).gated q (command m)
theorem engineReady_spec (q m mop : Nat) (s : State) (h : engineReady q m s = true) (hm : (command m).bits.toNat % 256 = mop) :
    EngineReady s 0 q mop (command m) [] := by
  simp only [engineReady, Bool.and_eq_true, decide_eq_true_eq, Bool.not_eq_true'] at h
  exact ⟨h.1.1.1.1, h.1.1.1.2, h.1.1.2, h.1.2, h.2, hm⟩

/-- ALATCH of row 124,927, the last a program may read by default, in column 0 of row sequencer 0. -/
def alatch (row : Nat) : Nat := fields [(0, 1), (16, 1), (24, 1), (28, row)]
theorem test_alatch : EngineReady (engine 0 (alatch 65407)) 0 0 0x01 (command (alatch 65407)) [] ∧
    (let s := engine 0 (alatch 65407); fieldOf (command (alatch 65407)).bits.toNat 28 17 < s.cfg.placedRows - s.cfg.cellarRows ∧
      s.bad = [] ∧ s.present (corePlace 0 0 0) = true ∧ ((s.core 0).array 0).fill = none) :=
  ⟨engineReady_spec _ _ _ _ (by decide +kernel) (by decide +kernel), by decide +kernel⟩
theorem test_alatch_parks : Cfg.default.placedRows ≤ fieldOf (command (alatch 65536)).bits.toNat 28 17 ∧
    (let row := fieldOf (command (alatch 65408)).bits.toNat 28 17
     row < Cfg.default.placedRows ∧ Cfg.default.placedRows - Cfg.default.cellarRows ≤ row) ∧
    ({ engine 0 (alatch 5) with bad := [(5, true)] } : State).badRow (shaftIndex (corePlace 0 0 0)) 5 = true := by decide +kernel
theorem test_aswap : EngineReady (engine 0 (fields [(0, 2), (16, 1)])) 0 0 0x02 (command (fields [(0, 2), (16, 1)])) [] ∧
    (flat.shaft (shaftIndex (corePlace 0 0 0))).open_ = false ∧
    ((flat.setShaft 0 { flat.shaft 0 with open_ := true }).shaft (shaftIndex (corePlace 0 0 0))).open_ = true :=
  ⟨engineReady_spec _ _ _ _ (by decide +kernel) (by decide +kernel), by decide +kernel, by decide +kernel⟩
theorem test_azero : EngineReady (engine 7 (fields [(0, 5), (16, 0x80), (24, 3)])) 0 7 0x05 (command (fields [(0, 5),
    (16, 0x80), (24, 3)])) [] :=
  engineReady_spec _ _ _ _ (by decide +kernel) (by decide +kernel)
theorem test_achain : EngineReady (engine 0 (fields [(0, 6), (16, 8)])) 0 0 0x06 (command (fields [(0, 6), (16, 8)])) [] ∧
    ((engine 0 6).core 0).gateOpen (command 6) = true ∧ ((engine 0 6).core 0).active.isSome = true ∧
    EngineReady (engine 0 (fields [(0, 7), (16, 255), (24, 1)])) 0 0 0x07 (command (fields [(0, 7), (16, 255), (24, 1)])) [] :=
  ⟨engineReady_spec _ _ _ _ (by decide +kernel) (by decide +kernel), by decide +kernel, by decide +kernel,
    engineReady_spec _ _ _ _ (by decide +kernel) (by decide +kernel)⟩
/-- AMAC of one unit on column 0: INT8 by INT8, ring 2, all slices. -/
def amac (mop : Nat := 3) : Nat := fields [(0, mop), (16, 1), (25, 0), (28, 0), (31, 5), (40, 2), (69, 2), (377, 7)]
def running (q : Nat) : State := engineRing (engine q (amac) true 0)
theorem test_amac : EngineReady (running 0) 0 0 0x03 (command amac) [] ∧ (let s := running 0; let m := (command amac).bits.toNat
    fieldOf m 16 8 = 2 ^ 0 ∧ ((s.core 0).queue 0).ctr.toNat / 2 ^ 64 < nestExtent m 4 ∧
    fieldOf m 31 7 + nestSum m 32 (fun _ => 0) = 5 ∧ (match s.nestUnit 0 m (fun _ => 0) with | .vec av => av == 0 | _ => false) = true ∧
    (s.sumsIn 0 0 0 false (pairMode 0 0)).isSome = true ∧ ((s.core 0).array 8).north = none ∧
    (∀ p, (s.core 0).active = some p → p.bypass.getLsbD 0 = false) ∧ (s.core 0).deliveries.get [] 0 = []) := by
  refine ⟨engineReady_spec _ _ _ _ (by decide +kernel) (by decide +kernel), by decide +kernel, by decide +kernel, by decide +kernel,
    by decide +kernel, by decide +kernel, by decide +kernel, fun p h => ?_, by decide +kernel⟩
  have : ((running 0).core 0).active = some (Plane.bare 1 0) := by decide +kernel
  rw [this] at h
  cases h
  rfl
theorem test_amac_ends : (let u := ((engine 0 amac true (2 ^ 64)).core 0).queue 0
    nestExtent (command amac).bits.toNat 4 ≤ u.ctr.toNat / 2 ^ 64) ∧
    fieldOf (command amac).bits.toNat 69 8 ≤ filledOf (((running 0).core 0).ring 2) := by decide +kernel
theorem test_adist : EngineReady (engineRing (engine 7 (amac 4) true 0)) 0 7 0x04 (command (amac 4)) [] :=
  engineReady_spec _ _ _ _ (by decide +kernel) (by decide +kernel)
/-- A fill in array 0 with one beat transferred. -/
def filling : State := co (fun k => k.setArray 0 { ArrayUnit.reset with fill := some ⟨3, false, 1, 0, [(1, 7)], some 3⟩ }) flat
theorem test_latch_fill : ((filling.core 0).array 0).fill = some ⟨3, false, 1, 0, [(1, 7)], some 3⟩ ∧
    (filling.shaft (shaftIndex (corePlace 0 0 0))).open_ = false := by decide +kernel
/-- A streaming AMAC whose last latch is filled. -/
def streaming : Nat := amac + fields [(77, 1), (78, 9)]
theorem test_latch_swap : (let s := co (fun k => k.setQueue 0 { k.queue 0 with wShadow := some 9 }) (engine 0 streaming true 0)
    let m := (command streaming).bits.toNat; let u := (s.core 0).queue 0
    u.entries = command streaming :: [] ∧ m % 256 = 0x03 ∧ m.testBit 77 = true ∧ u.parked = none ∧
        u.ctr.toNat / 2 ^ 64 < nestExtent m 4 ∧
    u.wShadow = some (weightRow m (fun _ => 0) % 2 ^ 64).toNat ∧ u.ended = false ∧ ((s.core 0).array 0).fill = none ∧
    nextWeight m (weightRow m (fun _ => 0)) (2 ^ 80) u.ctr.toNat = none) := by decide +kernel
theorem test_landing_arrival : (let s := co (fun k => { k with deliveries := [(7, [⟨127, 0, none⟩])] }) flat
    (s.core 0).deliveries.get [] (7 : BitVec 3).toNat = ⟨127, 0, none⟩ :: [] ∧ (s.core 0).held 127 7 = false) := by decide +kernel
/-- A landing macro of row 127 alone over all columns. -/
def landing (mop : Nat) (more : List (Nat × Nat) := []) : Nat := fields ([(0, mop), (16, 255), (24, 127)] ++ more)
def land (m : Nat) (started : Bool := false) : State := engineRing (engine 9 m started 127)
theorem landing_ready (m mop : Nat) (started : Bool) (h : engineReady 9 m (land m started) = true) (hm : (command m).bits.toNat
    % 256 = mop)
    (hr : 127 ≤ fieldOf (command m).bits.toNat 24 7 + fieldOf (command m).bits.toNat 31 7)
    (hs : (((land m started).core 0).queue 9).started = true ∧ fieldOf (((land m started).core 0).queue 9).ctr.toNat 0 16 = 127 ∨
      (((land m started).core 0).queue 9).started = false ∧ fieldOf (command m).bits.toNat 38 8 = 0 ∧
        (command m).bits.toNat.testBit 46 = false ∧ 127 = fieldOf (command m).bits.toNat 24 7) :
    LandingReady (land m started) 0 mop (command m) [] 127 := ⟨engineReady_spec _ _ _ _ h hm, hr, hs⟩
theorem test_eexp : LandingReady (land (landing 0x21)) 0 0x21 (command (landing 0x21)) [] 127 :=
  landing_ready _ _ _ (by decide +kernel) (by decide +kernel) (by decide +kernel) (.inr (by decide +kernel))
theorem test_efold : LandingReady (land (landing 0x24) true) 0 0x24 (command (landing 0x24)) [] 127 ∧
    colsOf (fieldOf (command (landing 0x24)).bits.toNat 16 8) = 0 :: [1, 2, 3, 4, 5, 6, 7] :=
  ⟨landing_ready _ _ _ (by decide +kernel) (by decide +kernel) (by decide +kernel) (.inl (by decide +kernel)), by decide +kernel⟩
theorem test_esmax : ∀ k ∈ [0, 1, 2, 3], LandingReady (land (landing 0x22 [(47, k)])) 0 0x22 (command (landing 0x22 [(47, k)]))
    [] 127 ∧
    fieldOf (command (landing 0x22 [(47, k)])).bits.toNat 47 2 = k := by
  intro k hk
  simp only [List.mem_cons, List.not_mem_nil, or_false] at hk
  rcases hk with h | h | h | h <;> subst h <;>
    exact ⟨landing_ready _ _ _ (by decide +kernel) (by decide +kernel) (by decide +kernel) (.inr (by decide +kernel)), by decide +kernel⟩
/-- EDRAIN of FP32 (1,024 bytes) to ring 2; ETOPK of 64; ETURN of INT8; ESCALE with its scales in ring 2. -/
theorem test_edrain : LandingReady (land (landing 0x20 [(55, 2)])) 0 0x20 (command (landing 0x20 [(55, 2)])) [] 127 ∧
    fieldOf (command (landing 0x20 [(55, 2)])).bits.toNat 53 2 = 0 ∧
    ringTakes (((land (landing 0x20 [(55, 2)])).core 0).ring 2) (drainCode 0) (drainBytes (landing 0x20 [(55, 2)])) :=
  ⟨landing_ready _ _ _ (by decide +kernel) (by decide +kernel) (by decide +kernel) (.inr (by decide +kernel)), by decide +kernel,
    by unfold ringTakes; decide +kernel⟩
theorem test_edrain_placed : LandingReady (land (landing 0x20 [(53, 2), (128, 0x1000)])) 0 0x20 (command (landing 0x20 [(53, 2),
    (128, 0x1000)])) [] 127 ∧
    (let m := (command (landing 0x20 [(53, 2), (128, 0x1000)])).bits.toNat; fieldOf m 53 2 = 2 ∧ fieldOf m 31 7 = 0 ∧
    (land (landing 0x20 [(53, 2), (128, 0x1000)])).engineFault 0 1 (fieldOf m 128 64) (drainBytes m) true = none) :=
  ⟨landing_ready _ _ _ (by decide +kernel) (by decide +kernel) (by decide +kernel) (.inr (by decide +kernel)), by decide +kernel⟩
theorem test_etopk : LandingReady (land (landing 0x23 [(47, 63), (54, 2)])) 0 0x23 (command (landing 0x23 [(47, 63), (54, 2)]))
    [] 127 ∧
    ringTakes (((land (landing 0x23 [(47, 63), (54, 2)])).core 0).ring 2) 0 (8 * 64) :=
  ⟨landing_ready _ _ _ (by decide +kernel) (by decide +kernel) (by decide +kernel) (.inr (by decide +kernel)), by unfold ringTakes; decide +kernel⟩
theorem test_eturn : LandingReady (land (landing 0x25 [(50, 2)])) 0 0x25 (command (landing 0x25 [(50, 2)])) [] 127 ∧
    ringTakes (((land (landing 0x25 [(50, 2)])).core 0).ring 2) 1 (32 * 1 * 8) :=
  ⟨landing_ready _ _ _ (by decide +kernel) (by decide +kernel) (by decide +kernel) (.inr (by decide +kernel)), by unfold ringTakes; decide +kernel⟩
theorem test_escale : LandingReady (land (landing 0x26 [(47, 2), (68, 2)]) true) 0 0x26 (command (landing 0x26 [(47, 2),
    (68, 2)])) [] 127 ∧
    fieldOf (command (landing 0x26 [(47, 2), (68, 2)])).bits.toNat 68 8 ≤ filledOf (((land 0).core 0).ring 2) :=
  ⟨landing_ready _ _ _ (by decide +kernel) (by decide +kernel) (by decide +kernel) (.inl (by decide +kernel)), by decide +kernel⟩
/-- VAPPLY of an operation of one source, row 14 of its image. -/
def vapply1 : Nat := fields [(0, 0x10), (27, 2), (42, 2)]
theorem test_vapply : (let s := engineRing (engine 8 vapply1 true 14); EngineReady s 0 8 0x10 (command vapply1) [] ∧
    (vapplyOp (command vapply1).bits.toNat).isSome = true ∧ fieldOf ((s.core 0).queue 8).ctr.toNat 0 16 = 14 ∧
    64 ≤ ((s.core 0).ring 2).ssize.toNat) :=
  ⟨engineReady_spec _ _ _ _ (by decide +kernel) (by decide +kernel), by decide +kernel, by decide +kernel, by decide +kernel⟩
/-- CPY of 64 bytes from the scratchpad to placed memory. -/
def cpy1 : Nat := fields [(0, 0x30), (16, 0), (19, 1), (64, 0x40), (128, 0x1000), (192, 63)]
theorem test_cpy : EngineReady (engine 10 cpy1) 0 10 0x30 (command cpy1) [] ∧ (let s := engine 10 cpy1; let m :=
    (command cpy1).bits.toNat
    fieldOf m 16 3 < 2 ∧ fieldOf m 19 3 = 1 ∧ m.testBit 22 = false ∧ m.testBit 28 = false ∧ fieldOf m 192 16 + 1 ≤ 64 ∧
    (∀ i ∈ [256, 320, 384, 448], fieldOf m i 16 = 0) ∧ s.bad = [] ∧ s.engineFault 0 0 0x40 64 false = none ∧
    s.engineFault 0 1 0x1000 64 true = none ∧ ((s.core 0).queue 10).ctr = 0 ∧ ((s.core 0).queue 10).started = false) :=
  ⟨engineReady_spec _ _ _ _ (by decide +kernel) (by decide +kernel), by decide +kernel⟩
/-! ## Witnesses: KV and fabric macros -/

/-- Slot 0 of core 0 holds record 5, whose head 0 has its list at placed 0x1000: one page at 0x10000 with `used` tokens and these
flags; its free list at 0x8000 holds `free` pages of 4. -/
def paged (used flags free : Nat) (s : State := flat) : State :=
  let s := co (fun k => { k with scratch := setBytes k.scratch 0x2FE000 16 (5 + 2 ^ 12 + 2 * 2 ^ 16 + 100 * 2 ^ 64) }) s
  let s := { s with records := setBytes (setBytes (setBytes (setBytes s.records 0x500 1 3) 0x518 4 16) 0x51E 1 1) 0x590 8 0x1000 }
  (((s.setPlaced 0x1000 16 (1 + 4 * 2 ^ 16 + 0x8000 * 2 ^ 64)).setPlaced 0x1010 16 (0x10000 + 0xFF * 2 ^ 64)).setPlaced 0x1028 8
    (flags + used * 2 ^ 8)).setPlaced 0x8000 16 (free + 4 * 2 ^ 32 + 0x20000 * 2 ^ 64)
def kv (m : Nat) (used : Nat := 8) (flags : Nat := 0) (free : Nat := 1) : State :=
  engineRing (co (fun k => k.setQueue 12 { Queue.reset with entries := [command m], mseq := 1 }) (paged used flags free))
def kvReady (m : Nat) (s : State) : Bool :=
  engineReady 12 m s && !((s.core 0).queue 12).started && decide (((s.core 0).queue 12).mark = 0) && slotValid (s.slotEntry 0 0)
      &&
    !slotMasked (s.slotEntry 0 0) && decide (0 < s.kvHeads (slotRec (s.slotEntry 0 0)))
theorem kvReady_spec (m mop : Nat) (s : State) (h : kvReady m s = true) (hm : (command m).bits.toNat % 256 = mop) :
    KvReady s 0 mop (command m) [] 0 0 := by
  simp only [kvReady, Bool.and_eq_true, decide_eq_true_eq, Bool.not_eq_true'] at h
  exact ⟨engineReady_spec _ _ _ _ h.1.1.1.1.1 hm, h.1.1.1.1.2, h.1.1.1.2, by decide, h.1.1.2, h.1.2, by decide, h.2⟩
def kvpin : Nat := fields [(0, 0x43), (25, 1), (33, 1)]
theorem test_kvpin : KvReady (kv kvpin) 0 0x43 (command kvpin) [] 0 0 ∧ OnePage (kv kvpin) 0 0 0 ∧
    fieldOf (command kvpin).bits.toNat 25 8 = 2 ^ 0 :=
  ⟨kvReady_spec _ _ _ (by decide +kernel) (by decide +kernel), by unfold OnePage; decide +kernel⟩
def kvfree : Nat := fields [(0, 0x44), (25, 1)]
theorem test_kvfree : KvReady (kv kvfree) 0 0x44 (command kvfree) [] 0 0 ∧ (let s := kv kvfree; let fl := s.kvFree (listOf s 0 0 0)
    OnePage s 0 0 0 ∧ s.entSpilled 0x1010 = false ∧ s.entPoisoned 0x1010 = false ∧
    s.kvFaults [(fl, 8), (freeEntry fl (s.freeCount fl), 8)] = none ∧ s.freeCount fl < s.freeCap fl ∧
    (s.pushPage fl (s.entAddr 0x1010)).kvPages (listOf s 0 0 0) = 1) :=
  ⟨kvReady_spec _ _ _ (by decide +kernel) (by decide +kernel), by unfold OnePage; decide +kernel⟩
def kvevict (mask : Nat) : Nat := fields [(0, 0x42), (34, 1), (42, mask), (43, 2)]
theorem test_kvevict : KvReady (kv (kvevict 0)) 0 0x42 (command (kvevict 0)) [] 0 0 ∧
    KvReady (kv (kvevict 1) 8 1) 0 0x42 (command (kvevict 1)) [] 0 0 ∧ (let s := kv (kvevict 0)
    OnePage s 0 0 0 ∧ s.entPinned 0x1010 = false ∧ s.entUsed 0x1010 ≠ 64 ∧ s.recField (slotRec (s.slotEntry 0 0)) 0x18 4 ≠ 0 ∧
    ringFeeds ((s.core 0).ring 2) 1) :=
  ⟨kvReady_spec _ _ _ (by decide +kernel) (by decide +kernel), kvReady_spec _ _ _ (by decide +kernel) (by decide +kernel),
    by unfold OnePage ringFeeds; decide +kernel⟩
/-- KVFREE of a page by address, with room in its free list and without. -/
def kvfreePage : Nat := fields [(0, 0x44), (33, 1), (128, 0x10000), (192, 0x8000)]
theorem test_kvfree_page : EngineReady (kv kvfreePage) 0 12 0x44 (command kvfreePage) [] ∧ (let s := kv kvfreePage
    s.kvFaults [(0x8000, 8), (freeEntry 0x8000 (s.freeCount 0x8000), 8)] = none ∧ s.freeCount 0x8000 < s.freeCap 0x8000 ∧
    fieldOf (command kvfreePage).bits.toNat 192 64 = 0x8000) ∧
    (kv kvfreePage 8 0 4).freeCap 0x8000 ≤ (kv kvfreePage 8 0 4).freeCount 0x8000 :=
  ⟨engineReady_spec _ _ _ _ (by decide +kernel) (by decide +kernel), by decide +kernel, by decide +kernel⟩
def kvpromote (demote : Nat) (slot : Nat := 0) : Nat := fields [(0, 0x45), (16, slot), (44, demote)]
theorem test_kv_empty_slot : EngineReady (kv (fields [(0, 0x43), (16, 1)])) 0 12 0x43 (command (fields [(0, 0x43), (16, 1)])) [] ∧
    EngineReady (kv (kvpromote 0 1)) 0 12 0x45 (command (kvpromote 0 1)) [] ∧ slotValid ((kv 0).slotEntry 0 1) = false ∧
    (((kv 0).core 0).queue 12).started = false :=
  ⟨engineReady_spec _ _ _ _ (by decide +kernel) (by decide +kernel), engineReady_spec _ _ _ _ (by decide +kernel) (by decide +kernel),
    by decide +kernel, by decide +kernel⟩
def kvappend : Nat := fields [(0, 0x40), (34, 1), (42, 2), (47, 0)]
theorem test_kvappend : KvReady (kv kvappend) 0 0x40 (command kvappend) [] 0 0 ∧ (let s := kv kvappend
    s.recField (slotRec (s.slotEntry 0 0)) 0 1 = 3 ∧ ringFeeds ((s.core 0).ring 2) 1 ∧ s.kvPages 0x1000 ≠ 0 ∧
        s.entUsed 0x1010 ≠ 64 ∧
    s.entSpilled 0x1010 = false ∧ listOf s 0 0 0 = 0x1000 ∧
    s.kvFaults [(0x1000, 16), (0x1010, 32), (0x10000 + 128 * 8, 16), (0x10000 + 8192 + 128 * 8, 16)] = none ∧
    (s.setPlaced (0x10000 + 128 * 8) 16 0).entSpilled 0x1010 = false) :=
  ⟨kvReady_spec _ _ _ (by decide +kernel) (by decide +kernel), by unfold ringFeeds; decide +kernel⟩
def kvpos : Nat := fields [(0, 0x41), (28, 2), (33, 3)]
theorem test_kvpos : (let s := co (fun k => k.setRing 3 { Ring.reset with en := true, scount := 7, ssize := 1, sstride := 1 }) (kv kvpos)
    KvReady s 0 0x41 (command kvpos) [] 0 0 ∧ ringFeeds ((s.core 0).ring 2) 1 ∧
    (let ro := (s.core 0).ring 3; ro.en = true ∧ ro.mode ≠ 1 ∧ 1 ≤ ro.ssize.toNat ∧ 1 + filledOf ro + claimedOf ro ≤ slotsOf ro) ∧
    s.kvFaults [(0x1000, 16), (0x1010, 32 * s.kvPages 0x1000)] = none) :=
  ⟨kvReady_spec _ _ _ (by decide +kernel) (by decide +kernel), by unfold ringFeeds; decide +kernel⟩
/-- KVPROMOTE of a spilled page that lies at host 0x1000, and of one to go there; the host window is 32 KiB. -/
def spill (m flags free : Nat) : State :=
  let s := kv m 8 flags free
  { s with cfg := { s.cfg with hostOut := [⟨0, 32768, 0x1000, true⟩] } }
theorem test_kvpromote : KvReady (spill (kvpromote 0) 2 1) 0 0x45 (command (kvpromote 0)) [] 0 0 ∧
    (let s := spill (kvpromote 0) 2 1
    s.inRerun 0 = false ∧ s.kvFaults [(0x1000, 16), (0x1010, 32), (0x8000, 8)] = none ∧ s.entSpilled 0x1010 = true ∧
    s.freeCount 0x8000 ≠ 0 ∧ s.kvFaults [(freeEntry 0x8000 0, 8), ((s.popPage 0x8000).1, 16384)] = none ∧
    (s.setPlaced 0x1010 8 0).engineFault 0 3 0 16384 false = none ∧ ((s.hostWindow 0 16384).map (fun w => w.target)) = some
        0x1000) :=
  ⟨kvReady_spec _ _ _ (by decide +kernel) (by decide +kernel), by decide +kernel⟩
theorem test_kvpromote_demotion : KvReady (spill (kvpromote 1) 0 1) 0 0x45 (command (kvpromote 1)) [] 0 0 ∧
    (let s := spill (kvpromote 1) 0 1
    s.entPinned 0x1010 = false ∧ s.entSpilled 0x1010 = false ∧ s.entPoisoned 0x1010 = false ∧
        s.freeCount 0x8000 < s.freeCap 0x8000 ∧
    s.kvFaults [(freeEntry 0x8000 1, 8), (s.entAddr 0x1010, 16384)] = none ∧ s.engineFault 0 3 0 16384 true = none ∧
    (s.hostWindow 0 16384).isSome = true) :=
  ⟨kvReady_spec _ _ _ (by decide +kernel) (by decide +kernel), by decide +kernel⟩
def fabricReady (m : Nat) (s : State) : Bool :=
  let u := (s.core 0).queue 13
  engineReady 13 m s && !u.started && decide (u.ctr = 0) && decide (u.seqs = []) && decide (u.late = []) && decide
      (u.bytes = []) &&
    decide (u.mark = 0)
theorem fabricReady_spec (m mop : Nat) (s : State) (h : fabricReady m s = true) (hm : (command m).bits.toNat % 256 = mop) :
    FabricReady s 0 mop (command m) [] := by
  simp only [fabricReady, Bool.and_eq_true, decide_eq_true_eq, Bool.not_eq_true'] at h
  exact ⟨engineReady_spec _ _ _ _ h.1.1.1.1.1.1 hm, h.1.1.1.1.1.2, h.1.1.1.1.2, h.1.1.1.2, h.1.1.2, h.1.2, h.2⟩
/-- FXSEND, FXMCAST of 64 bytes of the scratchpad to the package itself, and FXRED of 16 elements of window 0. -/
def fabric (m : Nat) : State := co (fun k => k.setQueue 13 { Queue.reset with entries := [command m], mseq := 1 }) flat
def fxsend (mop : Nat) : Nat := fields [(0, mop), (18, 1), (192, 63), (272, 1)]
theorem test_fxsend : FabricReady (fabric (fxsend 0x50)) 0 0x50 (command (fxsend 0x50)) [] ∧
    FabricReady (fabric (fxsend 0x51)) 0 0x51 (command (fxsend 0x51)) [] ∧ (let m := (command (fxsend 0x51)).bits.toNat
    fieldOf m 16 2 = 0 ∧ m.testBit 21 = false ∧ fieldOf m 192 32 + 1 ≤ 64 ∧
    flat.engineFault 0 0 0 64 false = none ∧ flat.inExtents 0 = true ∧
    (∀ d ∈ rectPackages (fieldOf m 256 16), flat.inExtents d = true) ∧
    (rectPackages (fieldOf m 256 16)).filter (fun d => m.testBit 272 || d != flat.pkg) ≠ []) :=
  ⟨fabricReady_spec _ _ _ (by decide +kernel) (by decide +kernel), fabricReady_spec _ _ _ (by decide +kernel) (by decide +kernel),
    by decide +kernel⟩
theorem test_fxwin : EngineReady (fabric 0x53) 0 13 0x53 (command 0x53) [] ∧ ((fabric 0x53).rwindow 0).armed = false :=
  ⟨engineReady_spec _ _ _ _ (by decide +kernel) (by decide +kernel), by decide +kernel⟩
/-- A window armed for 16 elements of one int32 each, its own contribution and one child's expected, forwarded on `parent`. -/
def window (parent : BitVec 4) (done : Bool := false) : RWindow :=
  { RWindow.reset with armed := true, isLocal := true, parent := parent, nelem := 16
                       own := if done then (List.range 16).map (fun i => (i, [1, 0, 0, 0, 0, 0, 0, 0])) else [] }
def fxred : Nat := fields [(0, 0x52), (128, 15)]
theorem test_fxred : (let s := (fabric fxred).setRwindow 0 (window 0); let v := s.rwindow 0
    FabricReady s 0 0x52 (command fxred) [] ∧ s.redFault (command fxred).bits.toNat = false ∧
    (let n := min 64 (16 * windowElem v.op.toNat v.cols); s.engineFault 0 0 0 n false = none ∧
      s.combining + n / windowElem v.op.toNat v.cols * v.pe ≤ 2 ^ 18)) :=
  ⟨fabricReady_spec _ _ _ (by decide +kernel) (by decide +kernel), by decide +kernel⟩
theorem test_chunk : ((flat.setRwindow 0 (window 0)).rwindow 0).complete 0 = false ∧
    ((flat.setRwindow 0 (window 0 true)).rwindow 0).complete 0 = true ∧ (window 0).parent ≠ 15 ∧ (window 15).parent = 15 ∧
    (∀ k < 32, ((flat.core k).queue 13).phase ≠ 7) := by decide +kernel
theorem test_chunk_delivered : (let s := flat.setRwindow 0 (window 15 true); let v := s.rwindow 0
    let out := (v.combine 0).map (deliverElement v.op.toNat); let bytes := (out.map (fun e => e.1)).flatten
    match s.engineWrite v.core.toNat 2 0x4000 bytes.length (ofBytes bytes) 0 with | (.done, _) => true | _ => false) = true := by
  decide +kernel
/-! ## Witnesses: exceptions, system registers, the debugger -/

/-- A strand whose handler is at line 2 slot 1; in it with `inside`. -/
def handled (inside : Bool := false) (s : State := one) : State :=
  s.setMe { s.me with trapEn := true, trapIn := inside, tvec := 0x21, tpc := 0x13 }
def fault2 : FaultRecord := { FaultRecord.none with code := 2 }
theorem test_trap_enabled : (handled).cur = .strand 0 0 ∧ (handled).me.trapEn = true ∧ (handled).me.trapIn = false ∧
    one.me.trapEn = false ∧ (handled true).me.trapIn = true ∧ (handled).successor 2 = some (1, 3) := by decide +kernel
theorem test_trap_at_end : (handled false ended).successor 2 = none ∧ (handled false ended).me.trapEn = true ∧
    ended.me.trapEn = false ∧ ended.guard7 0 = true := by decide +kernel
theorem test_trap_code : (0x80 : BitVec 24).toNat ≤ 0xFF ∧ ¬ 0x80 ≤ (0x7F : BitVec 24).toNat ∧
    0xFF < (0x100 : BitVec 24).toNat := by decide
theorem test_return : (let s := handled true; s.guard7 0 = true ∧ s.me.trapIn = true ∧ s.me.queued = [] ∧ s.me.storeq = [] ∧
    (s.performHeld.after s.me.tpc).isSome = true) ∧
    (let s := (handled true ended).setMe { (handled true ended).me with tpc := 0x1F, queued := [fault2] }
     s.performHeld.after s.me.tpc = none ∧ s.performHeld.me.queued ≠ []) ∧
    (let s := (handled true ended).setMe { (handled true ended).me with tpc := 0x1F }
     s.performHeld.after s.me.tpc = none ∧ s.performHeld.me.queued = []) := by decide +kernel
theorem test_sysreg_numbers : (0x023 : BitVec 24) ∈ sysregs.map (fun e => e.1) ∧ (0x023 : BitVec 24) ∈ strandSysregs.map
    (fun e => e.1) ∧
    (0x014 : BitVec 24) ∈ coreSysregs.map (fun e => e.1) ∧ (0x024 : BitVec 24) ∉ sysregs.map (fun e => e.1) := by
  unfold sysregs strandSysregs coreSysregs; decide
/-- Queue 0 of core 0 parked on a macro that strand 0 pushed. -/
def parkedQueue (delivered : Bool) (s : State) : State :=
  co (fun k => k.setQueue 0 { Queue.reset with entries := [command 1], mseq := 1, parked := some ⟨fault2, delivered⟩ }) s
theorem test_engine_record : (let s := parkedQueue false (handled)
    ((s.queueOf 0 0).parked) = some ⟨fault2, false⟩ ∧ (s.queueOf 0 0).entries = command 1 :: [] ∧
    ((s.core 0).strand (command 1).strand.toNat).run = .ready ∧ s.me.trapEn = true) ∧
    (handled true).me.queued.length < 4 ∧
    4 ≤ ((handled true).setMe { (handled true).me with queued := List.replicate 4 fault2 }).me.queued.length := by decide +kernel
theorem test_qres : Issues (xs [(5, 13)]) 2 true [5, 6] ∧ ((xs [(5, 13)]).rx 5).toNat % 16 < 14 ∧
    14 ≤ ((xs [(5, 14)]).rx 5).toNat % 16 ∧
    (xs [(5, 13)]).isPorch = false := by unfold Issues; decide +kernel
/-- A debugger is attached; strand 0 halted for it. -/
def debugged (s : State := one) (run : Run := .debugged) : State :=
  let s := co (fun k => { k with dbg := true }) { s with debugger := true }
  s.setMe { s.me with run := run }
theorem test_brk : Issues (debugged one .ready) 2 true [] ∧ (debugged one .ready).isPorch = false ∧
    ((debugged one .ready).core 0).dbg = true ∧ (one.core one.myCore).dbg = false ∧ Issues one 2 (one.guard7 0) [] ∧
    (debugged ended .ready).successor 2 = none := by unfold Issues; decide +kernel
theorem test_debug_release : (let m := debugged.strandOf (.strand 0 0); m.run = .debugged ∧ m.queued = []) ∧
    (debugged.core 0).dbg = true ∧ (one.core 0).dbg = false ∧
    (let s := (handled).setMe { (handled).me with run := .debugged, queued := [fault2] }
     s.me.trapIn = false ∧ s.me.trapEn = true ∧ s.me.queued = fault2 :: []) := by decide +kernel
theorem test_debug_detach : ∀ c k, (one.strandOf (.strand c k)).run = .debugged →
    (one.strandOf (.strand c k)).queued = [] ∨ (one.strandOf (.strand c k)).trapIn = true := by decide +kernel
/-! ## Witnesses: requests, slots, ticks -/

/-- The porch's run with x5 = a and x6 = b. -/
def porchX (a b : DWord) (s : State := porch) : State := s.setMe { s.me with x := [(5, a), (6, b)] }
/-- Record 0 in a state, with one KV head. -/
def record0 (st : Nat) (s : State) : State := { s with records := setBytes (setBytes s.records 0 1 st) 0x1E 1 1 }
theorem test_porch_issues : Issues (porchX 0 0) 2 true [5, 6, 7] ∧ (porchX 0 0).isPorch = true ∧ (porchX 0 0).me.run = .ready :=
    by
  unfold Issues; decide +kernel
theorem test_rsubmit : (let s := record0 0 porch
    (recordChecks s 0).all (fun e => !e.2.2) = true ∧ ¬ gangFull s 0 ∧ s.recField 0 0 1 = 0 ∧
    ((recordChecks porch 0).find? (fun e => e.2.2)).map (fun e => (e.1, e.2.1)) = some (0x1E, 0x02)) := by
  unfold recordChecks gangFull; decide +kernel
/-- Record 0 of gang 9, which record 1 of group 1 is a member of. -/
def ganged : State := let s := record0 0 porch
  { s with records := setBytes (setBytes s.records 2 2 9) 0x100 4 (1 + 2 ^ 8 + 9 * 2 ^ 16) }
theorem test_rsubmit_gang : gangFull ganged 0 ∧ (recordChecks ganged 0).all (fun e => !e.2.2) = true :=
  ⟨⟨by decide +kernel, .inr ⟨1, by decide +kernel, by decide +kernel⟩⟩, by unfold recordChecks; decide +kernel⟩
theorem test_record_states : (record0 5 porch).recField 0 0 1 ∈ [0, 5, 6, 7] ∧ (record0 3 porch).recField 0 0 1 ∉ [0, 5, 6, 7] ∧
    (record0 4 porch).recField 0 0 1 = 4 := by decide +kernel
/-- Core 0 serves group 0, whose step is open and whose slot 0 holds record 5 in state 3; ring words at `ring`. -/
def slotted (ring : Nat := 0x400000) (ingest : Nat := 0) (phase : GroupPhase := .open) (entry : Nat := 5 + 2 ^ 12) : State :=
  let s := co (fun k => { k with active := some { Plane.bare 1 0 with group := some 0 }, scratch := setBytes k.scratch 0x2FE000 16 entry }) one
  let s := { s with records := setBytes (setBytes (setBytes s.records 0x500 1 3) 0x530 8 ingest) 0x538 8 ring }
  s.setGroup 0 { s.group 0 with phase := phase, slots := [(0, some ⟨5, false, false, false, 1, 0, 0, 0, 0, false, 0, 0⟩)] }
theorem test_slot : Issues (slotted) 2 true [5, 6, 7] ∧ liveEntry (tableEntry (slotted) 0 0) ∧ (slotted).holdGroup = none ∧
    (slotted).me.run = .ready ∧ (slotted).myGroup = some 0 ∧ (slotted).me.storeq = [] ∧ ¬ liveEntry (tableEntry (slotted) 0 1) ∧
    one.myGroup = none ∧ (((slotted).releaseL1 true 0xFFFF).successor 2).isSome = true := by
  unfold Issues liveEntry tableEntry; decide +kernel
/-- The output ring at 0x400000: commit, read, 16 entries. -/
def outRing (commit read : Nat) : State := (slotted).setPhys 0x400000 20 (commit + read * 2 ^ 64 + 16 * 2 ^ 128) 0xFFFFF
def loadsTo (s : State) (addr n v : Nat) : Bool :=
  decide (s.checkAccess s.cur 2 addr n false s.me.cls = none) &&
    match (s.readSpace s.cur 2 addr n true).1 with | .val x => decide (x = v) | _ => false
theorem loadsTo_spec (s : State) (addr n v : Nat) (h : loadsTo s addr n v = true) : ∃ u, LoadsTo s addr n v u := by
  rw [loadsTo, Bool.and_eq_true, decide_eq_true_eq] at h
  rcases hr : s.readSpace s.cur 2 addr n true with ⟨r, u⟩
  have h2 := h.2
  rw [hr] at h2
  cases r <;> simp at h2
  subst h2
  exact ⟨u, h.1, hr⟩
theorem test_remit_loads : (let s := outRing 0 0
    loadsTo s 0x400000 8 0 && loadsTo s 0x400008 8 0 && loadsTo s 0x400010 4 16 &&
    loadsTo (outRing 1 0) 0x400000 8 1 && loadsTo (outRing 0 0) 0x400044 4 0) = true := by decide +kernel
/-- A store there is performed at once. -/
theorem test_remit_stores : (let s := outRing 0 0
    decide (s.checkAccess s.cur 2 0x400040 8 true s.me.cls = none) &&
      match (s.writeSpace s.cur 2 0x400040 8 7 (allBytes 8) s.me.cls true).1 with | .done => true | _ => false) = true :=
          by decide +kernel
/-- Commit, read and capacity for the three results: a step that is run again, a full ring, a new token. -/
theorem test_remit_results : (0 : Nat) + 0 + 1 ≤ 1 ∧ (0 : Nat) < 17 ∧ (0 : Nat) + 16 < 17 ∧ (0 : Nat) < 1 ∧
    (1 : Nat) ≤ 0 + 16 := by decide
/-- Pages of 64 KiB that may be read only. -/
def pageRO : State := let s := mapped.setPhys 0x101000 8 3 0xFF
  s.setCore 0 { s.core 0 with active := some { Plane.bare 1 1 with group := some 0 } }
theorem test_remit_fault : (decide (pageRO.checkAccess pageRO.cur 2 0x400000 8 true 0 = none) &&
    match (pageRO.writeSpace pageRO.cur 2 0x400000 8 1 (allBytes 8) 0 true).1 with | .fault c => c == 0x07 | _ => false) = true := by
  decide +kernel
/-- An ingest ring of 16 entries at 0x480000 with these counts. -/
def ingest (wr rd : Nat) : State := (slotted 0x400000 0x480000).setPhys 0x480000 20 (wr + rd * 2 ^ 64 + 16 * 2 ^ 128) 0xFFFFF
theorem test_tstamp : (let s := ingest 5 4
    (match s.vestLoad (s.asidOf s.cur) 0x480000 16 with
      | (.val v, u) => decide (v = 5 + 4 * 2 ^ 64) && (match u.vestLoad (s.asidOf s.cur) 0x480010 4 with | (.val c, _) => c == 16 | _ => false)
      | _ => false) &&
    (match s.vestLoad (s.asidOf s.cur) (0x480000 + 0x40 + 16 * (4 % 16) + 8) 8 with | (.val v, u) => v == 0 && (u.successor 2).isSome | _ => false)) =
      true ∧ (tableEntry (ingest 5 4) 0 0).testBit 12 = true ∧ (16 : Nat) &&& (16 - 1) = 0 ∧ (5 + 2 ^ 64 - 4) % 2 ^ 64 ≤ 16 := by
  unfold tableEntry; decide +kernel
theorem test_tstamp_empty : (slotted 0x400000 0).recField 5 0x30 8 = 0 ∧ (0x2420 : Nat) % 64 ≠ 0 ∧
    (let s := slotted 0x400000 (2 ^ 38); match s.vestLoad (s.asidOf s.cur) (2 ^ 38) 16 with | (.fault c, _) => c == 0x06 | _ => false) = true := by
  decide +kernel
theorem test_rflt_porch : (let s := porchX 0 0 (record0 3 porch)
    Issues s 2 (s.guard7 0) [5] ∧ s.me.run = .ready ∧ s.holdGroup = none ∧
    (s.partRect (s.queueDesc 0).part.toNat).cores.head? = some 0) := by unfold Issues; decide +kernel
/-- Group 0 waits for a HOLD slot. -/
def holding : State := porch.setGroup 0 { porch.group 0 with
  phase := .hold, holds := [⟨0, 0, 0, some 5, none⟩], slots := [(0, some ⟨5, false, false, false, 0, 0, 0, 0, 0, false, 0, 0⟩)] }
theorem test_rflt_hold : holding.holdGroup = some 0 ∧ (holding.group 0).slots.get none 0 ≠ none ∧
    (holding.group 0).slots.get none 1 = none := by
  decide +kernel
/-- Group 0 with a period of 1 ms, its ticks running or not. -/
def timed (ticking : Bool) (tai : Nat := 0) (phase : GroupPhase := .idle) : State :=
  let s := porchX 0 10000000
  { s.setGroup 0 { s.group 0 with period := 1000000, ticking := ticking, nextTick := 1000000, phase := phase } with tai := tai }
theorem test_tcfg : Issues (timed true) 2 true [5, 6, 7] ∧ 10 ^ 6 ≤ ((timed true).rx 6).toNat ∧
    ((timed true).rx 6).toNat ≤ 10 ^ 9 ∧
    ((porchX 0 999999).rx 6).toNat < 10 ^ 6 ∧ 10 ^ 9 < ((porchX 0 1000000001).rx 6).toNat := by unfold Issues; decide +kernel
theorem test_tarm : ((timed false).group 0).period ≠ 0 ∧ (timed false).tai < ((timed false).rx 6).toNat ∧
    (let s := timed false 10500000; ((s.rx 6).toNat ≤ s.tai ∧ s.tai < (s.rx 6).toNat + (s.group 0).period ∧
        (s.group 0).pending = [])) ∧
    ((porchX 0 0).rx 6).toNat = 0 ∧ ((timed true).group 0).phase = .idle ∧ ((timed true 0 .open).group 0).phase ≠ .idle ∧
    (porch.group 0).period = 0 ∧ (1 : BitVec 24).getLsbD 0 = true ∧ (2 : BitVec 24).getLsbD 0 = false := by decide +kernel
theorem test_tnext : (slotted).isPorch = false ∧ (0 : BitVec 5) = 0 ∧ (slotted).myGroup.isSome = true ∧ one.isPorch = false ∧
    one.myGroup = none := by decide +kernel
theorem test_tick : (let v := (timed true 1000000).group 0; v.ticking = true ∧ v.nextTick ≤ (timed true 1000000).tai ∧
    v.pending = []) ∧
    ((timed false).group 0).ticking = false ∧ (timed true 999999).tai < ((timed true).group 0).nextTick := by decide +kernel
/-- A second after the tick at 1 ms, 72,000,000 clks at 2.25 clks a ns, the next is still to come. -/
theorem test_elapse : (let t := (timed true).elapse 1000000; (t.group 0).ticking = true ∧
    Cells.wf Group.reset (timed true).groups = true ∧
    ∀ e ∈ (timed true).groups, 10 ^ 6 ≤ e.2.period ∧ ∀ p ∈ e.2.pending, 10 ^ 6 ≤ p.1) := by decide +kernel
/-! ## Witnesses: steps, operators -/

/-- Group 0 of partition 0, whose tick waits; with slots. -/
def stepping (phase : GroupPhase := .idle) (slots : Cells (Option SlotInfo) := []) (acommit : Bool := true) : State :=
  (grouped).setGroup 0 { Group.reset with
    cfg := { GroupCfg.off with en := true, nslot := 1, inMax := 1, acommit := acommit }, waiting := true, phase :=
        phase, slots := slots }
theorem test_opening_due : OpeningDue (stepping) 0 := by unfold OpeningDue; decide +kernel
theorem test_no_requests : ∀ n < 512, (stepping).slotHolder ((stepping).groupRecords 0) n = none := by
  intro n _
  rw [show (stepping).groupRecords 0 = [] by decide +kernel]
  rfl
theorem test_strand_in_wait_step : (let s := parked .step (stepping); 0 ∈ (s.partRect 0).cores ∧ (s.core 0).active.isSome = true ∧
    (∀ p, (s.core 0).active = some p → p.group = some 0) ∧ (s.by (.strand 0 0)).nextLine = some 1 ∧
    (s.strandOf (.strand 0 0)).run = .parked .step) := by
  refine ⟨by decide +kernel, by decide +kernel, fun p h => ?_, by decide +kernel⟩
  have : ((parked .step (stepping)).core 0).active = some { Plane.bare 1 1 with group := some 0 } := by decide +kernel
  rw [this] at h
  cases h
  rfl
theorem test_consume : (record0 2 porch).recField 0 0 1 = 2 ∧ (record0 3 porch).recField 0 0 1 ≠ 2 ∧
    (record0 3 porch).recField 0 0x30 8 = 0 := by decide +kernel
/-- Record 5 of group 0 in an opening that waits until 5 ns, its ingest ring empty at 0x40_0000 of physical memory. -/
def holdStep (tai : Nat := 5) : State :=
  let slots : Cells (Option SlotInfo) := [(0, some ⟨5, false, false, false, 0, 0, 0, 0, 0, false, 0, 0⟩)]
  let s := { stepping .hold slots with tai := tai, records := setBytes (setBytes [] 0x500 1 3) 0x530 8 0x400000 }
  ((s.setGroup 0 { s.group 0 with holds := [⟨0, 0, 0, some 5, none⟩] }).setPart 0 { s.part 0 with asid := 0 }).setPhys 0x400000 20
    (16 * 2 ^ 128) 0xFFFFF
theorem test_hold_due : (holdStep.group 0).phase = .hold ∧ (holdStep.group 0).holds = [⟨0, 0, 0, some 5, none⟩] ∧
    (holdStep.group 0).slots.get none 0 ≠ none ∧ holdStep.partRuns 0 = true ∧ 5 ≤ holdStep.tai ∧
    holdStep.kept = [] ∧ (match State.takeInput ((⟨0, 0, 0, some 5, none⟩ : Hold).late holdStep.tai) holdStep 0 0 0 0 with
      | (.ok _, u) => decide (u.recField ((u.group 0).slot 0).record 0 1 = 3) | _ => false) = true := by decide +kernel
theorem test_hold_waits : ((holdStep 4).group 0).phase = .hold ∧ ((holdStep 4).group 0).holds = [⟨0, 0, 0, some 5, none⟩] ∧
    (holdStep 4).tai < 5 := by
  decide +kernel
theorem test_step_drained : (let s := parked .step (stepping .open); (s.group 0).phase = .open ∧ (s.group 0).cfg.acommit = true ∧
    ∀ c ∈ (s.partRect 0).cores, CoreDrained (s.core c) true) := by unfold CoreDrained; decide +kernel
theorem test_account : (let s := stepping .open [(0, some ⟨5, false, false, false, 1, 0, 0, 0, 0, false, 0, 0⟩)]
    (s.group 0).slots = [(0, some ⟨5, false, false, false, 1, 0, 0, 0, 0, false, 0, 0⟩)]) := by decide +kernel
theorem test_commit : (let s := porch.setGroup 0 { porch.group 0 with phase := .open }
    s.isPorch = true ∧ Issues s 2 (s.guard7 0) [5, 6] ∧ s.me.storeq = [] ∧ (s.group 0).phase ≠ .idle ∧
        (s.group 0).commitAsked = false ∧
    (porch.group 0).phase = .idle) := by unfold Issues; decide +kernel
theorem test_rerun : (let s := parked .step (stepping .abandoned)
    let s := s.setGroup 0 { s.group 0 with rerun := true }
    (s.group 0).phase = .abandoned ∧ (s.group 0).rerun = true ∧ s.partRuns 0 = true ∧
    ∀ c ∈ (s.partRect 0).cores, CoreDrained (s.core c) true) := by unfold CoreDrained; decide +kernel
/-- The porch's stream has the partition's queue with a window over pooled memory; x5 = a and x6 = the rectangle of core 0. -/
def porchOp (a : DWord) (rect : DWord := 7 * 2 ^ 13 + 7 * 2 ^ 18) (s : State := porch) : State :=
  let s := porchX a rect s
  { s with cfg := { s.cfg with queues := s.cfg.queues.map (fun e => (e.1, { e.2 with windows := [⟨0x400000, 0x1000, 2, true⟩] })) } }
def rect0 : Rect := ⟨0, 0, 8, 8⟩
theorem test_plane : (let s := porchOp 0x400000; Issues s 2 (s.guard7 0) [5, 6, 7] ∧ s.me.storeq = [] ∧
    s.windowOk s.cur 2 (s.rx 5).toNat 256 false = true ∧ PorchCores s 0 (s.rx 6).toNat rect0 ∧
        (∀ c ∈ rect0.cores, s.tokenPosted c = false)) ∧
    ((porchOp 0x400001).rx 5).toNat % 256 ≠ 0 ∧ (porchOp 0x500000).windowOk (.porch 0) 2 0x500000 256 false = false ∧
    (∃ c ∈ rect0.cores, (co (fun k => { k with token := true }) porch).tokenPosted c = true) := by
  unfold Issues PorchCores; decide +kernel
theorem test_swapt : (porch.core 0).shadow = none ∧
    (∀ c ∈ rect0.cores, ((co (fun k => { k with shadow := some (Plane.bare 1 0) }) porch).core c).shadow.isSome = true) ∧
    (Rect.ofBits 1).wholeCores = false ∧ (2 ^ 25 : Nat) ≤ ((porchOp 0 (2 ^ 25)).rx 6).toNat ∧
    (let s := { porch with parts := porch.parts.map (fun (e : Nat × Part) => (e.1, { e.2 with rect := 7 * 2 ^ 13 + 7 * 2 ^ 18 })) }
     (Rect.ofBits (8 + 7 * 2 ^ 13 + 7 * 2 ^ 18)).within (s.partRect (s.queueDesc 0).part.toNat) = false) := by decide +kernel
theorem test_resume_queue : (let s := porchX 0 0 (parkedQueue false porch)
    (s.rx 5).toNat % 16 < 14 ∧ 0 ∈ (s.partRect 0).cores ∧ (s.part 0).en = true ∧ ((s.core 0).queue 0).parked.isSome = true) ∧
    ((porch.core 0).queue 0).parked = none ∧ 14 ≤ ((porchX 14 0).rx 5).toNat % 16 := by decide +kernel
/-- An image with a directory in line 1 and a launch header in lines 2 to 4, and the operator record that names it. -/
def launchable (version : Nat) : State :=
  let b := 0x500000
  let line (l w : Nat) (s : State) : State := s.setPhys (b + 64 * l) 4 (w + 2 * 2 ^ 28) 0xF
  let s := line 1 0x1FFFFF (line 2 3 (line 3 4 (line 4 0x1FFFFF flat)))
  let s := s.setPhys (b + 64 + 4) 8 (2 * 2 ^ 32) 0xFF
  let s := s.setPhys (b + 128 + 4) 4 (version + 2 ^ 16) 0xF
  let s := s.setPhys (b + 128 + 4 + 32) 8 (2 ^ 21) 0xFF
  let s := (s.setAs0 0x400000 8 (1 + 7 * 2 ^ 32))
  { s with images := s.images ++ [⟨7, b, 5, 1, 1, true, s.cfg.placeId, 0⟩] }
def job0 : PlaneJob := ⟨0x400000, 7 * 2 ^ 13 + 7 * 2 ^ 18, 0, true⟩
theorem test_plane_completion : ((launchable 1).planeOf job0).isSome = true ∧ ((launchable 2).planeOf job0) = none ∧
    ([job0].find? (fun j => j.record == 0x400000)) = some job0 := by decide +kernel
/-- Core 0 has a token, a shadow plane of a LAUNCH and no operator. -/
def swapping : State :=
  { co (fun k => { k with token := true, shadow := some { Plane.bare 1 0 with launch := true } }) one with
    swaps := [7 * 2 ^ 13 + 7 * 2 ^ 18], cores := (one.setCore 0 { one.core 0 with
      strands := [], holder := none, active := none, token := true, shadow := some { Plane.bare 1 0 with launch := true }
          }).cores }
theorem test_plane_swap : (Rect.ofBits (7 * 2 ^ 13 + 7 * 2 ^ 18)).wholeCores = true ∧
    (Rect.ofBits (7 * 2 ^ 13 + 7 * 2 ^ 18)).cores = [0] ∧
    swapping.swaps.contains (7 * 2 ^ 13 + 7 * 2 ^ 18) = true ∧ (swapping.core 0).token = true ∧ (swapping.core 0).fenced = false ∧
    (swapping.core 0).active = none ∧ (swapping.core 0).shadow = some { Plane.bare 1 0 with launch := true } ∧
    (swapping.part 0).ladder = .none ∧ (swapping.part 0).saved = false ∧ (swapping.part 0).pstate ≠ 5 := by decide +kernel
theorem test_retire : (let s := co (fun k => { k with strands := [], active := some (Plane.bare 1 0) }) one
    (s.core 0).active = some (Plane.bare 1 0) ∧ (Plane.bare 1 0).group = none ∧ s.partRuns 0 = true ∧ s.coresOf 0 = [0] ∧
    CoreDrained (s.core 0) false) ∧ (one.core 1).active = none := by unfold CoreDrained; decide +kernel
/-! ## Witnesses: pre-emption, loss of a core, porch runs -/

theorem test_preempt : (let s := porchX 0 0; Issues s 2 (s.guard7 0) [5, 6] ∧ s.me.storeq = [] ∧ s.queueEnabled 0 = true ∧
    s.partBusy 0 = true ∧ (s.part 0).saved = false ∧ (s.part 0).ladder = .none ∧ s.queueEnabled 1 = false ∧
    (let u := (s.setPart 0 { s.part 0 with ladder := .drain 0 1 s.tai, pstate := 2 }).setPorchQueue 0 { s.porchQueue 0 with pdone := 0 }
     ((u.setAs0 ((s.queueDesc 0).hdr + 0x20) 8 (statusWord u 0)).successor 2).isSome = true)) ∧
    (64 : Nat) ≤ ((porchX 64 0).rx 5).toNat % 256 ∧ (1 : BitVec 24).extractLsb' 0 2 ≠ 0 := by unfold Issues statusWord; decide +kernel
/-- Partition 0 in the ladder. -/
def laddered (l : Ladder) (tai : Nat := 0) (s : State := one) : State :=
    { s.setPart 0 { s.part 0 with ladder := l } with tai := tai }
theorem test_drain : (let s := laddered (.drain 0 1 0) 0 (parked .step (stepping)); s.partDrained 0 = true ∧
    s.tai ≤ 0 + drainTime (s.queueDesc 0)) ∧ (laddered (.drain 0 1 0)).partDrained 0 = false ∧
    (laddered (.drain 0 1 0) 199999).tai < 0 + drainTime ((laddered (.drain 0 1 0)).queueDesc 0) ∧
    drainTime ((laddered (.drain 0 1 0)).queueDesc 0) ≤ (laddered (.drain 0 2 0) 200000).tai :=
        by unfold drainTime; decide +kernel
theorem test_save : (let s := laddered (.save 0 3 0) 40000; s.tai ≤ 0 + 40000 ∧ (∀ c ∈ (s.partRect 0).cores,
    s.midAccess c = false) ∧
    (∀ c ∈ (s.partRect 0).cores, s.badContext c = false)) ∧
    (let s := laddered (.save 0 3 0) 40000 (farLoading [far1 1]); ∃ c ∈ (s.partRect 0).cores, s.midAccess c = true) ∧
    (let s := { laddered (.save 0 2 0) 40000 with bad := [(65408, true)] }; ∃ c ∈ (s.partRect 0).cores, s.badContext c = true) ∧
    0 + 40000 < (laddered (.save 0 3 0) 40001).tai := by
  refine ⟨by decide +kernel, ⟨0, by decide +kernel⟩, ⟨0, by decide +kernel⟩, by decide +kernel⟩
/-- Core 0 runs an operator of no group that may run again, and one that may not. -/
def operated (rerun : Bool) (group : Option (BitVec 4)) : State :=
  co (fun k => { k with active := some { Plane.bare 1 0 with rerun := rerun, group := group, record := 0x400000 } }) one
theorem test_reset_core : (one.core 1).active = none ∧ (((operated true none).core 0).active.map (fun p => p.rerun)) = some true ∧
    (((operated false none).core 0).active.map (fun p => (p.group, p.rerun))) = some (none, false) ∧
    (operated false none).coresOf 0x400000 = [0] := by decide +kernel
theorem test_resume : (let s := porchX 0 0; (s.part 0).saved = false ∧
    (let t := s.setPart 0 { s.part 0 with saved := true, rung := 1 }
     (t.part 0).saved = true ∧ (t.part 0).rung = 1 ∧ ((((t.showSaved 0 false 0).setPstate 0 1).refreshPstate 0).successor
         2).isSome = true) ∧
    (let t := s.setPart 0 { s.part 0 with saved := true, rung := 2 }; (t.part 0).saved = true ∧ (t.part 0).rung = 2)) := by
  decide +kernel
theorem test_restore : (let s := { one with saved := [(0, some (one.core 0))] }
    s.saved.get none 0 = some (one.core 0) ∧ s.badContext 0 = false) ∧
    ({ one with bad := [(65408, true)] } : State).badContext 0 = true := by decide +kernel
theorem test_core_fence : (one.core 0).fenced = false ∧ one.partHolding 0 = 0 ∧ (one.part 0).pstate ≠ 5 ∧
    ((co (fun k => { k with fenced := true })).core 0).fenced = true ∧
    (let s := one.setPart 0 { one.part 0 with pstate := 5 }; (s.core 0).fenced = false ∧ (s.part (s.partHolding 0)).pstate =
        5) := by
  decide +kernel
/-- Partition 0 recovers: core 0 is fenced, the spare rectangle is the upper half of the package. -/
def recovering (due : Option Nat) (spare : BitVec 25) : State :=
  let s := co (fun k => { k with fenced := true }) one
  s.setPart 0 { s.part 0 with pstate := 5, fencing := due, rect := 15 * 2 ^ 13 + 63 * 2 ^ 18, spare := spare }
theorem test_fence_drain : ((recovering (some 5) 0).part 0).fencing = some 5 ∧ (recovering (some 5) 0).tai < 5 ∧
    ({ recovering (some 5) 0 with tai := 5 } : State).tai = 5 ∧
    (let s := (recovering (some 5) 0).setCore 1 (one.core 0); (s.core 1).fenced = false ∧ 1 ∈ (s.partRect 0).cores ∧
      ((s.core 1).strand 0).run = .ready) := by decide +kernel
theorem test_replacement : (let s := recovering none (2 ^ 11 + 15 * 2 ^ 13 + 63 * 2 ^ 18); (s.part 0).pstate = 5 ∧
    (s.part 0).spare ≠ 0 ∧
    (∀ c ∈ (s.partRect 0).cores, (s.core c).fenced = true ∨ (s.core c).active = none) ∧
    s.lostRows (Rect.ofBits (s.part 0).rect.toNat) = [] ∧
    (∀ img ∈ s.planeImages ((Rect.ofBits (s.part 0).rect.toNat).cores.map (fun c => (s.core c).active)),
        s.relocations img = [])) ∧
    ((recovering none 0).part 0).spare = 0 ∧ (one.part 0).pstate ≠ 5 := by decide +kernel
/-- Row 3 of the shaft of core 0's first array is lost; the page of record 5 at 0x0000 lies there. -/
theorem test_lost_row : (let s := { paged 8 0 1 (recovering none 0) with bad := [(3, true)] }
    let s := s.setPlaced 0x1010 8 0
    s.lostRows (Rect.ofBits (s.part 0).rect.toNat) = [(0, 3)] ∧ s.partRecords 0 = [5] ∧ s.recField 5 0 1 ∈ [2, 3] ∧
    (∃ x ∈ s.lostRows (Rect.ofBits (s.part 0).rect.toNat), ∃ e ∈ s.recEntries 5, s.entNames e x = true)) := by
  refine ⟨by decide +kernel, by decide +kernel, by decide +kernel, (0, 3), by decide +kernel, 0x1010, by decide +kernel⟩
/-- Porch queue 0 of partition 0: image 7, whose directory entry 0 is a stream at line 2; queue of 4 entries of 64 bytes. -/
def mayRun (wr acc : Nat) : State :=
  let b := 0x500000
  let line (l w : Nat) (s : State) : State := s.setPhys (b + 64 * l) 4 w 0xF
  let s := line 1 (0x1FFFFF + 2 * 2 ^ 28) (line 2 (0x1FFFFF + 2 ^ 26 + 2 ^ 28) one)
  let s := s.setPhys (b + 64 + 4) 8 (1 + 2 * 2 ^ 32) 0xFF
  let s := { s with
    images := s.images ++ [(⟨7, b, 3, 1, 1, true, s.cfg.placeId, 0⟩ : Image)]
    cfg := { s.cfg with queues := [(0, { QueueDesc.off with en := true, hdr := 0x400000, image := 7 })] } }
  ((s.setAs0 0x400000 8 wr).setAs0 0x400008 8 acc).setAs0 0x400018 8 (4 + 64 * 2 ^ 32)
theorem test_may_run : (let s := mayRun 1 0; MayRun s 0 ⟨7, 0x500000, 3, 1, 1, true, s.cfg.placeId, 0⟩ 2 false ∧
    (s.porchQueue 0).restart = false ∧
    s.eventQueue 0 = some 0 ∧ (s.part 0).events = [] ∧ hdrField s 0 0x08 8 ≠ hdrField s 0 0 8) ∧
    (let s := mayRun 5 1; MayRun s 0 ⟨7, 0x500000, 3, 1, 1, true, s.cfg.placeId, 0⟩ 2 true ∧ hdrField s 0 0x08 8 ≠ hdrField s 0
        0 8) := by
  unfold MayRun hdrField; decide +kernel
theorem test_budget : (porch.porchQueue 0).running = true ∧ (porch.porchQueue 0).strand.run = .ready ∧
    (porch.porchQueue 0).issued < issueBudget (porch.queueDesc 0) ∧
    (let s := porch.setPorchQueue 0 { porch.porchQueue 0 with issued := 4096 }
     issueBudget (s.queueDesc 0) ≤ (s.porchQueue 0).issued) := by unfold issueBudget; decide +kernel
/-- A file of a header line and a code line, or a data line that its directory names. -/
def header (dirLine dirCount : Word) (n : Word) : List Word :=
  [0x1FFFFF + 0x20000000, 0x4943594D, 1, n, dirLine, dirCount, 0, 0, 0, 0, 0, 0, 0, 0, 0, 0]
def file (data : Bool) : ImageFile :=
  ⟨9, 0x600000, 1, 0x700000, 0x700000, [], [header (if data then 1 else 0) (if data then 1 else 0) 2,
    [if data then 0x1FFFFF + 0x20000000 else 0x1FFFFF + 0x04000000, 0x02000000]]⟩
theorem test_file : ∀ data ∈ [true, false], (let f := file data; fileBadField f = none ∧ fileDataOk f = true ∧ f.base % 64 = 0 ∧
    f.dataBase % 65536 = f.dataPhys % 65536 ∧ one.pooledOk f.base = true ∧ one.pooledOk f.dataPhys = true ∧
    one.pooledOk (f.base + 64 * f.lines.length - 1) = true ∧ one.pooledOk (f.dataPhys + fileDataSize f - 1) = true ∧
    fileChains f = (if data then [[1]] else []) ∧ fileHeader f 0x1C = 0 ∧ (one.part f.part.toNat).en = false ∧
    f.base + 64 * f.lines.length ≤ f.dataPhys) := by decide +kernel
/-- A file with a bad magic; one whose second data line no chain holds. -/
theorem test_file_refused : fileBadField { file true with lines := [[0x1FFFFF + 0x20000000, 0], [0x1FFFFF + 0x20000000]] } =
    some 0x04 ∧
    (let f := { file true with lines := [header 1 1 3, [0x1FFFFF + 0x20000000], [2 + 0x20000000]] }
     fileBadField f = none ∧ fileDataOk f = false) := by decide +kernel
/-- Bytes from the end of a stretch on do not enter its checksum. -/
theorem crcTable_beyond (n pos : Nat) (m : Cells Byte) (x : BitVec 64) (h : ∀ e ∈ m, pos + n ≤ e.1) :
    crcTable n pos m x = crcTable n pos [] x := by
  induction n generalizing pos x with
  | zero => rfl
  | succ n ih =>
    match m, h with
    | [], _ => rfl
    | (i, b) :: rest, h =>
      have hi := h (i, b) (List.mem_cons_self ..)
      simp only [crcTable, if_neg (show ¬ i = pos by simp at hi; omega)]
      exact ih (pos + 1) (crcByte x 0) (fun e he => by have := h e he; omega)
theorem setBytes_keys (m : Cells Byte) (a n v : Nat) (e : Nat × Byte) (h : e ∈ setBytes m a n v) : e ∈ m ∨ a ≤ e.1 := by
  induction n generalizing m a v with
  | zero => exact .inl h
  | succ n ih =>
    rcases ih _ _ _ h with h | h
    · unfold Cells.set at h
      split at h
      · exact .inl (Cells.mem_of_mem_erase h)
      · rcases Cells.mem_of_mem_insert h with h | h
        · exact .inr (by subst h; simp)
        · exact .inl (Cells.mem_of_mem_erase h)
    · exact .inr (by omega)
/-- Core 0's context in the cellar, all zero but its checksum. -/
def saved (s : State) (v : Nat) : State := { s with
  saved := [(0, some (s.core 0))]
  placed := (List.range 8).map (fun i => (s.cellarKey 0 (0x47FFF8 + i), BitVec.ofNat 8 (v / 256 ^ i))) }
/-- Where in its context a byte of the cellar belongs. -/
def contextAt (s : State) (key : Nat) : Nat :=
  let off := key % 2 ^ 27 - s.cellarBase
  off / 1024 * 65536 + (placeRow (key / 2 ^ 27) % 8 * 8 + placeCol (key / 2 ^ 27) % 8) * 1024 + off % 1024
theorem contextAt_key : ∀ i < 8, contextAt one (one.cellarKey 0 (0x47FFF8 + i)) = 0x47FFF8 + i ∧
    one.inContext 0 (one.cellarKey 0 (0x47FFF8 + i)) = true := by decide +kernel
theorem saved_context (s : State) (v : Nat) (hs : ∀ i < 8, contextAt s (s.cellarKey 0 (0x47FFF8 + i)) = 0x47FFF8 + i ∧
    s.inContext 0 (s.cellarKey 0 (0x47FFF8 + i)) = true) : (saved s v).readContext 0 = setBytes [] 0x47FFF8 8 v := by
  have hf : (saved s v).placed.filter (fun e => (saved s v).inContext 0 e.1) = (saved s v).placed :=
    List.filter_eq_self.mpr (fun e he => by
      obtain ⟨i, hi, rfl⟩ := List.mem_map.mp he
      exact (hs i (List.mem_range.mp hi)).2)
  unfold State.readContext
  rw [hf]
  change List.foldl (fun (m : Cells Byte) e => m.set 0 (contextAt s e.1) e.2) [] (saved s v).placed = _
  have hp : (saved s v).placed = (List.range 8).map (fun i => (s.cellarKey 0 (0x47FFF8 + i), BitVec.ofNat 8 (v / 256 ^ i))) := rfl
  rw [hp, List.foldl_map]
  have h := fun i hi => (hs i hi).1
  simp only [List.range, List.range.loop, List.foldl, h 0 (by decide), h 1 (by decide), h 2 (by decide), h 3 (by decide),
    h 4 (by decide), h 5 (by decide), h 6 (by decide), h 7 (by decide), setBytes, Nat.div_div_eq_div_mul]
  norm_num
theorem tableCrc_beyond (m : Cells Byte) (hi : Nat) (h : ∀ e ∈ m, hi ≤ e.1) : tableCrc m 0 hi = tableCrc [] 0 hi := by
  unfold tableCrc
  simp only [Nat.zero_le, decide_true, List.filter_true]
  rw [crcTable_beyond _ _ _ _ (by simpa using h)]
/-- A context with its checksum in place holds. -/
theorem contextOk_of_crc (s : State) (c : Nat) (v : Nat) (h : s.readContext c = setBytes [] 0x47FFF8 8 v)
    (hv : v = (tableCrc [] 0 0x47FF00).toNat) : s.contextOk c = true := by
  have hk : tableCrc (s.readContext c) 0 0x47FF00 = tableCrc [] 0 0x47FF00 := tableCrc_beyond _ _ (fun e he => by
    rw [h] at he
    rcases setBytes_keys _ _ _ _ e he with h | h
    · cases h
    · omega)
  simp only [State.contextOk]
  rw [hk, h, bytesAt_setBytes]
  generalize tableCrc [] 0 0x47FF00 = x at hv
  subst hv
  exact decide_eq_true (Nat.mod_eq_of_lt x.isLt)
theorem test_context_ok : (saved one (tableCrc [] 0 0x47FF00).toNat).contextOk 0 = true :=
  contextOk_of_crc _ _ _ (saved_context one _ contextAt_key) rfl
theorem test_context_saved : (saved one 0).saved.get none 0 = some (one.core 0) ∧ (saved one 0).badContext 0 = false :=
    by decide +kernel
/-! ## Witnesses: the fabric and the device -/

/-- A packet of 8 bytes of a kind on a channel, from package `src` to package 0, to window 2. -/
def packet (vc kind : Nat) (aux : Nat := 0) (n : Nat := 8) (src : Nat := 16) (seq : Nat := 1) : Packet :=
  ⟨mkHeader 0 src vc kind aux n 0 2 0x40 0 seq, List.replicate n 0⟩
/-- 128 packets of a flit. -/
def full : List Packet := (List.range 128).map (fun i => packet 1 0 0 8 16 (i + 1))
/-- Package 0 of a fabric of two, beside package 16, with the ports of direction 0 up. -/
def pair (bufs : Cells (List Packet) := []) (s : State := flat) : State :=
  { s with
    cfg := { s.cfg with wx := 2 }
    fabric := { s.fabric with bufs := bufs, ports := (List.range 3).map (fun p => (p, { Port.reset with up := true, lanes := 8 })) } }
theorem test_packet_route : ((pair).fabric.port 2).up = true ∧ InputRoom (pair) 2 (packet 1 0) ∧
    ¬ InputRoom (pair [(8 * 2 + 1, full)]) 2 (packet 1 0) ∧ 10 < pktKind (packet 1 11) ∧ 5 < pktVc (packet 6 0) ∧
    pktKind (packet 1 10) ≤ 10 ∧ pktVc (packet 5 0) ≤ 5 ∧ (flat.fabric.port 2).up = false := by unfold InputRoom; decide +kernel
/-- A head that may be granted: one for port 12, one for port 0 with and without promotion. -/
theorem test_output_grant : ((flat.heads 12).map (fun h => h.key)) = [] ∧
    (((pair [(8 * 2 + 1, [packet 1 0])]).heads 12).map (fun h => (h.key, h.vc))) = [(17, 1)] ∧
    (let p : Packet := ⟨mkHeader 16 0 1 0 0 8 0 2 0 0 1, List.replicate 8 0⟩
     let s := pair [(8 * 12 + 1, [p])]
     ((s.heads 1).map (fun h => (h.key, h.vc))) = [(97, 1)] ∧ s.fabric.promoted.get false 97 = false ∧
         0 < (s.fabric.port 1).cred.getD 1 0 ∧
     ((({ s with fabric := { s.fabric with promoted := [(97, true)] } } : State).heads 1).find?
       (fun g => ({ s with fabric := { s.fabric with promoted := [(97, true)] } } : State).fabric.promoted.get false
           g.key)).isSome = true) := by
  decide +kernel
theorem test_port_comes_up : (pair).neighbour (pair).pkg 0 = some 16 ∧ ((pair).fabric.port 0).en = true ∧
    (flat.neighbour flat.pkg 0) = none ∧
    (2 : BitVec 5).toNat = (pair).cfg.wx ∧ (1 : BitVec 5).toNat = (pair).cfg.wy ∧ (0 : BitVec 2).getLsbD 0 = (pair).cfg.wrapX :=
        by
  decide +kernel
theorem test_lane_failure : (4 : BitVec 4).toNat < ((pair).fabric.port 0).lanes ∧ (3 : BitVec 4).toNat < 4 ∧
    ((pair).fabric.port 0).up = true ∧
    (0x1000000 : DWord).getLsbD 24 = true ∧ (flat.fabric.port 0).up = false := by decide +kernel
/-- The packet at the head of its channel's inbox, window 2 of 4 KiB over placed memory open to all with every right. -/
def winW (attr : DWord := 7) : FWindow := ⟨0x1000, 0x1000, attr, 0xFF00⟩
def arrived (p : Packet) (box : Nat := pktVc p) (w : FWindow := winW) : State :=
  { pair with fabric := { pair.fabric with inbox := [(box, [⟨p, w⟩])] } }
theorem test_requests : (∀ e ∈ [(0, 0, 1), (10, 0, 1), (2, 0, 0), (4, 0, 2), (4, 16, 2)], (let p := packet 1 e.1 e.2.1 (if e.2.1 = 16 then 16 else 8)
    let s := arrived p
    AtHead s 1 e.1 ⟨p, winW⟩ [] ∧ (takenFrom s 1 []).targetCheck ⟨p, winW⟩ e.2.2 8 = none ∧ LocalRoom s (pktVc p) ∧
    LocalRoom s (answerVc (pktVc p)) ∧ ¬ LocalRoom { s with fabric := { s.fabric with bufs := [(97, full)] } } 1)) ∧
    AtHead (arrived (packet 1 8)) 1 8 ⟨packet 1 8, winW⟩ [] := by unfold AtHead LocalRoom answerVc; decide +kernel
theorem test_request_seen : (let p := packet 1 0; let s := arrived p
    ({ s with fabric := { s.fabric with seqIn := [(8 * 16 + 1, [1])] } } : State).seen p = true) := by decide +kernel
/-- A window of no rights; one whose offset lies outside; an absent place; an offset past the placed rows; a row in error. -/
theorem test_target_checks : (let r : Arrived := ⟨packet 1 0, winW⟩; let w := winW
    (0x40 + 8 ≤ w.size.toNat) ∧ pktOffset r.pkt + 8 ≤ w.size.toNat ∧ w.size ≠ 0 ∧ pktSrc r.pkt ∈ rectPackages w.srect.toNat ∧
    winPlaced w = true ∧ flat.present (0x1040 / 2 ^ 27) = true ∧ (0x1040 % 2 ^ 27 + 8 ≤ flat.placedBytes)) ∧
    (winW 1).attr.toNat.testBit 1 = false ∧ flat.present (2 ^ 12) = false ∧ (flat.placedBytes < 2 ^ 26 + 8) ∧
    pktSrc (packet 1 0 0 8 1) ∉ rectPackages (0 : DWord).toNat ∧ (0x40 : Nat) < 0x40 + 8 := by decide +kernel
theorem test_reduction : (let p := packet 3 6; let s := (arrived p 18).setRwindow 2 { window 0 with children := 4 }
    s.fabric.inbox.get [] (16 + 2) = ⟨p, winW⟩ :: [] ∧ pktKind p = 6 ∧ pktVc p = 3 ∧ s.takesReduction p = true ∧
        s.seen p = false ∧
    (∀ i < 2, s.fabric.inbox.get [] (16 + i) = []) ∧ (s.rwindow (pktWin p)).children.getLsbD 2 = true ∧
    (s.rwindow (pktWin p)).doneChunks = [] ∧ (window 0).children.getLsbD 2 = false) := by decide +kernel
/-- A request of strand 0 of core 0 waits for the answer numbered 1 from package 16. -/
def awaiting (waiter : Waiter) (kind : Nat) (fars : List FarLoad := [far1 5]) : State :=
  let s := arrived (packet 1 kind 5)
  let s := { s with fabric := { s.fabric with pending := [⟨5, 16, 1, 1, 200000, waiter, 0, 2 * 2 ^ 40 + 0x40⟩] } }
  s.setMe { s.me with far := fars, trapEn := true }
theorem test_answers : (∀ kind ∈ [3, 5, 9], (let s := awaiting (.load (.strand 0 0)) kind
    s.fabric.inbox.get [] 1 = ⟨packet 1 kind 5, winW⟩ :: [] ∧ ((takenFrom s 1 []).pendingOf (packet 1 kind 5)).isSome = true ∧
    (s.core 0).fenced = false ∧ (s.strandOf (.strand 0 0)).far = [far1 5] ∧ (far1 5).id = some 5 ∧ (far1 5).own = [] ∧
        (far1 5).failed = none ∧
    s.me.trapIn = false ∧ s.me.run = .ready)) ∧
    (let s := awaiting (.load (.strand 0 0)) 9 [far1 4, far1 5]; (s.strandOf (.strand 0 0)).far = far1 4 :: [far1 5] ∧
        (far1 4).id ≠ some 5) ∧
    (∀ kind ∈ [3, 9], ((takenFrom (awaiting .manage kind) 1 []).pendingOf (packet 1 kind 5)).map (fun x =>
        x.waiter) = some .manage) ∧
    (∀ w ∈ [Waiter.store (.strand 0 0), .chunk 0, .engine 0], ((takenFrom (awaiting w 1) 1 []).pendingOf (packet 1 1 5)).isSome
        = true ∧
      pktKind (packet 1 1) = 1) ∧ (takenFrom (arrived (packet 1 1)) 1 []).pendingOf (packet 1 1) = none := by decide +kernel
theorem test_fabric_timeout : (let s := awaiting (.store (.strand 0 0)) 1
    (s.fabric.pending.find? (fun y => y.id == 5)).isSome = true ∧ s.tai < 200000 ∧ s.route 16 = some 1 ∧
    200000 ≤ ({ s with tai := 200000 } : State).tai) ∧ ((awaiting (.load (.strand 0 0)) 1).core 0).fenced = false ∧
        (∀ y ∈ flat.fabric.pending, y.id ≠ 5) := by decide +kernel
theorem test_time : (let t : TimeStamps := ⟨1000, 1100, 1200, 1100⟩; aheadBy t = 100) ∧ flat.servo.parent = none ∧
    flat.cfg.asym = 0 ∧
    flat.groups = [] ∧ aheadBy ⟨4000000, 0, 0, 4000000⟩ < -1000000 ∧
    (let s := pair.input (.timeParent (some 0)); s.servo.parent = some 0 ∧ s.servo.lost = false ∧ (s.fabric.port 0).up = true ∧
      s.fabric.inbox.get [] 0 = [] ∧ s.neighbour s.pkg 0 = some 16) ∧
    (let s := (arrived (packet 0 7)).input (.timeParent (some 0)); AtHead s 0 7 ⟨packet 0 7, winW⟩ [] ∧
      s.neighbour s.pkg 0 = some (pktSrc (packet 0 7)) ∧ some (pktSrc (packet 0 7 0 8 1)) ≠ some 16) :=
          by unfold AtHead; decide +kernel
theorem test_lost_parent : (let s := pair.input (.timeParent (some 5)); s.servo.parent = some 5 ∧ (s.fabric.port 5).up = false ∧
    s.fabric.inbox.get [] 0 = []) ∧ (let s := { pair with servo := { pair.servo with parent := some 0, lost := true } }
    s.servo.lost = true) := by decide +kernel
theorem test_pstate : (∀ e ∈ flat.parts, e.2.pstate ≠ 1) ∧ (∀ e ∈ flat.groups, e.2.ticking = false) ∧
    (∀ p < 12, (({ flat with fabric := { flat.fabric with ports := (List.range 12).map (fun p => (p, { Port.reset with en := false })) } } :
      State).fabric.port p).en = false) := by decide +kernel
theorem test_mitigation : flat.present 0 = true ∧ (flat.shaft 0).open_ = false ∧ (flat.shaft 0).grid < 64000 / 64000 ∧
    ({ flat with up := 72 * 64000 } : State).up / 72 = 64000 ∧ flat.present (2 ^ 12) = false ∧ (47 : BitVec 6).toNat < 48 :=
        by decide +kernel
/-- Inbound window 0: adapter offsets 4096 on, 4 KiB at 0x40_0000 of address space 0. -/
def hostWin : State := flat.input (.hostWindow 0 ⟨4096, 4096, 0x400000, 0, true, true⟩)
theorem test_host_access : (let w := hostWin.hostIn.get ⟨0, 0, 0, 0, false, false⟩ 0
    w.readable = true ∧ w.writable = true ∧ w.off ≤ 4096 + 8 ∧ 4096 + 8 - w.off + 8 ≤ w.size ∧ hostWin.power.pstate ≠ 3) ∧
    (match (hostWin.farReadG 0 (linePieces 9 0x400008 8)).1 with | .val v => v == 0 | _ => false) = true ∧
    (flat.hostIn.get ⟨0, 0, 0, 0, false, false⟩ 0).readable = false := by decide +kernel
theorem test_fatal : flat.stopped = false ∧ (let s := hosted; s.cfg.hostOut = [⟨0, 4096, 0x1000, true⟩]) ∧
    (let s := { hosted with cfg := { hosted.cfg with sumpBase := 0x100, sumpSize := 0x400 } }
     0x14 ≤ s.cfg.sumpSize ∧ s.cfg.sumpBase + s.cfg.sumpSize ≤ 0 + 4096) := by decide +kernel
/-- A die at its limit raises the level, and with no cause it falls; a claimed cause that does not hold changes nothing. -/
theorem test_throttle : (true, false) ≠ (one.hot, one.overPower) ∧
    ((after (.throttleChange 2 true false) (one.input (.sense 2 840))).power.level,
     (after (.throttleChange 2 true false) (one.input (.sense 2 840))).power.pstate) = (2, 1) := by decide +kernel
/-! ## Witnesses: steps, guards, interlocks, inputs -/

theorem test_on_turn : OnTurn one one 0 0 ∧ StillToRun one ∧ OwnLine one placedImage ∧ one.me.slot ≠ 0 ∧
    decode (pcWords one placedImage).1 (pcWords one placedImage).2 = .ok .nop ∧
    ¬ (isLong (pcWords one placedImage).1 = true ∧ one.me.slot = 15) ∧ (pcWords one placedImage).1.toNat / 2 ^ 25 ≠ 0x63 := by
  refine ⟨by unfold OnTurn TurnOf MayIssue HoldsSlot Runs AtBreakpoint; decide +kernel, by unfold StillToRun; decide +kernel, by unfold OwnLine lineWord; decide +kernel, by decide +kernel, by unfold pcWords lineWord; decide +kernel,
    by unfold pcWords lineWord; decide +kernel, by unfold pcWords lineWord; decide +kernel⟩
/-- The strand at another line or slot of the image. -/
def at_ (line : Line) (slot : Slot) (s : State := one) : State := s.setMe { s.me with line := line, slot := slot }
theorem test_turn_beyond : OnTurn (at_ 2 1) (at_ 2 1) 0 0 := by unfold OnTurn TurnOf MayIssue HoldsSlot Runs AtBreakpoint; decide +kernel
theorem test_turn_slot0 : OnTurn (at_ 1 0) (at_ 1 0) 0 0 ∧ OwnLine (at_ 1 0) placedImage ∧ (at_ 1 0).me.slot = 0 :=
  ⟨by unfold OnTurn TurnOf MayIssue HoldsSlot Runs AtBreakpoint; decide +kernel, by unfold OwnLine lineWord; decide +kernel, by decide +kernel⟩
theorem test_turn_owner : (let s := one.setPhys (placeBase + 64) 4 (1 + 2 ^ 28) 0xF
    OnTurn s s 0 0 ∧ (lineWord s placedImage s.me.line.toNat 0).toNat / 2 ^ 28 ≠ 0) :=
  ⟨by unfold OnTurn TurnOf MayIssue HoldsSlot Runs AtBreakpoint; decide +kernel, by unfold lineWord; decide +kernel⟩
theorem test_turn_no_image : OnTurn { one with images := [] } { one with images := [] } 0 0 :=
    by unfold OnTurn TurnOf MayIssue HoldsSlot Runs AtBreakpoint; decide +kernel
theorem test_fetch_faults : (at_ 2 1).imageOf (at_ 2 1).cur = some placedImage ∧ placedImage.nlines ≤ (at_ 2 1).me.line.toNat ∧
    ({ one with images := [] } : State).imageOf one.cur = none := by decide +kernel
/-- Slot 15 holds a long form; the words of a PORCH form, of an undefined major, of NOP with a bit set. -/
theorem test_turn_slot15 : (let s := at_ 1 15 (one.setPhys (placeBase + 64 + 60) 4 0x80002020 0xF)
    OnTurn s s 0 0 ∧ OwnLine s placedImage ∧ s.me.slot = 15 ∧ isLong (pcWords s placedImage).1 = true) :=
  ⟨by unfold OnTurn TurnOf MayIssue HoldsSlot Runs AtBreakpoint; decide +kernel, by unfold OwnLine lineWord; decide +kernel, by decide +kernel,
    by unfold pcWords lineWord; decide +kernel⟩
def decodeError (w : Nat) : Option DecodeError :=
  match decode (pcWords (one w) placedImage).1 (pcWords (one w) placedImage).2 with
  | .error r => some r
  | .ok _ => none
theorem test_decode_faults : (pcWords (one 0xC6000000) placedImage).1.toNat / 2 ^ 25 = 0x63 ∧
    decodeError 0x2A000000 = some .reserved ∧
    decodeError 0x02000001 = some .field := by unfold decodeError pcWords lineWord; decide +kernel
/-- Stopped, with an event that no longer reaches the package and one that does. -/
def stoppedWith (a : List Agendum) : State := { one with stopped := true, agenda := a }
theorem test_stopped : (stoppedWith []).stopped = true ∧ (stoppedWith []).agenda = [] ∧ ¬ OverLink one (.clocks 5) ∧
    OverLink one (.event .packageReset) ∧ OverLink one (.input (.debugRead 0 0 0 8)) ∧ one.stopped = false ∧ one.booted = true ∧
    OverLink one (.input .hostReplay) := by
  refine ⟨rfl, rfl, ?_, .inl rfl, by simp [OverLink], by decide +kernel, by decide +kernel, by simp [OverLink]⟩
  simp [OverLink]
theorem test_agenda : wordCount (.tick 0) = 0 ∧ (∀ w0 w1, Instr.tick 0 ≠ .reservedEncoding w0 w1) :=
    ⟨rfl, fun _ _ h => by cases h⟩
/-- A porch run at its stream's line: the words of ADD there. -/
def porchRun : State := let s := (mayRun 1 0).setPhys (0x500000 + 128 + 4) 4 0x04308800 0xF
  { s.setPorchQueue 0 { s.porchQueue 0 with running := true, strand := { one.me with line := 2, slot := 1 } } with cur := .porch 0 }
theorem test_porch_turn : (let s := porchRun; let img : Image := ⟨7, 0x500000, 3, 1, 1, true, s.cfg.placeId, 0⟩
    OnPorchTurn s s 0 ∧ s.imageOf s.cur = some img ∧ s.me.line.toNat < img.nlines ∧ (lineWord s img s.me.line.toNat 0).toNat / 2 ^ 28 = 1 ∧
    s.porchPermits img (pcWords s img).1 (pcWords s img).2 = true ∧ (match decode (pcWords s img).1 (pcWords s img).2 with
      | .ok (.add _) => true | _ => false) = true) := by unfold OnPorchTurn TurnOf Runs StillToRun pcWords lineWord issueBudget; decide +kernel
/-- Guards 1 are off; rings, places, groups and vector rows that the checks admit. -/
theorem test_checks_pass : (ringAt 0 0 0).ringCheck 2 true = none ∧ (ringAt 0 0 0).ringCheck 2 false = none ∧
    one.placeCheck 0 0 0 = none ∧ (grouped).ownGroup ⟨0, 0, 0, 0, 0⟩ true = none ∧ (grouped).ownGroup ⟨0, 0, 0, 0, 0⟩ false =
        none ∧
    sysregDefined 0x023 = true ∧ (ringAt 0 0 0).ringAccessCheck ⟨0, 0, 0, 0, 0x000002⟩ = none ∧
    porch.isPorch = true ∧ porch.guard7 1 = false ∧ (vec).vmemCheck (vld0 0) 0 = none := by decide +kernel
theorem test_interlock : OnStrand one ∧ (5 : BitVec 5) ∈ (me (fun t => { t with inflight := [5] })).me.inflight ∧
    one.guard4 0 = true ∧ one.guard7 0 = true ∧ one.blockEnd = none := ⟨⟨0, 0, by decide +kernel⟩, by decide +kernel⟩
theorem test_debug_input : ((debugged one .halted).core 0).dbg = true ∧ Cells.wf 0 (debugged one .halted).me.x = true ∧
    (∀ e ∈ (debugged one .halted).me.x, e.1 < 32) ∧ (∀ e ∈ (debugged one .halted).me.p, e.1 < 128) ∧ (one.core 0).dbg = false ∧
    ((debugged one .halted).strandOf (.strand 0 0)).run = .halted := by decide +kernel
theorem test_time_passes : one.servo.slew = 0 ∧ (one.core 0).fenced = false ∧ one.coreStopped 0 = false ∧
    (one.core 0).holder = some 0 ∧
    (((parked (.clk 5)).core 0).strand 0).run = .parked (.clk 5) ∧ one.power.pstate ≠ 2 ∧ one.power.pstate ≠ 3 ∧
    ({ one with power := { one.power with pstate := 2 } } : State).power.pstate = 2 := by decide +kernel
theorem test_well_formed_instruction : wordCount (.add ⟨31, 31, 31, 15⟩) ≠ 0 ∧ (Instr.add ⟨31, 31, 31, 15⟩).wf = true :=
    by decide +kernel
theorem test_memory_canonical : State.reset.memoryWf = true ∧ one.memoryWf = true := by decide +kernel
theorem test_step_runs : (match step one with | .next _ => true | _ => false) = true := by decide +kernel
/-! ## Witnesses: loads of the fabric, held stores, kept records, several clauses at once -/

theorem test_calls_past_end : Ready ended true [31] ∧ Ready ended (ended.guard7 0) [31] ∧ ended.successor 1 = none ∧
    ended.successor 2 = none ∧ (let s := ended.setMe { ended.me with x := [(5, 0x21)] }
    goodTarget (s.rx 5) ∧ Ready s (s.guard4 0) [5, 31] ∧ s.successor 1 = none) := by unfold goodTarget Ready; decide +kernel
theorem test_far_load : Issues (at5 0) 2 true [1, 5] ∧ (at5 0).me.storeq = [] ∧ (at5 0).me.loadWaits 2 4 0 8 = false ∧
    (at5 0).me.far = [] ∧
    (farLoading [far1 1 5 3] (at5 0)).me.loadWaits 2 4 (2 * 2 ^ 40) 8 = false := by unfold Issues; decide +kernel
/-- A store of 8 bytes that has faulted, and a load of its bytes. -/
def heldStore : StoreEntry := { entry 1 0x40 with fault := some 0x0D }
theorem test_held_store_load : (let s := queued [heldStore] (at5 0x40)
    Issues s 1 true [1, 5] ∧ s.me.storeq = [heldStore] ∧ heldStore.kind = .store ∧ heldStore.space.toNat = 1 ∧
    heldStore.addr = shortAddr s ld8 ∧ heldStore.size = 2 ^ ld8.sz.toNat ∧ heldStore.keep = 2 ^ heldStore.size - 1 ∧
    heldStore.data < 2 ^ (8 * heldStore.size) ∧ heldStore.fault ≠ none ∧ s.bad = [] ∧
    s.checkAccess s.cur 1 (shortAddr s ld8) 8 false 2 = none ∧ s.me.loadWaits 2 1 (shortAddr s ld8) 8 = false) :=
        by unfold Issues; decide +kernel
/-- A RED on pooled memory, with and without .rel, its old value read through the L1 or the coherent copy. -/
theorem test_pooled_red : ∀ sc ∈ [0, 1], ∀ rel ∈ [true, false], (let a := Agent.strand 0 0
    let e := { entry 2 0x1000 (.atomic 1) sc with rel := rel }
    let s := ReleasedFor (queued [e]) a e
    let u := (s.readSpace a 2 0x1000 8 (e.scope != 0)).2
    let v := (u.translate 0 0x1000 8 true true).2
    s.fencedOff a = false ∧ s.bad = [] ∧ (s.translate (s.asidOf a) 0x1000 8 false true).1 = .ok 0x1000 0 ∧
    (∀ z ∈ [s, u], z.registerBytes 0x1000 8 = none) ∧ (u.translate (u.asidOf a) 0x1000 8 true true).1 = .ok 0x1000 0 ∧
    (v.walked.all (fun w => w.1 != 0x40)) = true ∧ v.roKeep 0x1000 8 = 2 ^ 8 - 1 ∧ v.qstatValue 0x1000 8 0x0123456789ABCDEF =
        0x0123456789ABCDEF ∧
    v.blockValue 0x1000 0x0123456789ABCDEF 8 = 0x0123456789ABCDEF) := by decide +kernel
theorem test_rel_behind : (let s := queued [entry 1 0, { entry 0 8 (.atomic 1) with rel := true, cls := 9 }]
    ((s.strandOf (.strand 0 0)).storeq[1]?).map (fun e => e.rel) = some true ∧
    ∃ i < (1 : BitVec 5).toNat, ∃ f, (s.strandOf (.strand 0 0)).storeq[i]? = some f) :=
        ⟨by decide +kernel, 0, by decide, entry 1 0, by decide +kernel⟩
theorem test_fence_far : (∀ x ∈ (farLoading [far1 1] flat).me.far, (1 : BitVec 24).getLsbD x.cls.toNat = false) ∧
    (farLoading [far1 1] flat).me.storeq = [] ∧ (0 : BitVec 24).setWidth 16 = 0#16 := by decide +kernel
/-- A line dirty in the L1 that no L2 holds. -/
theorem test_cache_l1_alone : ∀ fn ∈ [8, 9], (let e := { entry 2 0 (.cache (BitVec.ofNat 4 fn) 64) 1 with size := 64 }
    let s := queued [e] (withL1 [line0 1]); let u := (s.translate 0 0 1 true false).2
    e.scope ≠ 0 ∧ (s.core 0).l1 = [line0 1] ∧ (s.translate 0 0 1 true false).1 = .ok 0 0 ∧ (u.core 0).l1 = [line0 1] ∧ u.l2 = [] ∧
    (u.walked.all (fun w => w.1 != 0)) = true ∧ ((u.maintainL1 0 (line0 1) (fn - 8)).translate 0 0 1 false false).1 = .ok 0
        0) := by
  decide +kernel
theorem test_far_load_return : (∃ f ∈ (farLoading [far1 1]).me.far, f.dest = 5) ∧ (∀ f ∈ (farLoading [far1 1]).me.far,
    f.dest ≠ 6) ∧
    (one.core 0).fenced = false ∧ ((co (fun k => { k with fenced := true })).core 0).fenced = true := by decide +kernel
theorem test_store_waits_retry : (let e : StoreEntry := { entry 2 0x40 with retry := some (0x40, 5) }
    let s := queued [e] (one.setPart 0 { one.part 0 with parkMode := true })
    (s.translate (s.asidOf (.strand 0 0)) 0x40 8 true true).1 = .miss ∧ s.tai < 5 ∧ 5 ≤ ({ s with tai := 5 } : State).tai) :=
        by decide +kernel
/-- VCVTW past v63 and over its source, VTOPK in v63 and over its source; every form of a window has a register name. -/
theorem test_group_faults : (let inside (first n other : Nat) : Prop := other < vec.me.wv ∧ ∀ j < n, first + j < 64 →
    first + j < vec.me.wv
    inside 63 2 0 ∧ 64 < 63 + 2 ∧ inside 60 4 63 ∧ 60 + 4 ≤ 64 ∧ (∃ j < 4, vec.vphys (60 + j) = vec.vphys 63)) ∧
    ¬ (0 < flat.me.wv) := by
  refine ⟨⟨by decide +kernel, by decide, by decide +kernel, by decide, 3, by decide, by decide +kernel⟩, by decide +kernel⟩
theorem test_window_names : (longNames.all (fun e => !(e.2 ⟨0, 0, 0, 0, 0, 0, 0, 0⟩).isEmpty)) = true ∧
    (shortNames.all (fun e => !(e.2 ⟨0, 0, 0, 0⟩).isEmpty)) = true ∧ flat.me.wv ≤ (0 : BitVec 6).toNat := by
  unfold longNames shortNames; decide +kernel
/-- A barrier wait as updates of its ring leave it. -/
theorem test_barrier_watch : (let u := parked (.barrier 2 3 .waiting)
    ((u.core 0).strand 0).run = .parked (.barrier 2 3 .waiting)) ∧ (parked (.barrier 2 3 .met)).me.run = .parked (.barrier 2 3
        .met) ∧
    (parked (.barrier 2 3 .broken)).me.run = .parked (.barrier 2 3 .broken) ∧ (parked (.barrier 2 3 .met)).nextLine.isSome =
        true ∧
    (one.core 0).fenced = false ∧ one.fencedOff (.strand 0 0) = false := by decide +kernel
/-- The eight row sequencers at one AMAC: all at the unit, and row 0 alone. -/
def chained : State := (List.range 8).foldl (fun s q => co (fun k => k.setQueue q
  { Queue.reset with entries := [{ command amac with gate := [] }], mseq := 1, started := true, phase := 2 }) s) (engineRing flat)
theorem test_amac_chain : (chained.core 0).chainFirst 0 0 = true ∧ chained.chainReady 4 0 0 0 = true ∧
    (chained.sumsIn 0 0 0 false (pairMode 0 0)).isSome = true ∧ ((running 0).core 0).chainFirst 0 0 = true ∧
    (running 0).atUnit 0 1 0 = false := by decide +kernel
/-- A fill that no beat of has been transferred: a window is due; the same of a fenced core. -/
theorem test_beat_held : (let s :=
    { co (fun k => k.setArray 0 { ArrayUnit.reset with fill := some ⟨3, false, 1, 0, [], some 3⟩ }) flat with up := 72 * 64000 }
    let shaft := s.shaft (shaftIndex (corePlace 0 0 0)); (decide (shaft.grid < s.up / 72 / 64000) = true)) ∧
    ((co (fun k => { k with fenced := true }) filling).core 0).fenced = true := by decide +kernel
theorem test_mitigation_fill : filling.fillOf (shaftIndex (corePlace 0 0 0)) = some ⟨3, false, 1, 0, [(1, 7)], some 3⟩ ∧
    flat.fillOf 0 = none := by decide +kernel
/-- An armed window whose chunks are done and gone, and one that has a chunk to combine. -/
theorem test_fxwin_waits : (let s := (fabric 0x53).setRwindow 0 { window 0 with doneChunks := (List.range (window 0).chunks) }
    let v := s.rwindow 0; v.armed = true ∧ v.chunks ≤ v.doneChunks.length ∧ ∀ k < v.chunks, s.chunkWaits 0 k v = false) ∧
    ((fabric 0x53).setRwindow 0 (window 0)).rwindow 0 = window 0 ∧ (window 0).armed = true ∧
    ¬ (window 0).chunks ≤ (window 0).doneChunks.length := by decide +kernel
/-- A delivery whose page is not there, in park mode; window 0 admits writes or does not. -/
def delivering (attr : DWord) : State :=
  let s := (one.setPart 0 { one.part 0 with parkMode := true }).setRwindow 0 (window 15 true)
  { s with fabric := { s.fabric with inbound := [(0, winW attr)] } }
theorem test_chunk_window : ((delivering 7).fwindow 0).attr.getLsbD 1 = true ∧ ((delivering 1).fwindow 0).attr.getLsbD 1 = false ∧
    (let s := delivering 7; let v := s.rwindow 0
    let out := (v.combine 0).map (deliverElement v.op.toNat); let bytes := (out.map (fun e => e.1)).flatten
    v.complete 0 = true ∧ v.parent = 15 ∧ v.missed.get none 0 = none ∧ (∀ k < 32, ((s.core k).queue 13).phase ≠ 7) ∧
    (match s.engineWrite v.core.toNat 2 ((v.base.toNat + windowElem v.op.toNat v.cols * (0 * v.per)) % 2 ^ 64) bytes.length
        (ofBytes bytes) 0 with
      | (.miss _, _) => true | _ => false) = true) ∧
    ({ window 15 true with missed := [(0, some 5)] } : RWindow).missed.get none 0 = some 5 := by decide +kernel
/-- TRAP and RTT behind loads of the fabric. -/
theorem test_trap_far : (farLoading [far1 1]).me.far ≠ [] ∧ one.me.far = [] ∧ one.guard7 0 = true ∧
    (∃ x ∈ (farLoading [{ far1 1 with handler := true }] (handled true)).me.far, x.handler = true) ∧
    (∀ x ∈ (farLoading [far1 1] (handled true)).me.far, x.handler = false) := by decide +kernel
theorem test_return_queued : (let s := (handled true).setMe { (handled true).me with queued := List.replicate 5 fault2 }
    s.me.queued = fault2 :: List.replicate 4 fault2 ∧ (List.replicate 4 fault2).length ≤ 4 ∧ s.me.trapEn = true) ∧
    (let s := (handled true).setMe { (handled true).me with queued := [fault2, fault2], trapEn := false }
     s.me.queued = fault2 :: [fault2] ∧ s.me.trapEn = false) ∧
    one.me.pass = Passing.none ∧ (me (fun t => { t with pass := ⟨some 5, none⟩ })).me.pass ≠ Passing.none := by
  decide +kernel
/-- Where an engine's record finds its strand: halted for debug; in a handler without a trap path; without a trap path. -/
theorem test_engine_record_cases : (let m := (debugged one .debugged).me; m.trapIn = false ∧ m.run = .debugged) ∧
    (let m := ((handled true).setMe { (handled true).me with trapEn := false }).me; m.trapIn = true ∧ m.trapEn = false) ∧
    (one.me.trapIn = false ∧ one.me.run ≠ .debugged ∧ one.me.trapEn = false) ∧
    (parkedQueue false (handled)).me.run ∉ [Run.absent, .halted, .trapped] ∧ (parkedQueue false (handled)).me.trapIn = false :=
        by decide +kernel
theorem test_release_cases : (let m := { (debugged).me with trapIn := true, queued := [fault2] }; m.run = .debugged ∧
    m.trapIn = true) ∧
    (let m := { (debugged).me with queued := [fault2, fault2] }; m.trapIn = false ∧ m.trapEn = false ∧
        m.queued = fault2 :: [fault2]) ∧
    (debugged).me.run = .debugged := by decide +kernel
theorem test_brk_ends : (debugged ended .ready).guard7 0 = true ∧ (debugged ended .ready).isPorch = false ∧
    ((debugged ended .ready).core (debugged ended .ready).myCore).dbg = true ∧ (debugged ended .ready).successor 2 = none :=
        by decide +kernel
theorem test_detach : ∀ c k, (one.strandOf (.strand c k)).run ≠ .debugged := by decide +kernel
/-- In park mode the page of the ingest ring is not there. -/
def ingestMissing : State := let s := slotted 0x400000 0x480000
  (co (fun k => { k with active := some { Plane.bare 1 1 with group := some 0 } }) s).setPart 0 { s.part 0 with parkMode := true }
theorem test_tstamp_miss : (let s := ingestMissing; s.myGroup.isSome = true ∧ (tableEntry s 0 0).testBit 12 = true ∧
    s.recField 5 0x30 8 = 0x480000 ∧
    s.recField (entryRecord (tableEntry s 0 0)) 0x30 8 % 64 = 0 ∧
    (match s.vestLoad (s.asidOf s.cur) 0x480000 16 with | (.miss _, _) => true | _ => false) = true) :=
        by unfold tableEntry; decide +kernel
theorem test_tick_pending : ((timed true 1000000).setGroup 0
    { (timed true 1000000).group 0 with pending := [(2000000, 3, 2)] }).group 0 =
    { (timed true 1000000).group 0 with pending := [(2000000, 3, 2)] } ∧ ((timed true 1000000).group 0).tickNo = 0 :=
        by decide +kernel
theorem test_saved_step : (let s := one.setPart 0 { one.part 0 with saved := true, rung := 2 }
    (s.part (s.group 0).cfg.part.toNat).saved = true ∧ (s.part (s.group 0).cfg.part.toNat).rung = 2) ∧
    ((stepping .open).part 0).saved = false := by decide +kernel
theorem test_resume_rungs : (let s := porchX 0 0
    (let t := s.setPart 0 { s.part 0 with saved := true, rung := 2 }
     let u := ((t.partRect 0).cores.foldl State.restoreCore ((t.showSaved 0 false 0).setPstate 0 1)).refreshPstate 0
     (u.successor 2).isSome = true) ∧
    (let t := s.setPart 0 { s.part 0 with saved := true, rung := 3 }
     (t.part 0).rung = 3 ∧ (((((t.showSaved 0 false 0).setPstate 0 1).relaunchAll 0).refreshPstate 0).successor 2).isSome =
         true)) := by
  decide +kernel
theorem test_drained_alone : (let s := recovering none 0; ∀ c ∈ (s.partRect 0).cores, (s.core c).fenced = true ∨
    (s.core c).active = none) ∧
    (∀ c ∈ ((recovering none 0).partRect 0).cores, (recovering none 0).core c = (recovering none 0).core c) := by decide +kernel
/-- The tables of partition 0 may take the page, or it is off; a leaf in memory or beyond it. -/
theorem test_map_data : (one.part 0).en = true ∧ (let p := { one.part 0 with en := false }; p.en = false) ∧
    one.pooledOk 0x101000 = true ∧
    one.pooledOk (2 ^ 60) = false := by decide +kernel
/-- Two heads for the local port, on channels 1 and 2; the turn is on channel 0, so channel 1 goes first. -/
def contended : State := pair [(8 * 2 + 1, [packet 1 0]), (8 * 2 + 2, [packet 2 0])]
theorem test_output_rounds : (contended.fabric.port 12).cur = 0 ∧ (contended.heads 12).map (fun h => h.vc) = [1, 2] ∧
    ((contended.heads 12).find? (fun g => g.vc == 1)).map (fun h => h.key) = some 17 ∧
    (contended.heads 12).all (fun g => !contended.fabric.promoted.get false g.key) = true ∧
    (let v := contended.fabric.port 12
     let cred := if (contended.heads 12).any (fun g => decide (0 < v.cred.getD g.vc 0)) then v.cred
       else (List.range 6).map (fun i => v.wt.toNat / 16 ^ i % 16)
     0 < cred.getD 1 0 ∧ 1 = (v.cur + 1) % 6 ∧ (contended.heads 12).all (fun g => g.vc != (v.cur + 0) % 6) = true) :=
         by decide +kernel
theorem test_management : (let p := packet 5 8; let s := arrived p; AtHead s 5 8 ⟨p, winW⟩ []) ∧
    (let p := packet 1 8; let s := arrived p; AtHead s 1 8 ⟨p, winW⟩ [] ∧ (1 : BitVec 3).toNat ≠ 5) :=
        by unfold AtHead; decide +kernel
theorem test_manage : LocalRoom pair 5 ∧ ¬ LocalRoom (pair [(8 * 12 + 5, full)]) 5 ∧ (8 : Nat) ≠ 0 ∧ (8 : Nat) ≤ 4096 := by
  unfold LocalRoom; decide +kernel
/-- A servo that follows its clock, in holdover two seconds after its last message. -/
theorem test_holdover : (let s := { flat with servo := { flat.servo with status := 1, lastMsg := 0 }, tai := 2000000000 }
    s.servo.status ≠ 0 ∧ s.servo.lastMsg + 2000000000 ≤ s.tai) := by decide +kernel
/-- Strand 0 of core 1 as strand 0 of core 0, on turn as well in the same clk. -/
def alsoOne : State := { (one.setCore 1 (one.core 0)) with agenda := [.also (.strand 1 0)], acted := [.strand 0 0] }
theorem test_also : alsoOne.stopped = false ∧ alsoOne.booted = true ∧ alsoOne.agenda = .also (.strand 1 0) :: [] ∧
    (∀ j, Agent.strand 1 j ∉ alsoOne.acted) ∧ Agent.strand 0 0 ∈ alsoOne.acted ∧
    (let u := { alsoOne with agenda := [], cur := .strand 1 0 }; MayIssue u 1 0 ∧ OwnLine u placedImage ∧ u.me.slot ≠ 0 ∧
      decode (pcWords u placedImage).1 (pcWords u placedImage).2 = .ok .nop) := by
  refine ⟨by decide +kernel, by decide +kernel, by decide +kernel, by decide +kernel, by decide +kernel,
    by unfold MayIssue HoldsSlot Runs AtBreakpoint; decide +kernel, by unfold OwnLine lineWord; decide +kernel, by decide +kernel,
    by unfold pcWords lineWord; decide +kernel⟩
/-- A strand at an enabled breakpoint, and one whose count has reached its limit. -/
theorem test_breakpoint : (let s := (debugged one .ready).setMe { (debugged one .ready).me with bpt := [(3, 2 ^ 63 + 0x11)] }
    s.agenda = [] ∧ HoldsSlot s 0 0 ∧ AtBreakpoint s 0 ∧ s.me.wcount.toNat < 2 ^ s.me.wlim.toNat) ∧
    (let s := me (fun t => { t with wlim := 4, wcount := 16 }); s.agenda = [] ∧ HoldsSlot s 0 0 ∧
        2 ^ s.me.wlim.toNat ≤ s.me.wcount.toNat) := by
  unfold HoldsSlot Runs AtBreakpoint; decide +kernel
/-! ## Witnesses: loads that wait, places in a clk, gated clocks, host accesses, rings of engines -/

/-- A load that has not left, of one space, and its place in program order. -/
def waitingLoad (space : BitVec 3) (cls : BitVec 4 := 2) (order : Nat := 1) : FarLoad :=
  { far1 0 6 cls with id := none, space := space, addr := 0x40, order := order }
/-- A load that is to follow one under way; a queued store that one of its bytes has to follow, which a stuck one is not. -/
theorem test_load_waits : (let s := farLoading [far1 1 6] (at5 0x40)
    Issues s 1 true [1, 5] ∧ s.drain s.cur = s ∧ s.checkAccess s.cur 1 (shortAddr s ld8) 8 false 2 = none ∧
    s.me.loadWaits 2 1 (shortAddr s ld8) 8 = true ∧ s.me.loadWaits 3 1 (shortAddr s ld8) 8 = false) ∧
    (queued [entry 1 0x40]).me.loadWaits 3 1 0x44 8 = true ∧ (queued [heldStore]).me.loadWaits 1 1 0x40 8 = false ∧
    (queued [heldStore, { entry 1 0x44 with cls := 3 }]).me.stuck 1 = true ∧ (flat.canInject 1) = true ∧
    (pair [(8 * 12 + 1, full)]).canInject 1 = false := by unfold Issues; decide +kernel
theorem test_load_returns : (let u := farLoading [waitingLoad 0]; (∃ f, u.me.far = [f] ∧ f.id = none ∧ f.failed = none ∧
    f.dest = 6) ∧
    (u.core 0).fenced = false ∧ u.me.storeq = [] ∧ u.bad = [] ∧ u.checkAccess u.cur 0 0x40 8 false 2 = none) ∧
    (let u := farLoading [far1 1, waitingLoad 0]; u.me.far = [far1 1, waitingLoad 0] ∧ (far1 1).id ≠ none ∧
        (waitingLoad 0).id = none ∧
      (far1 1).cls = (waitingLoad 0).cls ∧ (waitingLoad 0).space ≠ 4 ∧ (far1 1).order < (waitingLoad 0).order) :=
  ⟨⟨⟨_, rfl, by decide +kernel, by decide +kernel, by decide +kernel⟩, by decide +kernel⟩, by decide +kernel⟩
theorem test_load_first : LoadFirst (waitingLoad 0) { entry 0 0 with order := 2, cls := 2 } ∧
    ¬ LoadFirst (waitingLoad 0 2 3) { entry 0 0 with order := 2 } ∧
    NoneFirst flat (.strand 0 0) (entry 0 0) := by unfold NoneFirst LoadFirst; decide +kernel
/-- The answer to a load whose own store was held when it left; a load that fails, alone or behind another. -/
theorem test_own_answer : (let f := { far1 5 with own := [{ heldStore with space := 4, addr := 2 * 2 ^ 40 + 0x40 }] }
    let s := awaiting (.load (.strand 0 0)) 3 [f]
    (s.strandOf (.strand 0 0)).far = [] ++ f :: [] ∧ f.id = some 5 ∧ f.failed = none ∧ f.own.map (fun h =>
        (h.kind, h.addr, h.size, h.keep)) =
      [(.store, f.addr, f.size, 2 ^ f.size - 1)] ∧ (∀ h ∈ f.own, h.data < 2 ^ (8 * f.size))) ∧
    (let m := (awaiting (.load (.strand 0 0)) 9).me; m.far = [far1 5] ∧ m.trapEn = true ∧ m.trapIn = false ∧ m.run ≠ .halted ∧
        m.run ≠ .trapped) ∧
    (let m := (awaiting (.load (.strand 0 0)) 9 [far1 4, far1 5]).me; m.far = far1 4 :: [far1 5] ∧ (far1 4).id ≠ some 5 ∧
        (far1 4).failed = none) := by
  decide +kernel
/-- What takes a precise fault while a load before it is under way: a wait for a broken ring, the watchdog,
a translation; and the end of the chain. -/
theorem test_fault_waits : (parked (.barrier 2 3 .broken)).me.far = [] ∧
    (farLoading [far1 1] (parked (.barrier 2 3 .broken))).me.far ≠ [] ∧
    (let s := me (fun t => { t with wlim := 4, wcount := 16 }); 2 ^ s.me.wlim.toNat ≤ s.me.wcount.toNat ∧ s.me.far = []) ∧
    (farLoading [far1 1] (parked (.translation 0x40 2 5))).me.far ≠ [] := by decide +kernel
def chainEnded : State := me (fun t => { t with pass := ⟨none, some (t.line ++ t.slot)⟩ })
theorem test_chain_ended : OnTurn chainEnded chainEnded 0 0 ∧ chainEnded.me.pass.ended = some (chainEnded.me.line ++
    chainEnded.me.slot) ∧
    chainEnded.me.far = [] := by unfold OnTurn TurnOf MayIssue HoldsSlot Runs AtBreakpoint; decide +kernel
theorem test_chain_ended_far : (let s := farLoading [far1 1] chainEnded; OnTurn s s 0 0 ∧ s.me.far ≠ [] ∧
    ∀ f ∈ s.me.far, f.id ≠ none ∧ f.failed = none) := by unfold OnTurn TurnOf MayIssue HoldsSlot Runs AtBreakpoint; decide +kernel
theorem test_monitor_pooled : (let s := (at5 0x40 flat).setMe { (at5 0x40 flat).me with x := [(5, 0x40), (6, 1)] }
    WaitReady s true [5, 6] ∧ s.checkAccess s.cur 2 0x40 1 false s.me.cls = none ∧ s.me.loadWaits s.me.cls 2 0x40 1 = false ∧
    (s.translate (s.asidOf s.cur) 0x40 1 false true).1 = .ok 0x40 0 ∧
    monitorHolds 0 ((s.translate (s.asidOf s.cur) 0x40 1 false true).2.physNat 0x40 1) 1 ∧
    ¬ monitorHolds 1 ((s.translate (s.asidOf s.cur) 0x40 1 false true).2.physNat 0x40 1) 1) := by
  unfold WaitReady Ready; simp only [monitorHolds]; decide +kernel
theorem test_return_discards : (let s := (handled true).setMe { (handled true).me with queued := [fault2], storeq := [heldStore, entry 0 0] }
    s.guard7 0 = true ∧ s.me.trapIn = true ∧ (∀ f ∈ s.me.far, f.handler = false) ∧ s.me.queued = fault2 :: [] ∧ heldStore.fault.isSome = true) := by
  decide +kernel
/-- A clean of a dirty line whose page is not there or may not be written, and of none; a CINV of a page that is not there. -/
theorem test_cache_line_fault : (let e := { entry 2 0x1000 (.cache 8 64) with size := 64 }
    let s := queued [e] (withL1 [{ line0 1 with asid := 1, vline := 0x40 }] one)
    (s.strandOf (.strand 0 0)).storeq = e :: [] ∧ e.addr % 64 = 0 ∧ s.asidOf (.strand 0 0) = 1 ∧
        s.fencedOff (.strand 0 0) = false ∧
    NoneFirst s (.strand 0 0) e ∧ (s.core 0).l1 = [{ line0 1 with asid := 1, vline := 0x40 }] ∧
        ({ line0 1 with asid := 1, vline := 0x40 } : L1Line).dirty ≠ 0 ∧
    ({ line0 1 with asid := 1, vline := 0x40 } : L1Line).vline = e.addr / 64 ∧
        (match (s.walk 1 e.addr false).1 with | .notPresent _ => true | _ => false) = true ∧
    (s.walk 1 e.addr false).2.parkMode 1 = false ∧
    (match (pageRO.walk 1 e.addr false).1 with | .ok _ _ w => !w | _ => false) = true ∧ ((queued [e]).core 0).l1 = []) := by
  unfold NoneFirst LoadFirst; decide +kernel
theorem test_invalidate_fault : (let e := { entry 2 0x1000 (.cache 10 64) with size := 64 }
    let s := queued [e] one
    (s.strandOf (.strand 0 0)).storeq = e :: [] ∧ e.kind = .cache 10 64 ∧ s.fencedOff (.strand 0 0) = false ∧
        NoneFirst s (.strand 0 0) e ∧
    (match (s.walk 1 (e.addr / 65536 * 65536) false).1 with | .notPresent _ => true | _ => false) = true ∧
    (match (pageRO.walk 1 (e.addr / 65536 * 65536) false).1 with | .ok _ _ w => !w | _ => false) = true) := by
  unfold NoneFirst LoadFirst; decide +kernel
/-- In park mode: a second page of one entry, and the page it waits for. -/
theorem test_second_miss : (let e : StoreEntry := { entry 2 0x40 with retry := some (0x20040, 5) }
    (∀ r, e.retry = some r → r.1 / 65536 ≠ e.addr / 65536)) ∧ (∀ r, (entry 2 0x40).retry ≠ some r) := by
  refine ⟨fun r h => ?_, fun r h => ?_⟩
  · cases h
    decide
  · cases h
/-- A place of a clk in which nothing of its core has run, one whose place has passed, and a package whose main clock is gated. -/
theorem test_places_in_clk : (let s := { one with agenda := [.event (.vapply 0)] }
    s.agenda = .event (.vapply 0) :: [] ∧ Runs s ∧ (∀ x ∈ s.units, x.1 = 0 → x.2 ≤ 16)) ∧
    (let s := { one with agenda := [.event (.vapply 0)], units := [(0, 21)] }; Runs s ∧ ∃ x ∈ s.units, x.1 = 0 ∧ 16 < x.2) ∧
    (let s := { one with agenda := [.event (.stepOpen 0)], power := { one.power with pstate := 2 } }
     s.stopped = false ∧ s.booted = true ∧ s.asleep (.stepOpen 0) = true) ∧
    ringPlace (.tick 0) = none ∧ one.asleep (.tick 0) = false := by unfold Runs; decide +kernel
theorem test_also_late : (let s := { alsoOne with units := [(1, 3)] }; Runs s ∧ s.agenda = .also (.strand 1 0) :: [] ∧
    ∃ x ∈ s.units, x.1 = (1 : CoreId).toNat ∧ (0 : StrandId).toNat < x.2) := by unfold Runs; decide +kernel
/-- A host access behind one of its window, one whose page is not there in park mode, and one that has waited for it. -/
def hostWait (due : Nat) : HostWait := ⟨0, 4104, .read 8, some (0x400008, due)⟩
def hostParked (waits : List HostWait) : State := let s := one.input (.hostWindow 0 ⟨4096, 4096, 0x400000, 1, true, true⟩)
  { s.setPart 0 { s.part 0 with parkMode := true } with hostWaits := waits }
theorem test_host_waits : (∃ y ∈ (hostParked [hostWait 5]).hostWaits, y.win = 0) ∧ (∀ y ∈ (hostParked [hostWait 5]).hostWaits,
    y.win ≠ 1) ∧
    ((hostParked [hostWait 5, hostWait 6]).hostWaits.filter (fun y => y.win == 0)) = hostWait 5 :: [hostWait 6] ∧
    (let s := hostParked [hostWait 5]; let w := s.hostIn.get ⟨0, 0, 0, 0, false, false⟩ 0
     w.readable = true ∧ w.off ≤ 4104 ∧ 4104 - w.off + 8 ≤ w.size ∧ s.power.pstate ≠ 3 ∧
     (s.hostMiss 1 ((linePieces 9 0x400008 8).map (fun p => p.1))).1 = some 0x400008 ∧
     (s.hostMiss 1 ((linePieces 9 0x400008 8).map (fun p => p.1))).2.tai < 5 ∧
     0 ≤ (s.hostMiss 1 ((linePieces 9 0x400008 8).map (fun p => p.1))).2.tai) ∧
    (hostWin.hostMiss 0 ((linePieces 9 0x400008 8).map (fun p => p.1))).1 = none ∧
    (∀ m, (⟨0, 4104, .read 8, none⟩ : HostWait).missed ≠ some m) := by
  refine ⟨by decide +kernel, by decide +kernel, by decide +kernel, by decide +kernel, by decide +kernel, fun m h => by cases h⟩
theorem test_debug_core : (let s := debugged one .halted; (s.core 0).dbg = true ∧ (s.strandOf (.strand 0 0)).run = .halted) ∧
    (one.core 0).dbg = false ∧ (31 : Nat) < 32 := by decide +kernel
/-- Multicast packets that differ in their destination alone, behind the one that is granted. -/
theorem test_copies : (let p := packet 1 10; let q := retarget p 3
    pktKind p = 10 ∧ (∀ x ∈ [q], retarget x 0 = retarget p 0) ∧ retarget (packet 1 10 1) 0 ≠ retarget p 0) ∧
        pktKind (packet 1 0) ≠ 10 := by
  decide +kernel
/-- EDRAIN to placed memory that clears the arrival counts of slices 0 and 7. -/
theorem test_edrain_clears : (let m := fields [(0, 0x20), (16, 0x81), (52, 1), (53, 2), (128, 0x1000)]
    m.testBit 52 = true ∧ (fieldOf m 16 8).testBit 7 = true ∧ (fieldOf m 16 8).testBit 6 = false) := by decide +kernel
/-- VAPPLY at its first row: a ring off, two sources in one S-group, nothing filled, a slot to claim; and at its last. -/
def vapply2 : Nat := fields [(0, 0x10), (27, 2), (32, 3), (42, 4)]
def applyRings (tail : BitVec 9) (group : BitVec 4) (s : State) : State :=
  [2, 3, 4].foldl (fun s q => co (fun k => k.setRing q { Ring.reset with
    en := true, scount := 3, ssize := 64, tail := if q = 4 then 0 else tail, claim := if q = 4 then 0 else tail, sgroup :=
        if q = 3 then group else 0, base := if q = 4 then 2 ^ 18 else 0 }) s) s
theorem test_vapply_claims : (let k := (applyRings 1 1 flat).core 0; (∀ q ∈ [2, 3, 4], ringUsable (k.ring q) ∧
    64 ≤ (k.ring q).ssize.toNat) ∧
    (∀ q ∈ [2, 3], 1 ≤ filledOf (k.ring q)) ∧ 1 ≤ freeOf (k.ring 4) ∧ (k.ring 3).sgroup ≠ (k.ring 2).sgroup) ∧
    ¬ ringUsable ((flat.core 0).ring 4) ∧ (let k := (applyRings 1 0 flat).core 0; ¬ (k.ring 3).sgroup ≠ (k.ring 2).sgroup) ∧
    ¬ 1 ≤ filledOf (((applyRings 0 1 flat).core 0).ring 2) ∧
    EngineReady (applyRings 1 1 (engine 8 vapply2)) 0 8 0x10 (command vapply2) [] ∧
        (vapplyOp (command vapply2).bits.toNat).isSome = true ∧
    fieldOf vapply2 42 5 = 4 ∧ ((vapplyOp (command vapply2).bits.toNat).map (fun o => o.srcs)) = some 2 := by
  refine ⟨by unfold ringUsable; decide +kernel, by unfold ringUsable; decide +kernel, by decide +kernel, by decide +kernel,
    engineReady_spec _ _ _ _ (by decide +kernel) (by decide +kernel), by decide +kernel, by decide +kernel, by decide +kernel⟩
theorem test_vapply_ends : (let s := co (fun k => k.setRing 4 { k.ring 4 with claim := 1 }) (applyRings 1 1 (engine 8 vapply2
    true 15))
    let k := s.core 0
    EngineReady s 0 8 0x10 (command vapply2) [] ∧ fieldOf (k.queue 8).ctr.toNat 0 16 = 15 ∧ (k.ring 4).mode ≠ 1 ∧
        1 ≤ claimedOf (k.ring 4) ∧
    (∀ q ∈ [2, 3], 1 ≤ filledOf (k.ring q) ∧ filledOf (k.ring q) ≤ slotsOf (k.ring q)) ∧ fieldOf (k.queue 8).ctr.toNat 16 16 =
        fieldOf vapply2 47 8) :=
  ⟨engineReady_spec _ _ _ _ (by decide +kernel) (by decide +kernel), by decide +kernel⟩
/-- CPY of three pieces from ring 2 to ring 4, and one of a nest; what its rings and its slots must hold. -/
def cpy2 : Nat := fields [(0, 0x30), (22, 1), (23, 2), (28, 1), (29, 4), (36, 1), (44, 1), (192, 191), (256, 1), (272, 256),
    (296, 256)]
def copying (started : Bool) (ctr : Nat) : State := applyRings 1 1 (engine 10 cpy2 started ctr)
theorem test_cpy_rings : EngineReady (copying false 0) 0 10 0x30 (command cpy2) [] ∧ (let k := (copying false 0).core 0
    ringUsable (k.ring 2) ∧ ringUsable (k.ring 4) ∧ 1 ≤ filledOf (k.ring 2) ∧ 1 ≤ freeOf (k.ring 4) ∧
        (0 : Nat) / 2 ^ 64 < copyLevels cpy2 4 ∧
    0 + 64 ≤ 1 * ((k.ring 2).ssize.toNat * 64) ∧ 1 * ((k.ring 2).ssize.toNat * 64) < 4096 + 1 ∧ fieldOf cpy2 16 3 = 0) ∧
    ¬ copyLevels cpy2 4 ≤ nestNext (copyLevels cpy2) 0 / 2 ^ 64 ∧
    (let s := co (fun k => k.setRing 4 { k.ring 4 with claim := 1 }) (copying true (2 + 2 ^ 16)); let k := s.core 0
     copyLevels cpy2 4 ≤ nestNext (copyLevels cpy2) (2 + 2 ^ 16) / 2 ^ 64 ∧ 1 ≤ filledOf (k.ring 2) ∧ (k.ring 4).mode ≠ 1 ∧
     1 ≤ claimedOf (k.ring 4) ∧ filledOf (k.ring 4) + claimedOf (k.ring 4) ≤ slotsOf (k.ring 4)) ∧
    pieceAt cpy2 0 16 (2 + 2 ^ 16) = 256 + 128 := by
  refine ⟨engineReady_spec _ _ _ _ (by decide +kernel) (by decide +kernel), by unfold ringUsable; decide +kernel, by decide +kernel,
    by decide +kernel, by decide +kernel⟩
theorem test_cpy_apart : (let r := ((copying false 0).core 0).ring 4
    sideAddr r 0 0 / 2 ^ 18 = 1 ∧ slotAddrOf r 1 = sideAddr r 0 4096 ∧ fieldOf cpy1 16 3 = 0 ∧ fieldOf cpy1 19 3 ≠ 0) ∧
    filledOf (((applyRings 0 1 flat).core 0).ring 2) < 1 := by decide +kernel
/-- The engine's accesses: host memory under a writable window, pooled memory of address space 1. -/
theorem test_engine_access : (hosted.engineFault 0 3 8 8 false = none ∧ hosted.hostWindow 8 8 = some ⟨0, 4096, 0x1000, true⟩ ∧
    hosted.bad = []) ∧
    flat.engineFault 0 0 0x40 64 false = none ∧ flat.engineFault 0 1 0x40 64 true = none ∧
    (let s := mapped; let u := (s.translate 1 0x40 8 true true).2
     s.asidOf (.strand 0 0) = 1 ∧ (s.translate 1 0x40 8 false true).1 = .ok 0x40 0 ∧ (s.translate 1 0x40 8 true true).1 = .ok
         0x40 0 ∧
     NotWalked u 1 ∧ u.roKeep 0x40 8 = 2 ^ 8 - 1 ∧ u.qstatValue 0x40 8 5 = 5 ∧ u.blockValue 0x40 5 8 = 5) :=
         by unfold NotWalked; decide +kernel
/-- A type no form takes; VTOPK without elements; arrivals beyond a barrier that is full. -/
theorem test_bad_types : (∀ e ∈ typedForms, ∀ n ∈ e.2.1 ⟨0, 0, 0, 0, 0, 0, 7, 0⟩, n.toNat < vec.me.wv) ∧
    (∀ e ∈ typedForms, ¬ e.2.2 ⟨0, 0, 0, 0, 0, 0, 7, 0⟩) := by
  refine ⟨fun e _ n _ => ?_, ?_⟩
  · have : vec.me.wv = 64 := by decide +kernel
    omega
  · simp [typedForms, vectorCompares, predicateForms, countForms, moveForms, gatherForms, fillForms, laneConversions,
      narrowings, widenings]
theorem test_topk_bad : (let f : FVL := ⟨0, 0, 2, 0, 0, 0, 0, 0⟩; f.vd.toNat < 63 ∧ f.vd.toNat + 1 < vec.me.wv ∧
    f.va.toNat < vec.me.wv ∧
    (∀ j < 2, vec.vphys (f.vd.toNat + j) ≠ vec.vphys f.va.toNat) ∧ ¬ (1 ≤ f.imm.toNat ∧ f.imm.toNat ≤ 64)) := by decide +kernel
theorem test_barrier_full : (let s := barrier 4; let r := s.myRing 2; r.en = true ∧ r.mode = 1 ∧ s.me.storeq = [] ∧
    s.me.far = [] ∧
    filledOf r ≤ slotsOf r ∧ slotsOf r - filledOf r < (1 : BitVec 9).toNat) := by decide +kernel
/-- How operators stand when their partition is placed again: done, with a core lost, of a run again, of steps. -/
theorem test_end_codes : (let s := operated false none; let pl := (s.core 0).active.getD (Plane.bare 1 0)
    pl.group = none ∧ pl.rerun = false ∧ s.coresOf pl.record = [0] ∧ (∀ e ∈ (s.part 0).relaunch, e.2 ≠ pl.record) ∧
    (∀ c ∈ s.coresOf pl.record, (s.core c).fenced = false ∧ (s.core c).opFault = 0)) ∧
    (let s := co (fun k => { k with fenced := true }) (operated false none); ∃ c ∈ s.coresOf 0x400000, (s.core c).fenced = true) ∧
    ((operated true none).core 0).active.map (fun p => p.rerun) = some true ∧
    ((operated false (some 0)).core 0).active.map (fun p => p.group.isSome) = some true := by decide +kernel
theorem test_save_waits : (let s := laddered (.save 0 3 0) 40000 (queued [entry 1 0x40] one); s.midAccess 0 = true ∧
    (laddered (.save 0 3 0) 40000 (queued [heldStore] one)).midAccess 0 = false) := by decide +kernel

end Sys2Proof.Tests

end
end

section
/-! PROOFS. Definitions that the rules of every chapter use (R17, R51, R88): saturation, sign extension,
and what a special-register write leaves in a rotating base. -/

namespace Sys2Proof.Machine

/-! ## Saturation (R51) -/

theorem sat_below {x lo : Int} (hi : Int) (h : x < lo) : sat x lo hi = lo := if_pos h

theorem sat_above {x lo hi : Int} (hlo : ¬ x < lo) (hhi : hi < x) : sat x lo hi = hi := by
  rw [sat, if_neg hlo, if_pos hhi]

theorem sat_within {x lo hi : Int} (hlo : ¬ x < lo) (hhi : ¬ hi < x) : sat x lo hi = x := by
  rw [sat, if_neg hlo, if_neg hhi]

/-! ## Zero and sign extension (R88) -/

/-- zext(v, n) of R88 is the field of `n` bits from bit 0. -/
theorem bits_zero (v n : Nat) : bits v 0 n = v % 2 ^ n := rfl

/-- The sign bit of an `n`-bit number is 1 just when the number is at least half of the range. -/
theorem half_le_mod_iff_testBit (v : Nat) {n : Nat} (h : 0 < n) : 2 ^ (n - 1) ≤ v % 2 ^ n ↔ v.testBit (n - 1) = true := by
  have hmsb := BitVec.msb_eq_decide (BitVec.ofNat n v)
  have hsign : n - 1 < n := by omega
  rw [BitVec.msb_eq_getLsbD_last, BitVec.getLsbD_ofNat, BitVec.toNat_ofNat, decide_eq_true hsign, Bool.true_and] at hmsb
  rw [hmsb, decide_eq_true_iff]

theorem sextNat_eq_ite_testBit (v : Nat) {n : Nat} (h : 0 < n) :
    sextNat v n = if v.testBit (n - 1) then ((v % 2 ^ n : Nat) : Int) - 2 ^ n else ((v % 2 ^ n : Nat) : Int) := by
  simp only [sextNat, half_le_mod_iff_testBit v h]

/-! ## Rotating bases (R17, R118) -/

/-- Register 4 is vbase: R17's remainder of 5 bits, and 0 for an empty region. -/
theorem Strand.specialWrite_vbase (m : Strand) (v : DWord) :
    m.specialWrite 4 v = { m with vbase := if m.vn = 0 then 0 else BitVec.ofNat 5 (v.toNat % m.vn) } := by
  simp only [Strand.specialWrite, baseWrite, apply_ite (BitVec.ofNat 5), BitVec.ofNat_eq_ofNat]

/-- Register 5 is pbase: R17's remainder of 6 bits, and 0 for an empty region. -/
theorem Strand.specialWrite_pbase (m : Strand) (v : DWord) :
    m.specialWrite 5 v = { m with pbase := if m.pn = 0 then 0 else BitVec.ofNat 6 (v.toNat % m.pn) } := by
  simp only [Strand.specialWrite, baseWrite, apply_ite (BitVec.ofNat 6), BitVec.ofNat_eq_ofNat]

/-- An MTS of any register leaves the pc to sequential flow. -/
@[simp] theorem Strand.specialWrite_line (m : Strand) (n : Nat) (v : DWord) : (m.specialWrite n v).line = m.line := by
  unfold Strand.specialWrite; split <;> rfl
@[simp] theorem Strand.specialWrite_slot (m : Strand) (n : Nat) (v : DWord) : (m.specialWrite n v).slot = m.slot := by
  unfold Strand.specialWrite; split <;> rfl

theorem exec_mts (f : FS) (s : State) : exec (.mts f) s =
    s.run 1 none (s.guard4 f.g) [f.d] (fun s => .next (s.modMe (fun t => t.specialWrite f.sreg.toNat (s.rx f.d)))) := rfl

/-- MTS writes x[d] to the special register of its context and goes on in sequence; nothing else differs (R118). -/
theorem mts_spec {s : State} (f : FS) (h : Issues s 1 (s.guard4 f.g) [f.d]) :
    ∃ t, exec (.mts f) s = .next t ∧ OnlyMe s t ∧ Sequel s t 1 ∧
      t.me = { s.me.specialWrite f.sreg.toNat (s.rx f.d) with
        line := t.me.line, slot := t.me.slot, pass := Passing.none } := by
  obtain ⟨hguard, huses, hnext⟩ := h
  exact ⟨_, (exec_mts f s).trans (run_op rfl hguard huses),
    setMe_spec _ (Strand.specialWrite_line _ _ _) (Strand.specialWrite_slot _ _ _) hnext⟩

theorem mts_vbase_spec {s : State} (f : FS) (h : Issues s 1 (s.guard4 f.g) [f.d]) (hr : f.sreg = 4) :
    ∃ t, exec (.mts f) s = .next t ∧ OnlyMe s t ∧ t.me = { s.me with
      vbase := if s.me.vn = 0 then 0 else BitVec.ofNat 5 ((s.rx f.d).toNat % s.me.vn)
      line := t.me.line, slot := t.me.slot, pass := Passing.none } := by
  obtain ⟨t, hexec, honly, -, hme⟩ := mts_spec f h
  rw [hr, show (4 : BitVec 5).toNat = 4 from rfl, Strand.specialWrite_vbase] at hme
  exact ⟨t, hexec, honly, hme⟩

theorem mts_pbase_spec {s : State} (f : FS) (h : Issues s 1 (s.guard4 f.g) [f.d]) (hr : f.sreg = 5) :
    ∃ t, exec (.mts f) s = .next t ∧ OnlyMe s t ∧ t.me = { s.me with
      pbase := if s.me.pn = 0 then 0 else BitVec.ofNat 6 ((s.rx f.d).toNat % s.me.pn)
      line := t.me.line, slot := t.me.slot, pass := Passing.none } := by
  obtain ⟨t, hexec, honly, -, hme⟩ := mts_spec f h
  rw [hr, show (5 : BitVec 5).toNat = 5 from rfl, Strand.specialWrite_pbase] at hme
  exact ⟨t, hexec, honly, hme⟩

/-- Settles O56: saturation and the extensions by the definitions of R51 and R88, the bases by the rule of MTS. -/
theorem basicDefinitions : Obligations.BasicDefinitions := by
  unfold Obligations.BasicDefinitions
  exact ⟨fun x lo hi => ⟨sat_below hi, sat_above, sat_within⟩, fun v n hn => ⟨bits_zero v n, sextNat_eq_ite_testBit v hn⟩,
    fun f s hissues _ => ⟨mts_vbase_spec f hissues, mts_pbase_spec f hissues⟩⟩

end Sys2Proof.Machine
end

section
/-! PROOFS. Division and NOP (R107, R109): each arm of division computes the rule's result, and major 0x01 decodes to NOP
just when the other 25 bits are zero. -/

namespace Sys2Proof.Machine

/-! ## Division (R109) -/

theorem exec_div (f : FA) (s : State) : exec (.div f) s = s.runA f (divSigned (s.rx f.a) (s.rx f.b)) := rfl
theorem exec_divu (f : FA) (s : State) : exec (.divu f) s = s.runA f (divUnsigned (s.rx f.a) (s.rx f.b)) := rfl
theorem exec_rem (f : FA) (s : State) : exec (.rem f) s = s.runA f (remSigned (s.rx f.a) (s.rx f.b)) := rfl
theorem exec_remu (f : FA) (s : State) : exec (.remu f) s = s.runA f (remUnsigned (s.rx f.a) (s.rx f.b)) := rfl

/-- R109 states the remainder as the dividend less the divisor times the quotient. -/
theorem remUnsigned_eq_sub_mul_div (a b : DWord) :
    remUnsigned a b = if b = 0 then a else BitVec.ofNat 64 (a.toNat - b.toNat * (a.toNat / b.toNat)) := by
  rw [remUnsigned, Nat.mod_eq_sub]

/-- Every division form is a register form with the rule's value of its two sources, whatever they are. -/
theorem exec_divisionForm : ∀ e ∈ divisionForms, ∀ (f : FA) (s : State),
    exec (e.1 f) s = s.runA f (e.2 (s.rx f.a) (s.rx f.b)) := by
  intro e he f s
  simp only [divisionForms, List.mem_cons, List.not_mem_nil, or_false] at he
  obtain rfl | rfl | rfl | rfl := he
  · exact exec_div f s
  · exact exec_divu f s
  · exact exec_rem f s
  · rw [exec_remu, remUnsigned_eq_sub_mul_div]

/-- Settles O2: each form is a register form of format A, which never traps, with the value of R109. -/
theorem division : Obligations.Division := by
  unfold Obligations.Division
  intro e he f s hissues
  rw [exec_divisionForm e he f s]
  exact runA_spec f _ hissues

/-! ## NOP (R107) -/

theorem exec_nop (s : State) : exec .nop s = s.run 1 none true [] (fun s => .next s) := rfl

/-- NOP goes on in sequence and changes nothing else. -/
theorem nop_spec {s : State} (h : (s.successor 1).isSome = true) : ∃ t, exec .nop s = .next t ∧ Passed s t 1 :=
  ⟨_, (exec_nop s).trans (run_op rfl rfl (by simp)), next_spec h⟩

/-- A field that lies in the first word reads the same whatever the second word. -/
theorem fld_firstWord (w0 w1 : Word) {lo n : Nat} (h : lo + n ≤ 32) :
    fld (w0.toNat + 2 ^ 32 * w1.toNat) lo n = w0.extractLsb' lo n := by
  refine BitVec.eq_of_getLsbD_eq fun i hi => ?_
  have hfirst : lo + i < 32 := by omega
  rw [fld, BitVec.getLsbD_extractLsb', BitVec.getLsbD_ofNat, Nat.testBit_div_two_pow, Nat.add_comm w0.toNat,
    Nat.testBit_two_pow_mul_add _ w0.isLt, Nat.add_comm i, if_pos hfirst, BitVec.testBit_toNat]

/-- Major 0x01 has one form, whose other 25 bits the format leaves out. -/
theorem decodeRaw_majorOne {w : Nat} (h : fld w 25 7 = 1) : decodeRaw w = some (.nop, zeroAt w 0 25) := by
  unfold decodeRaw
  rw [h]
  rfl

/-- A word of major 0x01 is NOP when its bits [24:0] are zero, else a field error; the second word plays no part. -/
theorem decode_majorOne (x : BitVec 25) (w1 : Word) :
    decode (0x01#7 ++ x) w1 = if x = 0 then .ok .nop else .error .field := by
  have hmajor : fld ((0x01#7 ++ x).toNat + 2 ^ 32 * w1.toNat) 25 7 = 1 :=
    (fld_firstWord _ w1 (by decide)).trans BitVec.extractLsb'_append_eq_left
  have hrest : fld ((0x01#7 ++ x).toNat + 2 ^ 32 * w1.toNat) 0 25 = x :=
    (fld_firstWord _ w1 (by decide)).trans BitVec.extractLsb'_append_eq_right
  rw [decode, decodeRaw_majorOne hmajor, zeroAt, hrest]
  by_cases hx : x = 0
  · rw [if_pos hx, hx]
    rfl
  · rw [if_neg hx, beq_eq_false_iff_ne.mpr hx]
    rfl

/-- Settles O6: sequential flow alone, and the decoder on major 0x01. -/
theorem nopForm : Obligations.NopForm := by
  unfold Obligations.NopForm
  refine ⟨fun s hnext => nop_spec hnext, fun w1 => ?_, fun x w1 hx => ?_⟩
  · have hword : decode 0x02000000 w1 = .ok .nop := decode_majorOne 0 w1
    rw [hword]
    trivial
  · rw [decode_majorOne, if_neg hx]

end Sys2Proof.Machine
end
